-- ==== Sys2Proof/Word.lean ====
section
/-! DEFINITION. The word types the part's ports carry, and the fixed table: a list paired with the proof of its
length, so that every berth, line, slot and sample number names exactly one cell. -/

namespace Sys2Proof

/-- A byte as the control link, the berth lines and the media port carry it (12.1.1). -/
abbrev Byte := BitVec 8

/-- A two-byte quantity, sent most significant byte first (12.1.1). -/
abbrev Half := BitVec 16

/-- A four-byte quantity: block counts, admission numbers, frames sent (R179). -/
abbrev Long := BitVec 32

/-- An audio sample, 16-bit two's complement (Introduction 1.5.3.6). -/
abbrev Sample := BitVec 16

/-- A fixed number of like things, numbered from 0: plain data (a list) with its length. -/
structure Table (α : Type) (n : Nat) where
  cells : List α
  size : cells.length = n
  deriving DecidableEq, Repr

/-- The cell of number `i`. -/
def Table.get {α : Type} {n : Nat} (t : Table α n) (i : Fin n) : α :=
  t.cells.get (i.cast t.size.symm)

/-- The table with cell `i` replaced. -/
def Table.set {α : Type} {n : Nat} (t : Table α n) (i : Fin n) (v : α) : Table α n :=
  ⟨t.cells.set i.val v, by rw [List.length_set]; exact t.size⟩

/-- The table with cell `i` changed by `f`. -/
def Table.modify {α : Type} {n : Nat} (t : Table α n) (i : Fin n) (f : α → α) : Table α n :=
  t.set i (f (t.get i))

/-- The table whose cell `i` is `f i`. -/
def Table.ofFn {α : Type} {n : Nat} (f : Fin n → α) : Table α n :=
  ⟨List.ofFn f, List.length_ofFn⟩

/-- The table whose cells are all `v`. -/
def Table.fill {α : Type} (n : Nat) (v : α) : Table α n :=
  ⟨List.replicate n v, List.length_replicate⟩

/-- The table with every cell changed by `f`. -/
def Table.map {α β : Type} {n : Nat} (t : Table α n) (f : α → β) : Table β n :=
  ⟨t.cells.map f, by rw [List.length_map]; exact t.size⟩

/-- The 48 samples of one audio stream in one block (Introduction 1.5.1.1). -/
abbrev Block := Table Sample 48

/-- A block of silence: 48 samples of 0 (R58). -/
def Block.silence : Block := Table.fill 48 0

end Sys2Proof
end

