-- ==== Sys2Proof/Config.lean ====
section
/-! DEFINITION. The sizes the types of the model are built on. The spec fixes every one of them and leaves no value
of a result open, so this file holds no free value: the choices the spec leaves to the order of arrivals are operands
of the commands (log entries 3 and 4), and every other limit stands in Machine/Limits.lean. -/

namespace Sys2Proof

/-- Berth positions of the coach (Introduction 1.2.1). -/
abbrev berthCount : Nat := 48

/-- Berth lines of the part (Introduction 1.4). -/
abbrev lineCount : Nat := 4

/-- Slots of one line (Introduction 1.5.1.5). -/
abbrev slotCount : Nat := 12

/-- Picture lanes of one line (R67). -/
abbrev laneCount : Nat := 4

/-- Programmes (R51). -/
abbrev programmeCount : Nat := 8

/-- Slots of a track's jitter buffer (R55). -/
abbrev jitterSlots : Nat := 4

/-- Chime patterns (R134). -/
abbrev patternCount : Nat := 4

/-- A berth number, 0 to 47. -/
abbrev BerthNo := Fin berthCount

/-- A line number, 0 to 3. -/
abbrev LineNo := Fin lineCount

/-- A slot number of a line, 0 to 11. -/
abbrev SlotNo := Fin slotCount

/-- A lane of a line: index 0 to 3 stands for the spec's lanes 1 to 4. -/
abbrev LaneNo := Fin laneCount

/-- A programme number, 0 to 7. -/
abbrev ProgrammeNo := Fin programmeCount

/-- A track number within its programme, 0 or 1. -/
abbrev TrackNo := Fin 2

/-- A zone number, 0 to 7. -/
abbrev ZoneNo := Fin 8

/-- A chime pattern number, 0 to 3. -/
abbrev PatternNo := Fin patternCount

end Sys2Proof
end

