-- ==== Sys2Proof/Syntax.lean ====
section
/-! DEFINITION. The commands: one constructor for each row of spec/opcode_table.json. A host request carries its
body's fields AS CARRIED (bytes and halves, before any test or clamp); an event carries what the outside world gives
the part at that event. -/

namespace Sys2Proof

/-- The three announcement sources (R83). -/
inductive Source where
  | d | c | r
  deriving DecidableEq, Repr

/-- The two microphones, each with its push-to-talk contact (R83). -/
inductive Mic where
  | d | c
  deriving DecidableEq, Repr

/-- The three contact inputs (R155). -/
inductive Contact where
  | pttD | pttC | alarmIn
  deriving DecidableEq, Repr

/-- The optional fields of BERTH STAGE in field order, as carried (12.2.1 note 1): `none` where the presence mask leaves
the field out. `undefinedBit` says that the mask sets a bit above bit 11. -/
structure StageBody where
  programme : Option Byte := none
  track : Option Byte := none
  picture : Option Byte := none
  volume : Option Byte := none
  zone : Option Byte := none
  language : Option Byte := none
  dnd : Option Byte := none
  lock : Option Byte := none
  tag0 : Option Byte := none
  tag1 : Option Byte := none
  tag2 : Option Byte := none
  tag3 : Option Byte := none
  undefinedBit : Bool := false
  deriving DecidableEq, Repr

/-- The optional fields of PROGRAMME TRIM as carried; `undefinedBit`: the mask sets a bit above bit 2. -/
structure TrimBody where
  trim0 : Option Byte := none
  trim1 : Option Byte := none
  stillCard : Option Byte := none
  undefinedBit : Bool := false
  deriving DecidableEq, Repr

/-- The optional fields of COACH SET as carried; `undefinedBit`: the mask sets a bit above bit 3. -/
structure CoachBody where
  quiet : Option Byte := none
  limit : Option Byte := none
  alarmCard : Option Byte := none
  busyCard : Option Byte := none
  undefinedBit : Bool := false
  deriving DecidableEq, Repr

/-- The fields that ANNOUNCE and PTT PROFILE SET share, in order and as carried (12.2.1 note 2). -/
structure AnnounceBody where
  cls : Byte
  zones : Byte
  attrMask : Byte
  mode : Byte
  chime : Byte
  duck : Byte
  attack : Byte
  release : Byte
  level : Byte
  card : Byte
  lead : Half
  tail : Half
  maxLive : Half
  deriving DecidableEq, Repr

/-- One note of CHIME LOAD as carried (12.2.1 note 3). -/
structure NoteBody where
  tone : Byte
  duty : Byte
  duration : Half
  a0 : Byte
  decay : Byte
  deriving DecidableEq, Repr

/-- One byte received on CTL_RX, and whether its stop bit was good (R165). -/
structure RxByte where
  data : Byte
  stopGood : Bool := true
  deriving DecidableEq, Repr

/-- What a line's receiver found in one reply slot (R36). `undecoded` is one driver whose signal gave no whole bytes, or
was still running when the slot completed; `sent bs` is one driver that sent exactly the bytes `bs`. -/
inductive SlotSignal where
  | collision
  | silent
  | undecoded
  | sent (bytes : List Byte)
  deriving DecidableEq, Repr

/-- A frame that arrived whole at the media port (R49): the receiver's decision on its frame check sequence, its type
field, and its bytes after the 14-byte Ethernet header up to the check sequence, padding included. -/
structure EthernetFrame where
  checkGood : Bool
  etherType : Half
  bytes : List Byte
  deriving DecidableEq, Repr

/-- The commands of the part: the rows of spec/opcode_table.json, in the table's order. -/
inductive Instr where
  /-- BERTH_READ (R11). -/
  | berthRead (berth : Byte)
  /-- BERTH_STAGE (R12). -/
  | berthStage (berth : Byte) (body : StageBody)
  /-- STAGE_DISCARD (R14). -/
  | stageDiscard
  /-- COMMIT (R15). -/
  | commit
  /-- BERTH_EDIT (R20, R21). -/
  | berthEdit (zones attrMask mode operation destination source : Byte)
  /-- LINE_SETUP (R30). -/
  | lineSetup (line count : Byte)
  /-- LINE_READ (R43). -/
  | lineRead (line : Byte)
  /-- LINE_RESTART (R45). -/
  | lineRestart (line : Byte)
  /-- LINE_STOP (R44). -/
  | lineStop (line : Byte)
  /-- BERTH_LINK_READ (R46). -/
  | berthLinkRead (berth : Byte)
  /-- BERTH_LINK_CLEAR (R47). -/
  | berthLinkClear (berth : Byte)
  /-- PROGRAMME_SETUP (R52). -/
  | programmeSetup (programme picture tracks trim0 trim1 stillCard : Byte)
  /-- PROGRAMME_TRIM (R53). -/
  | programmeTrim (programme : Byte) (body : TrimBody)
  /-- PROGRAMME_READ (R54): a programme, or the port with FFh. -/
  | programmeRead (selector : Byte)
  /-- LANE_READ (R82). -/
  | laneRead (line : Byte)
  /-- ANNOUNCE (R92). -/
  | announce (body : AnnounceBody) (deadline : Half)
  /-- ANNOUNCEMENT_READ (R101): selector 00h handle, 01h source. -/
  | announcementRead (selector code : Byte)
  /-- PTT_PROFILE_SET (R100). -/
  | pttProfileSet (profile : Byte) (body : AnnounceBody)
  /-- CUT (R115). -/
  | cut (handle mode : Byte)
  /-- FINISHED_READ (R119). -/
  | finishedRead (start : Byte)
  /-- CHIME_LOAD (R141): the note count is the number of notes carried. -/
  | chimeLoad (pattern : Byte) (notes : List NoteBody)
  /-- CHIME_READ (R143). -/
  | chimeRead (pattern : Byte)
  /-- MIX_READ (R154). -/
  | mixRead (berth clear : Byte)
  /-- COACH_SET (R160). -/
  | coachSet (body : CoachBody)
  /-- COACH_READ (R161). -/
  | coachRead
  /-- ALARM_RELEASE (R158). -/
  | alarmRelease
  /-- CALL_TAKE (R163). -/
  | callTake
  /-- CALL_CLEAR (R164). -/
  | callClear (berth : Byte)
  /-- START (R170). -/
  | start
  /-- RESTART (R171). -/
  | restart
  /-- STATUS_READ (R172). -/
  | statusRead
  /-- EVENTS_READ (R175). -/
  | eventsRead
  /-- EVENTS_CLEAR (R174). -/
  | eventsClear (positions : Half)
  /-- EVENTS_ENABLE (R175). -/
  | eventsEnable (values : Half)
  /-- CONTROL_FRAME_RECEIVED (R167): the bytes that complete the frame, in order of receipt (from the receive state HUNT a
  whole frame, start byte first). -/
  | controlFrameReceived (bytes : List RxByte)
  /-- FRAME_TIMEOUT (R166). -/
  | frameTimeout
  /-- REQUEST_TAKEN_LINK_REFUSAL (R169): a taken record's counted bytes and the result of its check. -/
  | requestTakenLinkRefusal (counted : List Byte) (checkGood : Bool)
  /-- REPLY_SENT (R168). -/
  | replySent
  /-- RESET_N_LOW (R171). -/
  | resetNLow
  /-- RESET_N_HIGH (R171). -/
  | resetNHigh
  /-- BLOCK_START (R145): the blocks the microphones deliver for the block (R146 note 1), and the berths whose block start
  is taken first, in that order (R132). -/
  | blockStart (micD micC : Block) (first : List BerthNo)
  /-- TRACK_STARVED (R59). -/
  | trackStarved (programme : ProgrammeNo) (track : TrackNo)
  /-- QUEUE_DEADLINE_EXPIRY (R104). -/
  | queueDeadlineExpiry (handle : Byte)
  /-- LEAD_END (R106). -/
  | leadEnd (handle : Byte)
  /-- ENVELOPE_DECAY_STEP (R136). -/
  | envelopeDecayStep (voice : Source)
  /-- CHIME_NOTE_END (R139). -/
  | chimeNoteEnd (voice : Source)
  /-- CHIME_END (R107). -/
  | chimeEnd (voice : Source)
  /-- MAXIMUM_LIVE_REACHED (R108). -/
  | maximumLiveReached (handle : Byte)
  /-- STARVATION_RUN_LIMIT (R108). -/
  | starvationRunLimit (handle : Byte)
  /-- TAIL_END (R111). -/
  | tailEnd (handle : Byte)
  /-- COMMIT_DUE (R16). -/
  | commitDue
  /-- REPLY_SLOT_COMPLETE (R35). -/
  | replySlotComplete (line : LineNo) (signal : SlotSignal)
  /-- BERTH_DROPPED (R40): the slot completion, with what it received, that brings the miss count to 16. -/
  | berthDropped (line : LineNo) (signal : SlotSignal)
  /-- BERTH_CONFLICT (R41): the slot completion that brings the collision run to 3. -/
  | berthConflict (line : LineNo)
  /-- DRIVE_CONFLICT (R34). -/
  | driveConflict (line : LineNo)
  /-- MEDIA_FRAME (R49). -/
  | mediaFrame (frame : EthernetFrame)
  /-- PTT_PRESS (R97). -/
  | pttPress (mic : Mic)
  /-- PTT_RELEASE (R112). -/
  | pttRelease (mic : Mic)
  /-- ALARM_IN_PRESS (R157). -/
  | alarmInPress
  /-- ALARM_IN_RELEASE (R156). -/
  | alarmInRelease
  /-- CTL_RX_BYTE (R165). -/
  | ctlRxByte (byte : RxByte)
  /-- CONTACT_SAMPLE (R155): one filter's sample, `active` when the contact is closed. -/
  | contactSample (contact : Contact) (active : Bool)
  deriving DecidableEq, Repr

end Sys2Proof
end

