-- ==== Sys2Proof/Machine/State.lean ====
section
/-! DEFINITION. Every piece of state the spec gives the part, as plain data, and the part right after a device reset.
Fields marked MODEL'S OWN are the model's bookkeeping (log entries 1 and 3), not the spec's. -/

namespace Sys2Proof.Machine

/-! ## Reasons a step can stop -/

/-- Reasons a command ends in a fault: the spec gives every command an effect in every state, so there is none. -/
inductive Fault where
  deriving DecidableEq, Repr

/-- Reasons a command is refused by the model (a refusal that the PART gives is a reply, hence a next state). -/
inductive Refusal where
  /-- Raised by exec for a command that has no meaning yet; none is left. Safe: the model stops. -/
  | notModelled (mnemonic : String)
  deriving DecidableEq, Repr

/-! ## The Berth Table (chapter 1) -/

/-- The stored standing of a berth on its line (Introduction 1.5.1.8). -/
inductive Presence where
  | excluded | absent | present | conflict
  deriving DecidableEq, Repr

/-- A berth's picture lane field (R69); `lane n` with index n is the spec's lane n + 1. -/
inductive LaneField where
  | none
  | lane (n : LaneNo)
  | waiting
  deriving DecidableEq, Repr

/-- The live part of a berth record (R1). `attrs` is numbered as R179 numbers the attributes. -/
structure LiveRecord where
  presence : Presence
  programme : Option ProgrammeNo
  track : TrackNo
  picture : Bool
  volume : Nat
  zone : ZoneNo
  language : Fin 2
  attrs : Byte
  lane : LaneField
  deriving DecidableEq, Repr

/-- The staged part of a berth record (R8): each host-settable field with a value, or `none` for "absent". -/
structure StagedRecord where
  programme : Option (Option ProgrammeNo)
  track : Option TrackNo
  picture : Option Bool
  volume : Option Nat
  zone : Option ZoneNo
  language : Option (Fin 2)
  dnd : Option Bool
  lock : Option Bool
  tag0 : Option Bool
  tag1 : Option Bool
  tag2 : Option Bool
  tag3 : Option Bool
  deriving DecidableEq, Repr

/-- One berth record (1.1.2). -/
structure Berth where
  live : LiveRecord
  staged : StagedRecord
  deriving DecidableEq, Repr

/-- The staged record with every field absent. -/
def StagedRecord.empty : StagedRecord :=
  ⟨none, none, none, none, none, none, none, none, none, none, none, none⟩

/-- A berth record after a device reset (R9). -/
def Berth.reset : Berth :=
  { live := { presence := .excluded, programme := none, track := 0, picture := false, volume := 32, zone := 0,
              language := 0, attrs := 0, lane := .none }
    staged := .empty }

/-! ## The Line Controllers (chapter 2) -/

/-- The state of a berth line (R27). -/
inductive LineState where
  | off | running | faulted
  deriving DecidableEq, Repr

/-- A berth link record (R37); the error sum is read from the three flags. -/
structure LinkRecord where
  missCount : Nat
  collisionRun : Nat
  framingFlag : Bool
  checkFlag : Bool
  collisionFlag : Bool
  takenToggle : Bool
  good : Nat
  silent : Nat
  framing : Nat
  check : Nat
  collision : Nat
  deriving DecidableEq, Repr

/-- A berth link record after a device reset (R28), which LINE SETUP and LINE RESTART also give. -/
def LinkRecord.clear : LinkRecord :=
  ⟨0, 0, false, false, false, false, 0, 0, 0, 0, 0⟩

/-- The picture packet of one PICTURE frame, unexamined (R50). -/
abbrev Packet := List Byte

/-- A berth's control word (R32). -/
structure ControlWord where
  lane : Nat
  card : Nat
  shownVolume : Nat
  floorClass : Option Nat
  lockSet : Bool
  takenToggle : Bool
  callQueued : Bool
  acknowledged : Bool
  deriving DecidableEq, Repr

/-- The outbound frame of one block on one line (R31). -/
structure OutboundFrame where
  slotCalled : Nat
  fitted : Nat
  words : List ControlWord
  audio : List Block
  packets : List (LaneNo × Packet)
  deriving DecidableEq, Repr

/-- One Line Controller (2.1.2). -/
structure Line where
  state : LineState
  fitted : Nat
  framesSent : Long
  faultCount : Nat
  links : Table LinkRecord slotCount
  queues : Table (List Packet) laneCount
  /-- The frame being sent, or sent, in this block; `none` where the line sends none in it. -/
  frame : Option OutboundFrame
  /-- The outbound window or the reply slot of this block is under way (R34, R35). -/
  slotOpen : Bool
  /-- MODEL'S OWN: the line's block start of an open boundary has not been taken yet. -/
  frameDue : Bool
  deriving DecidableEq, Repr

/-- A Line Controller after a device reset (R28). -/
def Line.reset : Line :=
  { state := .off, fitted := 0, framesSent := 0, faultCount := 0, links := .fill slotCount .clear,
    queues := .fill laneCount [], frame := none, slotOpen := false, frameDue := false }

/-! ## The Lane Allocator (chapter 4) -/

/-- The state of a picture lane (R67). -/
inductive Lane where
  | free
  | carrying (programme : ProgrammeNo) (count : Nat)
  deriving DecidableEq, Repr

/-- The lanes, drop counts and wait list of one line (R67, R68, R70). -/
structure LaneSet where
  lanes : Table Lane laneCount
  drops : Table Nat laneCount
  waits : List BerthNo
  deriving DecidableEq, Repr

/-- The lanes of a line after a device reset (R67, R68, R70). -/
def LaneSet.reset : LaneSet :=
  { lanes := .fill laneCount .free, drops := .fill laneCount 0, waits := [] }

/-! ## Media Ingress (chapter 3) -/

/-- The state of a track (R55). -/
inductive TrackState where
  | idle | flowing | starved
  deriving DecidableEq, Repr

/-- A track and its jitter buffer (R55), with its played block (R60). -/
structure Track where
  state : TrackState
  expected : Byte
  slots : Table (Option Block) jitterSlots
  lastGood : Option Block
  concealUsed : Bool
  missRun : Nat
  accepted : Half
  concealed : Nat
  silent : Nat
  skipped : Nat
  late : Nat
  played : Block
  /-- MODEL'S OWN: the track's play of an open boundary has not been taken yet. -/
  due : Bool
  deriving DecidableEq, Repr

/-- A track after a device reset (R55). -/
def Track.reset : Track :=
  { state := .idle, expected := 0, slots := .fill jitterSlots none, lastGood := none, concealUsed := false, missRun := 0,
    accepted := 0, concealed := 0, silent := 0, skipped := 0, late := 0, played := .silence, due := false }

/-- A programme record with its two tracks and its picture counters (R51). -/
structure Programme where
  picture : Bool
  trackCount : Nat
  trim0 : Nat
  trim1 : Nat
  stillCard : Nat
  received : Half
  unplaced : Half
  tracks : Table Track 2
  deriving DecidableEq, Repr

/-- A programme record after a device reset (R51). -/
def Programme.reset : Programme :=
  { picture := false, trackCount := 1, trim0 := 0, trim1 := 0, stillCard := 0, received := 0, unplaced := 0,
    tracks := .fill 2 .reset }

/-- A recorded block and its end marker (R63). -/
structure RecordedBlock where
  samples : Block
  endMarker : Bool
  deriving DecidableEq, Repr

/-- The recorded buffer (R63). -/
structure RecordedBuffer where
  target : Option Byte
  blocks : List RecordedBlock
  appended : Half
  taken : Half
  full : Nat
  stray : Nat
  flushed : Nat
  deriving DecidableEq, Repr

/-- The port counters and the five cause counters (R49, R50). -/
structure PortCounters where
  damaged : Nat
  foreign : Nat
  kind : Nat
  length : Nat
  programme : Nat
  track : Nat
  picture : Nat
  deriving DecidableEq, Repr

/-- Media Ingress. -/
structure Media where
  programmes : Table Programme programmeCount
  recorded : RecordedBuffer
  port : PortCounters
  deriving DecidableEq, Repr

/-- Media Ingress after a device reset (R49, R51, R55, R63). -/
def Media.reset : Media :=
  { programmes := .fill programmeCount .reset
    recorded := { target := none, blocks := [], appended := 0, taken := 0, full := 0, stray := 0, flushed := 0 }
    port := ⟨0, 0, 0, 0, 0, 0, 0⟩ }

/-! ## The Announcement Controller (chapters 5 and 6) -/

/-- The five modes of an attribute test (R19). -/
inductive TestMode where
  | none | allSet | allClear | anySet | anyClear
  deriving DecidableEq, Repr

/-- The phases of an entry (R86). -/
inductive Phase where
  | queued | lead | chime | live | tail
  deriving DecidableEq, Repr

/-- Why an entry ended (R86). -/
inductive EndReason where
  | completed | short | cut | timedOut | starved | preempted | stale
  deriving DecidableEq, Repr

/-- The targeting and sound fields of an entry, which a PTT profile also holds (R85, R99). `zones` has bit z for zone z. -/
structure Params where
  cls : Nat
  zones : Byte
  attrMask : Byte
  mode : TestMode
  chime : Option PatternNo
  duck : Nat
  attack : Nat
  release : Nat
  level : Nat
  card : Nat
  lead : Nat
  tail : Nat
  maxLive : Nat
  deriving DecidableEq, Repr

/-- An entry of the Announcement Table (R85, R86). -/
structure Entry where
  handle : Byte
  source : Source
  params : Params
  deadline : Nat
  admission : Long
  phase : Phase
  timer : Nat
  liveCount : Nat
  audience : Nat
  peak : Nat
  earlyRelease : Bool
  endReason : Option EndReason
  starvation : Nat
  /-- The recorded block the entry took at the start of this block (R108, R109). -/
  recorded : Option Block
  /-- The entry's phase for the current block (R103): the phase it held once its advance at the start of the block had been
  taken. `none` before its first advance. -/
  blockPhase : Option Phase
  /-- MODEL'S OWN: the entry's advance of an open boundary has not been taken yet. -/
  due : Bool
  deriving DecidableEq, Repr

/-- A finished record (R118). -/
structure FinishedRecord where
  handle : Byte
  source : Source
  cls : Nat
  endReason : EndReason
  peak : Nat
  liveBlocks : Nat
  blockCount : Long
  deriving DecidableEq, Repr

/-- The Announcement Controller: the table, the recorded queue (handles, head first, R91), the two counters (R88, R89),
the two PTT profiles (R99) and the finished list, newest first (R118). -/
structure Announcer where
  entries : List Entry
  queue : List Byte
  handleCounter : Byte
  admissionCounter : Long
  driver : Params
  crew : Params
  finished : List FinishedRecord
  deriving DecidableEq, Repr

/-- The driver profile after a device reset (R99). -/
def Params.driverDefault : Params :=
  { cls := 1, zones := 0xFF, attrMask := 0, mode := .none, chime := some 0, duck := 40, attack := 4, release := 2,
    level := 8, card := 0, lead := 200, tail := 300, maxLive := 60000 }

/-- The crew profile after a device reset (R99). -/
def Params.crewDefault : Params :=
  { Params.driverDefault with cls := 0, chime := some 1 }

/-- The Announcement Controller after a device reset (R90). -/
def Announcer.reset : Announcer :=
  { entries := [], queue := [], handleCounter := 1, admissionCounter := 0, driver := .driverDefault, crew := .crewDefault,
    finished := [] }

/-! ## The Chime Voices (chapter 8) -/

/-- One note of a chime pattern (R134); `tone` is `none` for a REST. -/
structure Note where
  tone : Option (Fin 8)
  duty : Nat
  duration : Nat
  a0 : Nat
  decay : Nat
  deriving DecidableEq, Repr

/-- What a PLAYING voice holds (R137). -/
structure Playing where
  entry : Byte
  pattern : PatternNo
  noteIndex : Nat
  blocksInto : Nat
  samplePhase : Nat
  env : Nat
  decayCounter : Nat
  deriving DecidableEq, Repr

/-- A voice (R137): IDLE when `playing` is `none`; `output` is what it handed the Mix Engine for the current block. -/
structure Voice where
  playing : Option Playing
  output : Option (Block × Nat)
  /-- MODEL'S OWN: the voice's advance of an open boundary has not been taken yet. -/
  due : Bool
  deriving DecidableEq, Repr

/-- A voice after a device reset (R137). -/
def Voice.reset : Voice := ⟨none, none, false⟩

/-- The pattern table and the three voices (R134, R137). -/
structure Chimes where
  patterns : Table (List Note) patternCount
  voiceD : Voice
  voiceC : Voice
  voiceR : Voice
  deriving DecidableEq, Repr

/-- The default patterns (R134). -/
def defaultPattern : PatternNo → List Note
  | 0 => [⟨some 1, 4, 300, 8, 20⟩, ⟨some 5, 4, 400, 8, 20⟩]
  | 1 => [⟨some 2, 4, 250, 12, 25⟩]
  | 2 => [⟨some 5, 4, 150, 10, 0⟩, ⟨some 3, 4, 150, 10, 0⟩, ⟨some 1, 4, 300, 10, 15⟩]
  | 3 => [⟨some 0, 2, 120, 0, 0⟩, ⟨none, 4, 120, 0, 0⟩, ⟨some 0, 2, 120, 0, 0⟩, ⟨none, 4, 120, 0, 0⟩]

/-- The Chime Voices after a device reset (R134, R137). -/
def Chimes.reset : Chimes :=
  { patterns := .ofFn defaultPattern, voiceD := .reset, voiceC := .reset, voiceR := .reset }

/-! ## The Mix Engine (chapters 7 and 9) -/

/-- The floor and mix state of one berth (R121, R144). The floor is named by the handle of its table entry, which no other
entry of the table shares (R88). `delivered` is what the Mix Engine delivered for the current block (R145). -/
structure MixState where
  floor : Option Byte
  duckTarget : Nat
  gateTarget : Nat
  duckStep : Nat
  gateStep : Nat
  duck : Nat
  gate : Nat
  lastAp : Nat
  lastAa : Nat
  lastAc : Nat
  clipFlag : Bool
  clipCount : Nat
  delivered : Option Block
  deriving DecidableEq, Repr

/-- A berth's floor and mix state after a device reset (R121, R144). -/
def MixState.reset : MixState :=
  { floor := none, duckTarget := 0, gateTarget := 127, duckStep := 1, gateStep := 1, duck := 0, gate := 127,
    lastAp := 127, lastAa := 127, lastAc := 127, clipFlag := false, clipCount := 0, delivered := none }

/-! ## The Coach Input Unit (chapter 10) -/

/-- The filter of one contact (R155): `active` is the filtered state. -/
structure Filter where
  active : Bool
  run : Nat
  deriving DecidableEq, Repr

/-- A filter after a device reset (R155). -/
def Filter.reset : Filter := ⟨false, 0⟩

/-- The kind of a call (R162). -/
inductive CallKind where
  | call
  deriving DecidableEq, Repr

/-- An entry of the call queue (R162). -/
structure CallEntry where
  berth : BerthNo
  stamp : Long
  kind : CallKind
  deriving DecidableEq, Repr

/-- The Coach Input Unit: filters, alarm latch, coach settings and call queue (R155, R157, R159, R162). -/
structure Coach where
  pttD : Filter
  pttC : Filter
  alarmIn : Filter
  latch : Bool
  quiet : Nat
  limit : Nat
  alarmCard : Nat
  busyCard : Nat
  calls : List CallEntry
  deriving DecidableEq, Repr

/-- The Coach Input Unit after a device reset (R155, R157, R159, R162). -/
def Coach.reset : Coach :=
  { pttD := .reset, pttC := .reset, alarmIn := .reset, latch := false, quiet := 0, limit := 0, alarmCard := 1,
    busyCard := 2, calls := [] }

/-! ## The Control Link and the Event Unit (chapter 11) -/

/-- The device state (R170). -/
inductive DeviceState where
  | config | run
  deriving DecidableEq, Repr

/-- The receive state, with the bytes of the frame kept so far (R165). -/
inductive Receive where
  | hunt
  | length
  | counted (length : Nat) (kept : List Byte)
  | check (length : Nat) (kept : List Byte)
  deriving DecidableEq, Repr

/-- A complete request record: its counted bytes, and whether its check was good (R165, R167). -/
structure Record where
  counted : List Byte
  checkGood : Bool
  deriving DecidableEq, Repr

/-- A reply record (R168): kind, status and body. -/
structure Reply where
  kind : Byte
  status : Byte
  body : List Byte
  deriving DecidableEq, Repr

/-- The transmitter (R168): the reply being sent on CTL_TX, and whether its end brings the device reset of RESTART. -/
inductive Transmitter where
  | free
  | sending (reply : Reply) (thenReset : Bool)
  deriving DecidableEq, Repr

/-- The Control Link's receive state, request buffer, transmitter and link error counters (R165 to R169). -/
structure ControlLink where
  receive : Receive
  age : Nat
  buffer : List Record
  tx : Transmitter
  badLength : Nat
  stopBit : Nat
  timeout : Nat
  overrun : Nat
  check : Nat
  deriving DecidableEq, Repr

/-- The Control Link after a device reset (R171). -/
def ControlLink.reset : ControlLink :=
  { receive := .hunt, age := 0, buffer := [], tx := .free, badLength := 0, stopBit := 0, timeout := 0, overrun := 0,
    check := 0 }

/-- The 13 event flags and the 13 enables (R173), RESTARTED at bit 0 (12.2.1 note 4). -/
structure Events where
  flags : BitVec 13
  enables : BitVec 13
  deriving DecidableEq, Repr

/-- The Event Unit at the completion of a device reset (R173): RESTARTED set, every enable set. -/
def Events.reset : Events := ⟨1, 0x1FFF⟩

/-- MODEL'S OWN: how far the block boundary under way has been taken (log entry 3). `opened` from the first command taken
at a block start to BLOCK_START; the other two mark boundary work of the part as a whole not yet taken. -/
structure Boundary where
  opened : Bool
  commitDue : Bool
  ageDue : Bool
  deriving DecidableEq, Repr

/-! ## The whole part -/

/-- The part: the blocks of Introduction 1.3.1, the block count (Introduction 1.5.1.2), the level of RESET_N, and the queue
of commands that are waiting. -/
structure State where
  device : DeviceState
  blockCount : Long
  link : ControlLink
  events : Events
  berths : Table Berth berthCount
  commitPending : Bool
  lines : Table Line lineCount
  lanes : Table LaneSet lineCount
  media : Media
  ann : Announcer
  chimes : Chimes
  mix : Table MixState berthCount
  coach : Coach
  /-- RESET_N is low (R171). -/
  resetLow : Bool
  /-- MODEL'S OWN: the block boundary under way. -/
  boundary : Boundary
  /-- The commands that are waiting, first in, first out. -/
  pending : List Instr
  deriving DecidableEq, Repr

/-- The part at the completion of a device reset (R171), with no command waiting. -/
def State.reset : State :=
  { device := .config
    blockCount := 0
    link := .reset
    events := .reset
    berths := .fill berthCount .reset
    commitPending := false
    lines := .fill lineCount .reset
    lanes := .fill lineCount .reset
    media := .reset
    ann := .reset
    chimes := .reset
    mix := .fill berthCount .reset
    coach := .reset
    resetLow := false
    boundary := ⟨false, false, false⟩
    pending := [] }

end Sys2Proof.Machine
end

