-- ==== Sys2Proof/Machine/Limits.lean ====
section
/-! DEFINITION. The limits and tables of the spec that a test could show wrong. -/

namespace Sys2Proof.Machine

/-- Blocks of a poll cycle (Introduction 1.5.1.3). -/
def pollCycle : Nat := 12
/-- The miss count at which a PRESENT berth is dropped (R40). -/
def missLimit : Nat := 16
/-- The collision run at which a berth becomes CONFLICT (R41). -/
def collisionLimit : Nat := 3
/-- The largest value of the fault count and of every counter that stops at 255 (R34). -/
def byteMax : Nat := 255
/-- The value at which counters that stop at 65535 stop (R37, R49, R50, R55, R63, R68, R152, R166). -/
def halfMax : Nat := 65535
/-- Packets a lane send queue holds (R68). -/
def sendQueueDepth : Nat := 8
/-- The miss run at which a FLOWING track becomes STARVED (R59). -/
def trackStarveLimit : Nat := 250
/-- Blocks the recorded buffer holds (R63). -/
def recordedDepth : Nat := 64
/-- Recorded entries the Announcement Table holds (R87). -/
def recordedEntryLimit : Nat := 14
/-- The starvation run at which a recorded entry enters TAIL (R108). -/
def liveStarveLimit : Nat := 500
/-- Finished records the finished list holds (R118), and how many one reply carries (R119). -/
def finishedDepth : Nat := 8
/-- Finished records one FINISHED READ reply carries (R119). -/
def finishedPerReply : Nat := 6
/-- Records the request buffer holds (R167). -/
def requestDepth : Nat := 4
/-- The frame age at which an incomplete frame is discarded (R166). -/
def frameAgeLimit : Nat := 20
/-- Differing samples in a row, before the latest, that make the latest an edge (R155). -/
def filterRun : Nat := 2
/-- Attenuation that mutes (Introduction 1.5.1.4). -/
def mute : Nat := 127
/-- The cap of the seat volume's share in an announcement (R150). -/
def volumeShareCap : Nat := 24
/-- V and the loudness limit are 0 to 96 (R1, R159). -/
def volumeMax : Nat := 96
/-- Steps a VOLUME UP or VOLUME DOWN moves V by (R25). -/
def volumeStep : Nat := 4
/-- Cards are 0 to 63 (R51, R85, R159). -/
def cardMax : Nat := 63
/-- Trims are 0 to 63 (R51). -/
def trimMax : Nat := 63
/-- The start byte of a control-link record (R177). -/
def startByte : Byte := 0xA5
/-- The media type value (R183). -/
def mediaType : Half := 0x8C51
/-- Bytes of the media header (R183). -/
def mediaHeaderLength : Nat := 7
/-- The amplitude of a chime sample (R135). -/
def chimeAmplitude : Sample := 16384

/-- The period of a chime tone, in samples (R135). -/
def tonePeriod : Fin 8 → Nat
  | 0 => 40 | 1 => 48 | 2 => 64 | 3 => 72 | 4 => 80 | 5 => 96 | 6 => 120 | 7 => 160

/-- The multiplier table M[f] (R151). -/
def multiplier : Fin 8 → Int
  | 0 => 32768 | 1 => 30048 | 2 => 27554 | 3 => 25268 | 4 => 23170 | 5 => 21247 | 6 => 19484 | 7 => 17867

end Sys2Proof.Machine
end

