-- ==== Sys2Proof/Machine/Ops.lean ====
section
/-! DEFINITION. The named reads and updates of State that every meaning goes through, and the answer of a request. -/

namespace Sys2Proof.Machine

/-! ## Berth numbers (Introduction 1.5.1.5) -/

/-- The line of a berth: the berth number div 12. -/
def lineOf (b : BerthNo) : LineNo :=
  ⟨b.val / slotCount, by have := b.isLt; simp only [slotCount, lineCount, berthCount] at *; omega⟩

/-- The slot of a berth: the berth number mod 12. -/
def slotOf (b : BerthNo) : SlotNo :=
  ⟨b.val % slotCount, Nat.mod_lt _ (by decide)⟩

/-- The berth of a line's slot. -/
def berthAt (l : LineNo) (k : SlotNo) : BerthNo :=
  ⟨l.val * slotCount + k.val, by
    have := l.isLt; have := k.isLt; simp only [slotCount, lineCount, berthCount] at *; omega⟩

/-- All berths, in berth-number order. -/
def allBerths : List BerthNo := List.finRange berthCount

/-- The berths of a line, in slot order. -/
def berthsOf (l : LineNo) : List BerthNo := (List.finRange slotCount).map (berthAt l)

/-! ## Counters -/

/-- A counter that stops at `top`. -/
def countTo (top n : Nat) : Nat := min top (n + 1)

/-- A counter that stops at 65535. -/
def countHalf (n : Nat) : Nat := countTo halfMax n

/-- A counter that stops at 65535, raised by `k`. -/
def countHalfBy (k n : Nat) : Nat := min halfMax (n + k)

/-! ## Updates of State, one for each field -/

namespace State

def setDevice (s : State) (d : DeviceState) : State := { s with device := d }
def setBlockCount (s : State) (c : Long) : State := { s with blockCount := c }
def modLink (s : State) (f : ControlLink → ControlLink) : State := { s with link := f s.link }
def modEvents (s : State) (f : Events → Events) : State := { s with events := f s.events }
def setBerths (s : State) (t : Table Berth berthCount) : State := { s with berths := t }
def setCommitPending (s : State) (b : Bool) : State := { s with commitPending := b }
def setLines (s : State) (t : Table Line lineCount) : State := { s with lines := t }
def setLanes (s : State) (t : Table LaneSet lineCount) : State := { s with lanes := t }
def modMedia (s : State) (f : Media → Media) : State := { s with media := f s.media }
def modAnn (s : State) (f : Announcer → Announcer) : State := { s with ann := f s.ann }
def modChimes (s : State) (f : Chimes → Chimes) : State := { s with chimes := f s.chimes }
def setMix (s : State) (t : Table MixState berthCount) : State := { s with mix := t }
def modCoach (s : State) (f : Coach → Coach) : State := { s with coach := f s.coach }
def setResetLow (s : State) (b : Bool) : State := { s with resetLow := b }
def modBoundary (s : State) (f : Boundary → Boundary) : State := { s with boundary := f s.boundary }
def setPending (s : State) (q : List Instr) : State := { s with pending := q }

end State

/-! ## One berth, one line, one programme, one track, one voice -/

namespace State

/-- The berth record of `b`. -/
def berth (s : State) (b : BerthNo) : Berth := s.berths.get b

/-- The live record of `b`. -/
def live (s : State) (b : BerthNo) : LiveRecord := (s.berths.get b).live

/-- The staged record of `b`. -/
def staged (s : State) (b : BerthNo) : StagedRecord := (s.berths.get b).staged

/-- The stored presence of `b`. -/
def presence (s : State) (b : BerthNo) : Presence := (s.live b).presence

/-- The Line Controller of line `l`. -/
def line (s : State) (l : LineNo) : Line := s.lines.get l

/-- The berth link record of `b`. -/
def linkOf (s : State) (b : BerthNo) : LinkRecord := (s.line (lineOf b)).links.get (slotOf b)

/-- The lanes and wait list of line `l`. -/
def laneSet (s : State) (l : LineNo) : LaneSet := s.lanes.get l

/-- The programme record of `p`. -/
def programme (s : State) (p : ProgrammeNo) : Programme := s.media.programmes.get p

/-- Track `t` of programme `p`. -/
def track (s : State) (p : ProgrammeNo) (t : TrackNo) : Track := (s.programme p).tracks.get t

/-- The floor and mix state of `b`. -/
def mixOf (s : State) (b : BerthNo) : MixState := s.mix.get b

/-- The voice of a source. -/
def voice (s : State) : Source → Voice
  | .d => s.chimes.voiceD
  | .c => s.chimes.voiceC
  | .r => s.chimes.voiceR

/-- Change the live record of `b`. -/
def modLive (s : State) (b : BerthNo) (f : LiveRecord → LiveRecord) : State :=
  s.setBerths (s.berths.modify b fun r => { r with live := f r.live })

/-- Change the staged record of `b`. -/
def modStaged (s : State) (b : BerthNo) (f : StagedRecord → StagedRecord) : State :=
  s.setBerths (s.berths.modify b fun r => { r with staged := f r.staged })

/-- Change the Line Controller of `l`. -/
def modLine (s : State) (l : LineNo) (f : Line → Line) : State :=
  s.setLines (s.lines.modify l f)

/-- Change the berth link record of `b`. -/
def modLinkOf (s : State) (b : BerthNo) (f : LinkRecord → LinkRecord) : State :=
  s.modLine (lineOf b) fun l => { l with links := l.links.modify (slotOf b) f }

/-- Change the lanes and wait list of `l`. -/
def modLaneSet (s : State) (l : LineNo) (f : LaneSet → LaneSet) : State :=
  s.setLanes (s.lanes.modify l f)

/-- Change the programme record of `p`. -/
def modProgramme (s : State) (p : ProgrammeNo) (f : Programme → Programme) : State :=
  s.modMedia fun m => { m with programmes := m.programmes.modify p f }

/-- Change track `t` of programme `p`. -/
def modTrack (s : State) (p : ProgrammeNo) (t : TrackNo) (f : Track → Track) : State :=
  s.modProgramme p fun r => { r with tracks := r.tracks.modify t f }

/-- Change the recorded buffer. -/
def modRecorded (s : State) (f : RecordedBuffer → RecordedBuffer) : State :=
  s.modMedia fun m => { m with recorded := f m.recorded }

/-- Change the port counters. -/
def modPort (s : State) (f : PortCounters → PortCounters) : State :=
  s.modMedia fun m => { m with port := f m.port }

/-- Change the floor and mix state of `b`. -/
def modMix (s : State) (b : BerthNo) (f : MixState → MixState) : State :=
  s.setMix (s.mix.modify b f)

/-- Change the voice of a source. -/
def modVoice (s : State) (v : Source) (f : Voice → Voice) : State :=
  s.modChimes fun c =>
    match v with
    | .d => { c with voiceD := f c.voiceD }
    | .c => { c with voiceC := f c.voiceC }
    | .r => { c with voiceR := f c.voiceR }

/-- The filter of a contact. -/
def filter (s : State) : Contact → Filter
  | .pttD => s.coach.pttD
  | .pttC => s.coach.pttC
  | .alarmIn => s.coach.alarmIn

/-- Replace the filter of a contact. -/
def setFilter (s : State) (c : Contact) (v : Filter) : State :=
  s.modCoach fun k =>
    match c with
    | .pttD => { k with pttD := v }
    | .pttC => { k with pttC := v }
    | .alarmIn => { k with alarmIn := v }

/-- The table entry of handle `h`, if the table holds one. -/
def entry? (s : State) (h : Byte) : Option Entry := s.ann.entries.find? (fun e => e.handle = h)

/-- Change the table entry of handle `h`. -/
def modEntry (s : State) (h : Byte) (f : Entry → Entry) : State :=
  s.modAnn fun a => { a with entries := a.entries.map fun e => if e.handle = h then f e else e }

/-- A source's active entry: its entry in a phase other than QUEUED (Introduction 1.5.1.20). -/
def active? (s : State) (src : Source) : Option Entry :=
  s.ann.entries.find? fun e => e.source = src ∧ e.phase ≠ .queued

/-- The floor entry of a berth, if its floor is an entry. -/
def floorEntry? (s : State) (b : BerthNo) : Option Entry := (s.mixOf b).floor.bind s.entry?

end State

/-! ## A list of changes, one after the other -/

/-- Apply `f` for each member of a list, in the list's order. -/
def forEach {α : Type} (xs : List α) (f : State → α → State) (s : State) : State := xs.foldl f s

/-! ## RESET_N -/

/-- While RESET_N is low the part takes nothing (R171); otherwise the arrival is taken. -/
def whenUp (s : State) (f : State → State) : State := if s.resetLow then s else f s

/-- A device reset: every item of every block at its reset value (R171); the commands still waiting are not the part's. -/
def deviceReset (s : State) : State := State.reset.setPending s.pending

/-! ## Answers of requests -/

/-- The statuses of R169. -/
inductive Status where
  | done | clamped | busy | wrongState | badField | full | notFound | unknownKind | check | length
  deriving DecidableEq, Repr

/-- The status codes of 12.2.2. -/
def statusCode : Status → Byte
  | .done => 0x00
  | .clamped => 0x01
  | .busy => 0x10
  | .wrongState => 0x11
  | .badField => 0x12
  | .full => 0x13
  | .notFound => 0x14
  | .unknownKind => 0x15
  | .check => 0x16
  | .length => 0x17

/-- What the owner of a request gives: a status, the reply's body, and the state left. -/
structure Answer where
  status : Status
  body : List Byte
  state : State
  deriving DecidableEq, Repr

/-- A refusal: nothing changes and the reply has no body (R168, R169 note 2). -/
def refuse (st : Status) (s : State) : Answer := ⟨st, [], s⟩

/-- DONE, or CLAMPED when a value was stored at the limit of its range (R169). -/
def doneOrClamped (wasClamped : Bool) : Status := if wasClamped then .clamped else .done

end Sys2Proof.Machine
end

