-- ==== Sys2Proof/Machine/Flags.lean ====
section
/-! DEFINITION. The event flags, and the output pins that follow them and the request buffer at once (R173, R176, R167). -/

namespace Sys2Proof.Machine

/-- The 13 events, in the order of the flag table of R173. -/
inductive Event where
  | restarted | commitDone | berthChanged | berthPresence | call | recordedGo | annFinished | starved | mediaError | clip
  | lineFault | alarm | linkError
  deriving DecidableEq, Repr

/-- The position of an event in a set of flags: RESTARTED at bit 0 (12.2.1 note 4). -/
def eventBit : Event → Nat
  | .restarted => 0 | .commitDone => 1 | .berthChanged => 2 | .berthPresence => 3 | .call => 4 | .recordedGo => 5
  | .annFinished => 6 | .starved => 7 | .mediaError => 8 | .clip => 9 | .lineFault => 10 | .alarm => 11 | .linkError => 12

/-- The set that holds one event. -/
def eventMask (e : Event) : BitVec 13 := BitVec.twoPow 13 (eventBit e)

/-- The flag of an event. -/
def State.flag (s : State) (e : Event) : Bool := s.events.flags.getLsbD (eventBit e)

/-- A cause sets its flag; a flag that is set stays set (R173). -/
def raise (e : Event) (s : State) : State :=
  s.modEvents fun v => { v with flags := v.flags ||| eventMask e }

/-- ATTN: some flag is both set and enabled, and RESET_N is not low (R176). -/
def State.attn (s : State) : Bool := !s.resetLow && (s.events.flags &&& s.events.enables) != 0

/-- CTL_RTR: the request buffer holds fewer than 4 records, and RESET_N is not low (R167). -/
def State.ctlRtr (s : State) : Bool := !s.resetLow && s.link.buffer.length < requestDepth

end Sys2Proof.Machine
end

