-- ==== Sys2Proof/Machine/Operands.lean ====
section
/-! DEFINITION. Every operand form: what a carried byte or half stands for (R179), the clamps, attribute tests (R19),
and the bytes of replies. -/

namespace Sys2Proof.Machine

/-! ## Carried values -/

/-- A carried set / ON / YES value: any value other than 00h (R179). -/
def carriedFlag (b : Byte) : Bool := b != 0

/-- A carried number below `n`, if it is one. -/
def carriedFin (n : Nat) (b : Byte) : Option (Fin n) :=
  if h : b.toNat < n then some ⟨b.toNat, h⟩ else none

/-- A carried programme, 0 to 7 or NONE (FFh); `none` for any other value. -/
def carriedProgramme (b : Byte) : Option (Option ProgrammeNo) :=
  if b = 0xFF then some none else (carriedFin programmeCount b).map some

/-- A carried chime pattern, 0 to 3 or NONE (FFh); `none` for any other value. -/
def carriedChime (b : Byte) : Option (Option PatternNo) :=
  if b = 0xFF then some none else (carriedFin patternCount b).map some

/-- A carried tone, 0 to 7 or REST (FFh); `none` for any other value. -/
def carriedTone (b : Byte) : Option (Option (Fin 8)) :=
  if b = 0xFF then some none else (carriedFin 8 b).map some

/-- A carried test mode (R179). -/
def carriedMode (b : Byte) : Option TestMode :=
  match b.toNat with
  | 0 => some .none
  | 1 => some .allSet
  | 2 => some .allClear
  | 3 => some .anySet
  | 4 => some .anyClear
  | _ => none

/-- A carried source (R179). -/
def carriedSource (b : Byte) : Option Source :=
  match b.toNat with
  | 0 => some .d
  | 1 => some .c
  | 2 => some .r
  | _ => none

/-- The operations of BERTH EDIT (R20). -/
inductive EditOp where
  | set | clear | toggle | copy | and | or | xor
  deriving DecidableEq, Repr

/-- A carried BERTH EDIT operation (R179). -/
def carriedEditOp (b : Byte) : Option EditOp :=
  match b.toNat with
  | 0 => some .set
  | 1 => some .clear
  | 2 => some .toggle
  | 3 => some .copy
  | 4 => some .and
  | 5 => some .or
  | 6 => some .xor
  | _ => none

/-- A value limited to `lo .. hi`. -/
def clampTo (lo hi n : Nat) : Nat := max lo (min hi n)

/-- The value lies outside `lo .. hi`, so that storing it clamps it. -/
def outside (lo hi n : Nat) : Bool := decide (n < lo) || decide (hi < n)

/-! ## Attributes (R179, R19) -/

/-- Attribute numbers: 0 OCCUPIED, 1 HEADPHONE, 2 DND, 3 LOCK, 4 to 7 TAG0 to TAG3. -/
def attrOccupied : Nat := 0
/-- HEADPHONE. -/
def attrHeadphone : Nat := 1
/-- DND. -/
def attrDnd : Nat := 2
/-- LOCK. -/
def attrLock : Nat := 3
/-- TAG0; TAG1 to TAG3 follow. -/
def attrTag0 : Nat := 4

/-- Attribute `n` of a set of attributes. -/
def hasAttr (attrs : Byte) (n : Nat) : Bool := attrs.getLsbD n

/-- The set of attributes with attribute `n` set or cleared. -/
def putAttr (attrs : Byte) (n : Nat) (v : Bool) : Byte :=
  if v then attrs ||| BitVec.twoPow 8 n else attrs &&& ~~~ BitVec.twoPow 8 n

/-- The attribute test of R19. -/
def passesTest (mode : TestMode) (mask attrs : Byte) : Bool :=
  match mode with
  | .none => true
  | .allSet => attrs &&& mask == mask
  | .allClear => attrs &&& mask == 0
  | .anySet => attrs &&& mask != 0
  | .anyClear => attrs &&& mask != mask

/-- Zone `z` is in a zone mask: bit z (R179). -/
def inZones (zones : Byte) (z : ZoneNo) : Bool := zones.getLsbD z.val

/-! ## The bytes of replies (R178, R179) -/

/-- A count of one byte. -/
def byte1 (n : Nat) : List Byte := [BitVec.ofNat 8 n]

/-- A count of two bytes, most significant first. -/
def byte2 (n : Nat) : List Byte := [BitVec.ofNat 8 (n / 256), BitVec.ofNat 8 n]

/-- A count of four bytes, most significant first. -/
def byte4 (n : Nat) : List Byte := byte2 (n / 65536) ++ byte2 n

/-- A set / clear value: the part sends 01h or 00h. -/
def byteFlag (b : Bool) : List Byte := byte1 (if b then 1 else 0)

/-- NONE is FFh for a programme and a chime pattern; REST is FFh for a tone. -/
def byteOr255 (v : Option Nat) : List Byte := byte1 (v.getD 255)

/-- NONE is 00h for a handle. -/
def byteHandle (h : Option Byte) : List Byte := [h.getD 0]

/-- A set of 13 positions as a two-byte value. -/
def byteEvents (v : BitVec 13) : List Byte := byte2 v.toNat

def codePresence : Presence → Nat
  | .excluded => 0 | .absent => 1 | .present => 2 | .conflict => 3

def codePhase : Phase → Nat
  | .queued => 0 | .lead => 1 | .chime => 2 | .live => 3 | .tail => 4

def codeLineState : LineState → Nat
  | .off => 0 | .running => 1 | .faulted => 2

def codeTrackState : TrackState → Nat
  | .idle => 0 | .flowing => 1 | .starved => 2

def codeSource : Source → Nat
  | .d => 0 | .c => 1 | .r => 2

def codeMode : TestMode → Nat
  | .none => 0 | .allSet => 1 | .allClear => 2 | .anySet => 3 | .anyClear => 4

def codeEndReason : EndReason → Nat
  | .completed => 1 | .short => 2 | .cut => 3 | .timedOut => 4 | .starved => 5 | .preempted => 6 | .stale => 7

def codeLaneField : LaneField → Nat
  | .none => 0 | .lane n => n.val + 1 | .waiting => 5

def codeDevice : DeviceState → Nat
  | .config => 0 | .run => 1

/-- The kind of a call is its request kind in a berth reply, 10 (R182; log entry 8). -/
def codeCallKind : CallKind → Nat
  | .call => 10

/-! ## The bytes received -/

/-- The 8-bit sum of some bytes (R177, R182). -/
def byteSum (bs : List Byte) : Byte := bs.foldl (· + ·) 0

/-- Two bytes, most significant first. -/
def halfOf (hi lo : Byte) : Half := hi ++ lo

/-- A payload of 96 bytes read as 48 samples, each most significant byte first (R50). -/
def blockOf (payload : List Byte) : Block :=
  .ofFn fun i => halfOf (payload.getD (2 * i.val) 0) (payload.getD (2 * i.val + 1) 0)

/-- The bytes of a block on a berth line: each sample most significant byte first (12.1.1). -/
def blockBytes (b : Block) : List Byte := b.cells.flatMap fun x => byte2 x.toNat

end Sys2Proof.Machine
end

