-- ==== Sys2Proof/Machine/Gain.lean ====
section
/-! DEFINITION. The gain arithmetic of the Mix Engine: ramps, attenuation composition, terms and the output sample
(R147 to R152). -/

namespace Sys2Proof.Machine

/-- A value moved toward its target by at most its step (R147). -/
def rampTo (target step v : Nat) : Nat :=
  if v < target then min target (v + step)
  else if target < v then max target (v - step)
  else v

/-- The effective volume Ve (R148). -/
def effectiveVolume (s : State) (b : BerthNo) : Nat := max (s.live b).volume s.coach.limit

/-- The programme trim T of a track (R51, R146). -/
def trimOf (p : Programme) (t : TrackNo) : Nat := if t = 0 then p.trim0 else p.trim1

/-- The programme attenuation a_p (R149). -/
def programmeAttenuation (latch : Bool) (hasProgramme : Bool) (ve trim duck : Nat) : Nat :=
  if latch || !hasProgramme then mute else min mute (ve + trim + duck)

/-- The volume part vp (R150): 0 for class 3, else the smaller of Ve and 24. -/
def volumePart (cls ve : Nat) : Nat := if cls = 3 then 0 else min ve volumeShareCap

/-- The announcement attenuation a_a of a floor entry (R150). -/
def announcementAttenuation (cls level ve gate : Nat) : Nat := min mute (level + volumePart cls ve + gate)

/-- The chime attenuation a_c of a floor entry (R150). -/
def chimeAttenuation (cls level ve gate env : Nat) : Nat := min mute (env + level + volumePart cls ve + gate)

/-- A sample scaled by an attenuation (R151). The division is toward minus infinity. -/
def term (x : Int) (a : Nat) : Int :=
  if mute ≤ a then 0
  else
    let o := a / 8
    let f : Fin 8 := ⟨a % 8, Nat.mod_lt _ (by decide)⟩
    (x * multiplier f + 2 ^ (14 + o)) / 2 ^ (15 + o)

/-- The sum of three terms limited to 16 bits (R152). -/
def limited (y : Int) : Int := max (-32768) (min 32767 y)

/-- The sum of the three terms of one sample (R152). -/
def sumOfTerms (sp sa sc : Sample) (ap aa ac : Nat) : Int :=
  term sp.toInt ap + term sa.toInt aa + term sc.toInt ac

/-- The 48 unlimited sums of a block. -/
def sumsOfBlock (bp ba bc : Block) (ap aa ac : Nat) : List Int :=
  (List.finRange 48).map fun i => sumOfTerms (bp.get i) (ba.get i) (bc.get i) ap aa ac

/-- The 48 output samples of a block (R152). -/
def outputBlock (bp ba bc : Block) (ap aa ac : Nat) : Block :=
  .ofFn fun i => BitVec.ofInt 16 (limited (sumOfTerms (bp.get i) (ba.get i) (bc.get i) ap aa ac))

/-- At least one sample of the block is limited (R152). -/
def clips (bp ba bc : Block) (ap aa ac : Nat) : Bool :=
  (sumsOfBlock bp ba bc ap aa ac).any fun y => limited y != y

end Sys2Proof.Machine
end

