-- ==== Sys2Proof/Machine/Floors.lean ====
section
/-! DEFINITION. Floor Selection: threshold, eligibility, candidates, floor evaluation, and the floors cleared at once
(chapter 7, R153). -/

namespace Sys2Proof.Machine

/-! ## Audience (R131) -/

/-- The entry that was a floor loses 1 from its audience. -/
def loseAudience (h : Byte) (s : State) : State :=
  s.modEntry h fun e => { e with audience := e.audience - 1 }

/-- The entry that becomes a floor gains 1; its peak audience follows if it is exceeded. -/
def gainAudience (h : Byte) (s : State) : State :=
  s.modEntry h fun e => { e with audience := e.audience + 1, peak := max e.peak (e.audience + 1) }

/-- The audience count of the berth's floor entry, if it has one, loses the berth. -/
def dropFloorAudience (b : BerthNo) (s : State) : State :=
  match (s.mixOf b).floor with
  | none => s
  | some h => loseAudience h s

/-! ## Which announcements reach a berth -/

/-- The admission threshold of a berth (R122). -/
def threshold (latch : Bool) (quiet : Nat) (dnd : Bool) : Nat :=
  if latch then 3 else if dnd then max quiet 2 else quiet

/-- An entry is eligible at a berth (R123). -/
def eligible (s : State) (b : BerthNo) (e : Entry) : Bool :=
  let r := s.live b
  r.presence == .present && inZones e.params.zones r.zone &&
    passesTest e.params.mode e.params.attrMask r.attrs &&
    decide (threshold s.coach.latch s.coach.quiet (hasAttr r.attrs attrDnd) ≤ e.params.cls)

/-- The phase that berths read of an entry for the block (R103, R125): the one it held once its advance at the start of the
block had been taken; before its first advance, the phase it stands in (R94; log entry 20). -/
def phaseRead (e : Entry) : Phase := e.blockPhase.getD e.phase

/-- The phases in which an entry can be a candidate (R124). -/
def candidatePhase : Phase → Bool
  | .lead => true
  | .chime => true
  | .live => true
  | .queued => false
  | .tail => false

/-- The candidates at a berth (R124). -/
def candidates (s : State) (b : BerthNo) : List Entry :=
  s.ann.entries.filter fun e => candidatePhase (phaseRead e) && eligible s b e

/-- `e` ranks before `f`: higher class, or equal class and lower admission number (R91, R124). -/
def outranks (e f : Entry) : Bool :=
  decide (f.params.cls < e.params.cls) || (e.params.cls == f.params.cls && decide (e.admission < f.admission))

/-- The best of some candidates (R124). -/
def bestOf : List Entry → Option Entry
  | [] => none
  | e :: es =>
    match bestOf es with
    | none => some e
    | some f => if outranks f e then some f else some e

/-! ## Floor evaluation -/

/-- The gate target that a floor's phase gives: 0 in CHIME and LIVE, 127 otherwise (R126 to R128). -/
def gateTargetFor : Phase → Nat
  | .chime => 0
  | .live => 0
  | _ => mute

/-- The floor changes to the best candidate (R126). -/
def changeFloor (b : BerthNo) (e : Entry) (s : State) : State :=
  (gainAudience e.handle (dropFloorAudience b s)).modMix b fun m =>
    { m with
      gate := if m.floor.isSome then mute else m.gate
      floor := some e.handle
      duckTarget := e.params.duck
      gateTarget := gateTargetFor (phaseRead e)
      duckStep := e.params.attack
      gateStep := e.params.attack }

/-- The floor is kept, and the targets and steps follow its phase (R127). -/
def keepFloor (b : BerthNo) (e : Entry) (s : State) : State :=
  s.modMix b fun m =>
    { m with
      duckTarget := e.params.duck
      gateTarget := gateTargetFor (phaseRead e)
      duckStep := e.params.attack
      gateStep := e.params.attack }

/-- The floor is kept as a fading floor (R128, second row). -/
def fadeFloor (b : BerthNo) (e : Entry) (s : State) : State :=
  s.modMix b fun m =>
    { m with duckTarget := 0, gateTarget := mute, duckStep := e.params.release, gateStep := e.params.release }

/-- The floor has stopped being eligible (R128, third row). -/
def loseFloor (b : BerthNo) (e : Entry) (s : State) : State :=
  (loseAudience e.handle s).modMix b fun m =>
    { m with
      floor := none
      gate := mute
      gateTarget := mute
      duckTarget := 0
      duckStep := e.params.release
      gateStep := e.params.release }

/-- The floor evaluation of a berth (R125 to R128). -/
def evaluateFloor (b : BerthNo) (s : State) : State :=
  match bestOf (candidates s b) with
  | some e => if (s.mixOf b).floor = some e.handle then keepFloor b e s else changeFloor b e s
  | none =>
    match s.floorEntry? b with
    | none => s
    | some e => if phaseRead e = .tail then fadeFloor b e s else loseFloor b e s

/-! ## Floors cleared at once -/

/-- What the removal of its floor entry does to a berth (R129). -/
def clearedFloor (release : Nat) (m : MixState) : MixState :=
  { m with floor := none, gate := mute, gateTarget := mute, duckTarget := 0, duckStep := release, gateStep := release }

/-- The removal of an entry clears every floor that is it (R129). Its audience goes with the entry. -/
def clearFloors (h : Byte) (release : Nat) (s : State) : State :=
  s.setMix (s.mix.map fun m => if m.floor = some h then clearedFloor release m else m)

/-- A berth leaves PRESENT (R130). -/
def mixLeavesPresent (b : BerthNo) (s : State) : State :=
  (dropFloorAudience b s).modMix b fun m =>
    { m with floor := none, gate := mute, duck := 0, gateTarget := mute, duckTarget := 0 }

/-- A berth becomes PRESENT (R130). -/
def mixEntersPresent (b : BerthNo) (s : State) : State :=
  s.modMix b fun m => { m with floor := none, gate := mute, duck := 0, gateTarget := mute, duckTarget := 0 }

/-- What the release of the alarm latch does at one berth (R153). -/
def alarmReleaseAt (s : State) (b : BerthNo) : State :=
  if s.presence b = .present then
    match s.floorEntry? b with
    | some e => s.modMix b fun m => { m with duck := mute, duckStep := e.params.attack }
    | none => s.modMix b fun m => { m with duck := mute, duckTarget := 0, duckStep := 1 }
  else s

/-! ## The screen and the control word's share of the floor -/

/-- The class of a berth's floor entry, or NONE (R32, R133). -/
def floorClass (s : State) (b : BerthNo) : Option Nat := (s.floorEntry? b).map fun e => e.params.cls

/-- The screen content choice: the card of a berth's control word (R79). -/
def screenCard (s : State) (b : BerthNo) : Nat :=
  let floor := s.floorEntry? b
  let r := s.live b
  let floorCard := (floor.map fun e => e.params.card).getD 0
  if s.coach.latch && floorClass s b == some 3 && floorCard != 0 then floorCard
  else if s.coach.latch then s.coach.alarmCard
  else if floorCard != 0 then floorCard
  else if r.lane = .waiting then s.coach.busyCard
  else
    match r.picture, r.programme with
    | true, some p => if (s.programme p).picture then 0 else (s.programme p).stillCard
    | _, _ => 0

end Sys2Proof.Machine
end

