-- ==== Sys2Proof/Machine/Lanes.lean ====
section
/-! DEFINITION. The Lane Allocator: acquisition, release, hand-over, route changes and the batch of a commit
(chapter 4). -/

namespace Sys2Proof.Machine

/-- A berth wants a lane (R69). -/
def wantsLane (s : State) (b : BerthNo) : Bool :=
  (s.live b).presence == .present && (s.live b).picture &&
    match (s.live b).programme with
    | none => false
    | some p => (s.programme p).picture

/-- The lane of a line that carries programme `p`, the lowest-numbered if there were several (R67 says there is one). -/
def carrierOf (ls : LaneSet) (p : ProgrammeNo) : Option LaneNo :=
  (List.finRange laneCount).find? fun n =>
    match ls.lanes.get n with
    | .carrying q _ => q == p
    | .free => false

/-- The lowest-numbered FREE lane of a line. -/
def freeLane (ls : LaneSet) : Option LaneNo :=
  (List.finRange laneCount).find? fun n => ls.lanes.get n == .free

/-- The reference count of a lane: 0 when FREE. -/
def laneHolders : Lane → Nat
  | .free => 0
  | .carrying _ c => c

/-- Set a berth's picture lane field. -/
def setLaneField (b : BerthNo) (v : LaneField) (s : State) : State :=
  s.modLive b fun r => { r with lane := v }

/-- Put lane `n` of line `l` in a state. -/
def setLane (l : LineNo) (n : LaneNo) (v : Lane) (s : State) : State :=
  s.modLaneSet l fun ls => { ls with lanes := ls.lanes.set n v }

/-- Replace a line's wait list. -/
def setWaits (l : LineNo) (ws : List BerthNo) (s : State) : State :=
  s.modLaneSet l fun ls => { ls with waits := ws }

/-- Lane `n` becomes FREE and its send queue is emptied at that moment (R68, R72). -/
def freeTheLane (l : LineNo) (n : LaneNo) (s : State) : State :=
  (setLane l n .free s).modLine l fun ln => { ln with queues := ln.queues.set n [] }

/-- An acquisition (R71): join the lane that carries the berth's Programme, else take the lowest FREE lane, else wait. -/
def acquire (b : BerthNo) (s : State) : State :=
  if wantsLane s b then
    let l := lineOf b
    let ls := s.laneSet l
    match (s.live b).programme with
    | none => s
    | some p =>
      match carrierOf ls p with
      | some n => setLaneField b (.lane n) (setLane l n (.carrying p (laneHolders (ls.lanes.get n) + 1)) s)
      | none =>
        match freeLane ls with
        | some n => setLaneField b (.lane n) (setLane l n (.carrying p 1) s)
        | none => setLaneField b .waiting (setWaits l (ls.waits ++ [b]) s)
  else s

/-- A hand-over of lane `n`, whose count would reach 0, to the programme of the oldest waiter (R73). The case of a waiter
without a programme, which R69 rules out, frees the lane. -/
def handOver (l : LineNo) (n : LaneNo) (oldest : BerthNo) (s : State) : State :=
  match (s.live oldest).programme with
  | none => freeTheLane l n s
  | some q =>
    let ws := (s.laneSet l).waits
    let joins := ws.filter fun b => (s.live b).programme == some q
    let stays := ws.filter fun b => !((s.live b).programme == some q)
    forEach joins (fun t b => setLaneField b (.lane n) t)
      (setWaits l stays (setLane l n (.carrying q joins.length) s))

/-- A release from lane `n` (R72): the lane goes on, is handed over, or becomes FREE. -/
def releaseLane (b : BerthNo) (n : LaneNo) (s : State) : State :=
  let l := lineOf b
  let s := setLaneField b .none s
  match (s.laneSet l).lanes.get n with
  | .free => s
  | .carrying p c =>
    if 1 < c then setLane l n (.carrying p (c - 1)) s
    else
      match (s.laneSet l).waits with
      | [] => freeTheLane l n s
      | w :: _ => handOver l n w s

/-- A release from the wait list (R74). -/
def releaseWait (b : BerthNo) (s : State) : State :=
  setLaneField b .none (setWaits (lineOf b) ((s.laneSet (lineOf b)).waits.filter (· ≠ b)) s)

/-- The release of whatever a berth holds: its lane, its place in the wait list, or nothing (R75, R76). -/
def releaseRoute (b : BerthNo) (s : State) : State :=
  match (s.live b).lane with
  | .none => s
  | .lane n => releaseLane b n s
  | .waiting => releaseWait b s

/-- A route change made by a berth request: a release, then an acquisition (R75). -/
def routeChange (b : BerthNo) (s : State) : State := acquire b (releaseRoute b s)

/-- Phase 1 of a commit's batch: a WAITING berth leaves its wait list (R76). -/
def batchUnwait (s : State) (b : BerthNo) : State :=
  match (s.live b).lane with
  | .waiting => releaseWait b s
  | _ => s

/-- Phase 2 of a commit's batch: a berth that holds a lane is released from it (R76). -/
def batchRelease (s : State) (b : BerthNo) : State :=
  match (s.live b).lane with
  | .lane n => releaseLane b n s
  | _ => s

/-- The batch of a commit, in its three phases, each in berth-number order (R76). -/
def applyBatch (batch : List BerthNo) (s : State) : State :=
  forEach batch (fun t b => acquire b t) (forEach batch batchRelease (forEach batch batchUnwait s))

/-- The lane number of a control word: 1 to 4, or 0 for NONE and WAITING (R80). -/
def laneNumber : LaneField → Nat
  | .lane n => n.val + 1
  | _ => 0

end Sys2Proof.Machine
end

