-- ==== Sys2Proof/Machine/Presence.lean ====
section
/-! DEFINITION. Presence notifications: ONE shared operation that stores a berth's presence and hands on the effects of
leaving and of entering PRESENT (R3, R4, R5, R42). -/

namespace Sys2Proof.Machine

/-- A berth leaves PRESENT (R4): sensed attributes cleared, lane released, floor cleared. -/
def leavesPresent (b : BerthNo) (s : State) : State :=
  mixLeavesPresent b (releaseRoute b
    (s.modLive b fun r => { r with attrs := putAttr (putAttr r.attrs attrOccupied false) attrHeadphone false }))

/-- A berth enters PRESENT (R5): its mix state starts, and with Picture ON it is an acquisition. -/
def entersPresent (b : BerthNo) (s : State) : State :=
  let t := mixEntersPresent b s
  if (t.live b).picture then acquire b t else t

/-- A presence notification (R3), with the event of R42. -/
def notify (new : Presence) (b : BerthNo) (s : State) : State :=
  let old := s.presence b
  if old = new then s
  else
    let s := s.modLive b fun r => { r with presence := new }
    let s := if old = .present then leavesPresent b s else s
    let s := if new = .present then entersPresent b s else s
    if new = .excluded then s else raise .berthPresence s

/-- Each slot of the line that is PRESENT or CONFLICT becomes ABSENT, in ascending slot order (R34, R44). -/
def dropLine (l : LineNo) (s : State) : State :=
  forEach (berthsOf l)
    (fun t b => if t.presence b = .present ∨ t.presence b = .conflict then notify .absent b t else t) s

/-- The sensed attributes take the indications of a GOOD reply (R2, R39). -/
def writeSensed (b : BerthNo) (occupied headphone : Bool) (s : State) : State :=
  s.modLive b fun r =>
    { r with attrs := putAttr (putAttr r.attrs attrOccupied occupied) attrHeadphone headphone }

end Sys2Proof.Machine
end

