-- ==== Sys2Proof/Machine/BerthTable.lean ====
section
/-! DEFINITION. The Berth Table: reading, staging, commit, BERTH EDIT and the application of berth requests
(chapter 1). -/

namespace Sys2Proof.Machine

/-! ## BERTH READ (R11) -/

/-- The live record in a reply: every field of R1, in the table's order. -/
def liveBytes (r : LiveRecord) : List Byte :=
  byte1 (codePresence r.presence) ++ byteOr255 (r.programme.map (·.val)) ++ byte1 r.track.val ++ byteFlag r.picture ++
    byte1 r.volume ++ byte1 r.zone.val ++ byte1 r.language.val ++ [r.attrs] ++ byte1 (codeLaneField r.lane)

/-- The staged fields as carried in a reply, in field order: `none` where a field is absent. -/
def stagedFields (g : StagedRecord) : List (Option Nat) :=
  [g.programme.map fun p => (p.map (·.val)).getD 255, g.track.map (·.val), g.picture.map Bool.toNat, g.volume,
   g.zone.map (·.val), g.language.map (·.val), g.dnd.map Bool.toNat, g.lock.map Bool.toNat, g.tag0.map Bool.toNat,
   g.tag1.map Bool.toNat, g.tag2.map Bool.toNat, g.tag3.map Bool.toNat]

/-- The presence mask of some optional fields, field k at bit k (R178). -/
def maskOf (fields : List (Option Nat)) : Nat :=
  (fields.zipIdx.map fun x => if x.1.isSome then 2 ^ x.2 else 0).sum

/-- The staged record in a reply: a presence mask of two bytes, then the present fields (R178; log entry 8). -/
def stagedBytes (g : StagedRecord) : List Byte :=
  byte2 (maskOf (stagedFields g)) ++ (stagedFields g).filterMap fun v => v.map (BitVec.ofNat 8)

/-- The body of a BERTH READ reply. -/
def berthBody (s : State) (b : BerthNo) : List Byte :=
  liveBytes (s.live b) ++ stagedBytes (s.staged b) ++ byteFlag s.commitPending

/-- BERTH READ (R11). -/
def berthRead (berth : Byte) (s : State) : Answer :=
  match carriedFin berthCount berth with
  | none => refuse .badField s
  | some b => ⟨.done, berthBody s b, s⟩

/-! ## BERTH STAGE (R12, R13) -/

/-- An optional carried field whose value cannot be clamped fits its range (R12 test 4). -/
def fits {α : Type} (read : Byte → Option α) (v : Option Byte) : Bool :=
  match v with
  | none => true
  | some b => (read b).isSome

/-- R12 test 4: every named field that cannot be clamped is in range. -/
def stageFits (x : StageBody) : Bool :=
  fits carriedProgramme x.programme && fits (carriedFin 2) x.track && fits (carriedFin 8) x.zone &&
    fits (carriedFin 2) x.language

/-- A staged field takes the carried value if the request names it, and keeps what it had otherwise (R13). -/
def staging {α : Type} (read : Byte → Option α) (v : Option Byte) (old : Option α) : Option α :=
  match v with
  | none => old
  | some b => read b

/-- The staged record after an accepted BERTH STAGE (R13): a Volume above 96 is stored as 96. -/
def stageInto (x : StageBody) (g : StagedRecord) : StagedRecord :=
  let flag := fun b => some (carriedFlag b)
  { programme := staging carriedProgramme x.programme g.programme
    track := staging (carriedFin 2) x.track g.track
    picture := staging flag x.picture g.picture
    volume := staging (fun b => some (min volumeMax b.toNat)) x.volume g.volume
    zone := staging (carriedFin 8) x.zone g.zone
    language := staging (carriedFin 2) x.language g.language
    dnd := staging flag x.dnd g.dnd
    lock := staging flag x.lock g.lock
    tag0 := staging flag x.tag0 g.tag0
    tag1 := staging flag x.tag1 g.tag1
    tag2 := staging flag x.tag2 g.tag2
    tag3 := staging flag x.tag3 g.tag3 }

/-- The carried Volume is above 96 (R13). -/
def stageClamps (x : StageBody) : Bool :=
  match x.volume with
  | none => false
  | some v => outside 0 volumeMax v.toNat

/-- BERTH STAGE (R12, R13). -/
def berthStage (berth : Byte) (x : StageBody) (s : State) : Answer :=
  match carriedFin berthCount berth with
  | none => refuse .badField s
  | some b =>
    if s.presence b = .excluded then refuse .badField s
    else if s.commitPending then refuse .busy s
    else if x.undefinedBit then refuse .badField s
    else if !stageFits x then refuse .badField s
    else ⟨doneOrClamped (stageClamps x), [berth], s.modStaged b (stageInto x)⟩

/-! ## STAGE DISCARD and COMMIT (R14, R15) -/

/-- Empty every staged record (R14). -/
def emptyStaging (s : State) : State :=
  s.setBerths (s.berths.map fun r => { r with staged := .empty })

/-- The number of berths whose staged record is not empty (R14). -/
def stagedCount (s : State) : Nat := s.berths.cells.countP fun r => r.staged ≠ .empty

/-- STAGE DISCARD (R14). -/
def stageDiscard (s : State) : Answer :=
  if s.commitPending then refuse .busy s
  else ⟨.done, byte1 (stagedCount s), emptyStaging s⟩

/-- COMMIT (R15). -/
def commitRequest (s : State) : Answer :=
  if s.commitPending then refuse .busy s
  else ⟨.done, [], s.setCommitPending true⟩

/-! ## The commit carried out (R16, R17) -/

/-- The Track clamped to one less than the track count of the Programme as it stands; no clamp with Programme NONE (R6). -/
def clampTrack (s : State) (r : LiveRecord) : LiveRecord :=
  match r.programme with
  | none => r
  | some p => if r.track.val < (s.programme p).trackCount then r else { r with track := 0 }

/-- A staged flag written into attribute `n` (R2, R16). -/
def carryAttr (v : Option Bool) (n : Nat) (attrs : Byte) : Byte :=
  match v with
  | none => attrs
  | some b => putAttr attrs n b

/-- Each present staged field written into the live field of the same name (R16 step 1). -/
def carryFields (g : StagedRecord) (r : LiveRecord) : LiveRecord :=
  { r with
    programme := g.programme.getD r.programme
    track := g.track.getD r.track
    picture := g.picture.getD r.picture
    volume := g.volume.getD r.volume
    zone := g.zone.getD r.zone
    language := g.language.getD r.language
    attrs := carryAttr g.tag3 (attrTag0 + 3) (carryAttr g.tag2 (attrTag0 + 2) (carryAttr g.tag1 (attrTag0 + 1)
      (carryAttr g.tag0 attrTag0 (carryAttr g.lock attrLock (carryAttr g.dnd attrDnd r.attrs))))) }

/-- A berth's record after the commit (R16 steps 1 to 3); a berth with an empty staged record is not touched. -/
def commitBerth (s : State) (x : Berth) : Berth :=
  if x.staged = .empty then x
  else { live := clampTrack s (carryFields x.staged x.live), staged := .empty }

/-- The commit changes the route of a PRESENT berth: its Programme or Picture (R16, R17). -/
def routeMoves (s : State) (x : Berth) : Bool :=
  let y := (commitBerth s x).live
  x.live.presence == .present && (y.programme != x.live.programme || y.picture != x.live.picture)

/-- The lane batch of a commit: the berths whose route it changes, in berth-number order (R17 step 1). -/
def commitBatch (s : State) : List BerthNo := allBerths.filter fun b => routeMoves s (s.berth b)

/-- A commit carried out (R16, R17). -/
def carryOutCommit (s : State) : State :=
  let batch := commitBatch s
  let s := s.setBerths (s.berths.map (commitBerth s))
  let s := applyBatch batch s
  raise .commitDone ((s.setCommitPending false).modBoundary fun v => { v with commitDue := false })

/-! ## BERTH EDIT (R20, R21) -/

/-- The destination attribute after the edit (R21). -/
def editResult (op : EditOp) (dst src : Bool) : Bool :=
  match op with
  | .set => true
  | .clear => false
  | .toggle => !dst
  | .copy => src
  | .and => dst && src
  | .or => dst || src
  | .xor => dst != src

/-- A berth is selected by a BERTH EDIT (R20). -/
def editSelects (zones mask : Byte) (mode : TestMode) (r : LiveRecord) : Bool :=
  r.presence != .excluded && inZones zones r.zone && passesTest mode mask r.attrs

/-- The attributes of a selected berth after the edit, read as they stood before it (R21). -/
def editAttrs (op : EditOp) (dst src : Nat) (attrs : Byte) : Byte :=
  putAttr attrs dst (editResult op (hasAttr attrs dst) (hasAttr attrs src))

/-- A berth record after the edit: a berth not selected is not touched (R21). -/
def editBerth (zones mask : Byte) (mode : TestMode) (op : EditOp) (dst src : Nat) (x : Berth) : Berth :=
  if editSelects zones mask mode x.live then
    { x with live := { x.live with attrs := editAttrs op dst src x.live.attrs } }
  else x

/-- A selected berth's destination attribute changes (R21). -/
def editChanges (zones mask : Byte) (mode : TestMode) (op : EditOp) (dst src : Nat) (r : LiveRecord) : Bool :=
  editSelects zones mask mode r && (editResult op (hasAttr r.attrs dst) (hasAttr r.attrs src) != hasAttr r.attrs dst)

/-- BERTH EDIT (R20, R21). -/
def berthEdit (zones mask mode op dst src : Byte) (s : State) : Answer :=
  match carriedMode mode, carriedEditOp op with
  | some m, some o =>
    if 8 ≤ dst.toNat ∨ 8 ≤ src.toNat ∨ dst.toNat = attrOccupied ∨ dst.toNat = attrHeadphone then refuse .badField s
    else
      ⟨.done,
        byte1 (s.berths.cells.countP fun x => editSelects zones mask m x.live) ++
          byte1 (s.berths.cells.countP fun x => editChanges zones mask m o dst.toNat src.toNat x.live),
        s.setBerths (s.berths.map (editBerth zones mask m o dst.toNat src.toNat))⟩
  | _, _ => refuse .badField s

/-! ## Berth requests (R22 to R25) -/

/-- The request kinds of a berth reply (R36 note 2, R182); `unlisted` is a kind above 11. -/
inductive BerthRequest where
  | channel (p : Byte)
  | channelOff
  | track (t : Byte)
  | pictureOn | pictureOff | volumeUp | volumeDown | dndOn | dndOff | call | callCancel | unlisted
  deriving DecidableEq, Repr

/-- The live record that a berth request leaves, LOCK being clear (R23 to R25). CALL and
CALL CANCEL do not come here; a request of a kind not listed has no effect (R39). -/
def applyRequest (s : State) (q : BerthRequest) (r : LiveRecord) : LiveRecord :=
  match q with
  | .channel p =>
    match carriedFin programmeCount p with
    | none => r
    | some n => { r with programme := some n, track := if (s.programme n).trackCount = 2 then r.language else 0 }
  | .channelOff => { r with programme := none }
  | .track t =>
    match r.programme, carriedFin 2 t with
    | some p, some k => if k.val < (s.programme p).trackCount then { r with track := k } else r
    | _, _ => r
  | .pictureOn => { r with picture := true }
  | .pictureOff => { r with picture := false }
  | .volumeUp => { r with volume := r.volume - volumeStep }
  | .volumeDown => { r with volume := min volumeMax (r.volume + volumeStep) }
  | .dndOn => { r with attrs := putAttr r.attrs attrDnd true }
  | .dndOff => { r with attrs := putAttr r.attrs attrDnd false }
  | .call => r
  | .callCancel => r
  | .unlisted => r

/-- A taken berth request at the Berth Table (R22): no effect under LOCK; otherwise the live record changes, a route change
of a PRESENT berth goes to the Lane Allocator (R7), and BERTH_CHANGED is raised when a live field changed value. -/
def takeBerthRequest (b : BerthNo) (q : BerthRequest) (s : State) : State :=
  let r := s.live b
  if hasAttr r.attrs attrLock then s
  else
    let r' := applyRequest s q r
    let t := s.modLive b fun _ => r'
    let t :=
      if r.presence = .present ∧ (r'.programme ≠ r.programme ∨ r'.picture ≠ r.picture) then routeChange b t else t
    if r' = r then t else raise .berthChanged t

/-! ## The call queue's side of berth requests (R162) -/

/-- The call queue holds an entry for the berth. -/
def hasCall (s : State) (b : BerthNo) : Bool := s.coach.calls.any fun c => c.berth = b

/-- CALL (R162): appended with the capture stamp unless the berth has an entry. -/
def takeCall (b : BerthNo) (s : State) : State :=
  if hasCall s b then s
  else raise .call (s.modCoach fun k => { k with calls := k.calls ++ [⟨b, s.blockCount, .call⟩] })

/-- Remove the berth's call entry, wherever it stands (R162, R164). -/
def dropCall (b : BerthNo) (s : State) : State :=
  s.modCoach fun k => { k with calls := k.calls.filter fun c => c.berth ≠ b }

/-- A taken berth request goes to its owner (R39). -/
def handOnRequest (b : BerthNo) (q : BerthRequest) (s : State) : State :=
  match q with
  | .call => takeCall b s
  | .callCancel => dropCall b s
  | _ => takeBerthRequest b q s

end Sys2Proof.Machine
end

