-- ==== Sys2Proof/Machine/Lines.lean ====
section
/-! DEFINITION. The Line Controllers: line requests, outbound frames, reply slots and their outcomes, drive conflicts
(chapter 2). -/

namespace Sys2Proof.Machine

/-! ## Line requests -/

/-- The berth link records of all 12 slots cleared (R30, R45). -/
def clearLinks (l : LineNo) (s : State) : State :=
  s.modLine l fun x => { x with links := .fill slotCount .clear }

/-- LINE SETUP's notification of a slot: ABSENT below the fitted count, EXCLUDED at or above it (R3, R30). -/
def setupNotice (count : Nat) (s : State) (b : BerthNo) : State :=
  notify (if (slotOf b).val < count then .absent else .excluded) b s

/-- LINE SETUP (R30). -/
def lineSetup (line count : Byte) (s : State) : Answer :=
  match carriedFin lineCount line with
  | none => refuse .badField s
  | some l =>
    if s.device = .run ∧ (s.line l).state ≠ .off then refuse .wrongState s
    else if slotCount < count.toNat then refuse .badField s
    else
      ⟨.done, [line, count],
        clearLinks l (forEach (berthsOf l) (setupNotice count.toNat) (s.modLine l fun x => { x with fitted := count.toNat }))⟩

/-- The error sum of a link record: set while any of the three error flags is set (R37). -/
def LinkRecord.errorSum (r : LinkRecord) : Bool := r.framingFlag || r.checkFlag || r.collisionFlag

/-- LINE READ (R43). -/
def lineRead (line : Byte) (s : State) : Answer :=
  match carriedFin lineCount line with
  | none => refuse .badField s
  | some l =>
    let x := s.line l
    ⟨.done,
      byte1 (codeLineState x.state) ++ byte1 x.fitted ++ byte4 x.framesSent.toNat ++ byte1 x.faultCount ++
        (berthsOf l).flatMap fun b => byte1 (codePresence (s.presence b)) ++ byteFlag (s.linkOf b).errorSum,
      s⟩

/-- A line that leaves RUNNING sends nothing more, and an open reply slot is abandoned (R27, R34, R35). -/
def quietLine (v : LineState) (x : Line) : Line :=
  { x with state := v, frame := none, slotOpen := false, frameDue := false }

/-- LINE STOP (R44). -/
def lineStop (line : Byte) (s : State) : Answer :=
  if s.device = .config then refuse .wrongState s
  else
    match carriedFin lineCount line with
    | none => refuse .badField s
    | some l =>
      if (s.line l).state = .off then ⟨.done, [], s⟩
      else ⟨.done, [], dropLine l (s.modLine l (quietLine .off))⟩

/-- LINE RESTART (R45). -/
def lineRestart (line : Byte) (s : State) : Answer :=
  if s.device = .config then refuse .wrongState s
  else
    match carriedFin lineCount line with
    | none => refuse .badField s
    | some l =>
      if (s.line l).state = .running ∨ (s.line l).fitted = 0 then refuse .wrongState s
      else ⟨.done, [], (clearLinks l s).modLine l fun x => { x with framesSent := 0, state := .running }⟩

/-- BERTH LINK READ (R46). -/
def berthLinkRead (berth : Byte) (s : State) : Answer :=
  match carriedFin berthCount berth with
  | none => refuse .badField s
  | some b =>
    let r := s.linkOf b
    ⟨.done,
      byte1 (codePresence (s.presence b)) ++ byte1 r.missCount ++ byte1 r.collisionRun ++ byteFlag r.framingFlag ++
        byteFlag r.checkFlag ++ byteFlag r.collisionFlag ++ byteFlag r.errorSum ++ byteFlag r.takenToggle ++
        byte2 r.good ++ byte2 r.silent ++ byte2 r.framing ++ byte2 r.check ++ byte2 r.collision,
      s⟩

/-- The flags and counters cleared by BERTH LINK CLEAR (R47 steps 1 and 2). -/
def clearedLink (r : LinkRecord) : LinkRecord :=
  { r with framingFlag := false, checkFlag := false, collisionFlag := false, good := 0, silent := 0, framing := 0,
           check := 0, collision := 0 }

/-- BERTH LINK CLEAR (R47). -/
def berthLinkClear (berth : Byte) (s : State) : Answer :=
  match carriedFin berthCount berth with
  | none => refuse .badField s
  | some b =>
    if s.presence b = .excluded then refuse .badField s
    else
      let t := s.modLinkOf b clearedLink
      if s.presence b = .conflict then
        ⟨.done, [], notify .absent b (t.modLinkOf b fun r => { r with collisionRun := 0 })⟩
      else ⟨.done, [], t⟩

/-! ## The outbound frame (R31 to R33) -/

/-- The control word of a berth (R32). -/
def controlWord (s : State) (b : BerthNo) : ControlWord :=
  { lane := laneNumber (s.live b).lane
    card := screenCard s b
    shownVolume := effectiveVolume s b
    floorClass := floorClass s b
    lockSet := hasAttr (s.live b).attrs attrLock
    takenToggle := (s.linkOf b).takenToggle
    callQueued := hasCall s b
    acknowledged := s.presence b == .present }

/-- The audio blocks of a line's frame: one for each PRESENT berth, in slot order (R31 item 4). -/
def frameAudio (s : State) (l : LineNo) : List Block :=
  ((berthsOf l).filter fun b => s.presence b = .present).map fun b => (s.mixOf b).delivered.getD .silence

/-- The packets of a frame: the oldest of each send queue that is not empty, in lane order (R33). -/
def framePackets (queues : Table (List Packet) laneCount) : List (LaneNo × Packet) :=
  (List.finRange laneCount).filterMap fun n => (queues.get n).head?.map fun p => (n, p)

/-- The slot called in the block: b mod 12 (R31). -/
def slotCalled (s : State) : Nat := s.blockCount.toNat % pollCycle

/-- The outbound frame that a line sends in the block (R31). -/
def composeFrame (s : State) (l : LineNo) : OutboundFrame :=
  { slotCalled := slotCalled s
    fitted := (s.line l).fitted
    words := ((berthsOf l).filter fun b => (slotOf b).val < (s.line l).fitted).map (controlWord s)
    audio := frameAudio s l
    packets := framePackets (s.line l).queues }

/-- A RUNNING line whose frame is due sends it: frames sent rises, each queue gives its oldest packet, and the outbound
window opens (R31, R33). -/
def sendFrame (s : State) (l : LineNo) : State :=
  if (s.line l).frameDue && ((s.line l).state == .running) then
    let f := composeFrame s l
    s.modLine l fun x =>
      { x with frame := some f, framesSent := x.framesSent + 1, queues := x.queues.map List.tail, slotOpen := true,
               frameDue := false }
  else s.modLine l fun x => { x with frameDue := false }

/-- The three bytes of a control word (R181). -/
def controlWordBytes (w : ControlWord) : List Byte :=
  byte1 ((if w.acknowledged then 128 else 0) + (if w.takenToggle then 64 else 0) + w.card) ++
    byte1 ((if w.lockSet then 128 else 0) + w.shownVolume) ++
    byte1 ((if w.callQueued then 128 else 0) + w.floorClass.getD 7 * 16 + w.lane)

/-- The bytes of an outbound frame (R181). -/
def frameBytes (f : OutboundFrame) : List Byte :=
  byte1 f.slotCalled ++ byte1 f.fitted ++ f.words.flatMap controlWordBytes ++ f.audio.flatMap blockBytes ++
    f.packets.flatMap fun x => byte1 (x.1.val + 1) ++ byte2 x.2.length ++ x.2

/-! ## Reply slots (R35 to R41) -/

/-- The outcome of a reply slot (R36). -/
inductive Outcome where
  | collision | silent | framing | check
  | good (request : Option BerthRequest) (toggle occupied headphone : Bool)
  deriving DecidableEq, Repr

/-- The request of a GOOD reply by its coded kind (R182): NONE gives `none`; a kind above 11 is a request of a kind not
listed (R39). -/
def replyRequest (kind argument : Byte) : Option BerthRequest :=
  match kind.toNat with
  | 0 => none
  | 1 => some (.channel argument)
  | 2 => some .channelOff
  | 3 => some (.track argument)
  | 4 => some .pictureOn
  | 5 => some .pictureOff
  | 6 => some .volumeUp
  | 7 => some .volumeDown
  | 8 => some .dndOn
  | 9 => some .dndOff
  | 10 => some .call
  | 11 => some .callCancel
  | _ => some .unlisted

/-- What the Line Controller classes a reply slot as (R36, R182). -/
def classify : SlotSignal → Outcome
  | .collision => .collision
  | .silent => .silent
  | .undecoded => .framing
  | .sent [kind, argument, flags, value] =>
    if byteSum [kind, argument, flags, value] = 0 then
      .good (replyRequest kind argument) (flags.getLsbD 0) (flags.getLsbD 1) (flags.getLsbD 2)
    else .check
  | .sent _ => .framing

/-- The berth that the open reply slot of a line belongs to: slot b mod 12 (R35). -/
def slotBerth (s : State) (l : LineNo) : BerthNo :=
  berthAt l ⟨slotCalled s, Nat.mod_lt _ (by decide)⟩

/-- The slot's reply is examined: the slot is below the fitted count and its berth is ABSENT or PRESENT (R35). -/
def slotExamined (s : State) (l : LineNo) : Bool :=
  decide (slotCalled s < (s.line l).fitted) &&
    (s.presence (slotBerth s l) == .absent || s.presence (slotBerth s l) == .present)

/-- A GOOD outcome's effect on the counts (R38 step 1, R39 step 1). -/
def goodLink (r : LinkRecord) : LinkRecord :=
  { r with missCount := 0, collisionRun := 0, good := countHalf r.good }

/-- The miss count raised by a lost reply (R40). -/
def lostMiss (r : LinkRecord) : Nat := countTo missLimit r.missCount

/-- A lost reply's effect on the link record (R40); an outcome that is not a lost reply has none. -/
def lostLink (o : Outcome) (r : LinkRecord) : LinkRecord :=
  match o with
  | .silent => { r with missCount := lostMiss r, collisionRun := 0, silent := countHalf r.silent }
  | .framing => { r with missCount := lostMiss r, framingFlag := true, framing := countHalf r.framing }
  | .check => { r with missCount := lostMiss r, checkFlag := true, check := countHalf r.check }
  | _ => r

/-- A lost reply (R40): a PRESENT berth whose miss count reaches 16 becomes ABSENT. -/
def applyLost (o : Outcome) (b : BerthNo) (s : State) : State :=
  let t := s.modLinkOf b (lostLink o)
  if s.presence b = .present ∧ (t.linkOf b).missCount = missLimit then notify .absent b t else t

/-- A COLLISION outcome (R41): at a run of 3 the berth becomes CONFLICT. -/
def applyCollision (b : BerthNo) (s : State) : State :=
  let t := s.modLinkOf b fun r =>
    { r with collisionFlag := true, collision := countHalf r.collision,
             collisionRun := countTo collisionLimit r.collisionRun }
  if (t.linkOf b).collisionRun = collisionLimit then notify .conflict b t else t

/-- The taken toggle becomes the reply's request toggle (R38 step 2, R39 step 4). -/
def putToggle (b : BerthNo) (v : Bool) (s : State) : State :=
  s.modLinkOf b fun r => { r with takenToggle := v }

/-- A GOOD reply from an ABSENT berth (R38): it becomes PRESENT and its request is not taken. -/
def goodFromAbsent (b : BerthNo) (toggle occupied headphone : Bool) (s : State) : State :=
  writeSensed b occupied headphone (notify .present b (putToggle b toggle (s.modLinkOf b goodLink)))

/-- A GOOD reply from a PRESENT berth (R39): sensed attributes, then the request if the toggles differ, then the toggle. -/
def goodFromPresent (b : BerthNo) (request : Option BerthRequest) (toggle occupied headphone : Bool) (s : State) : State :=
  let t := writeSensed b occupied headphone (s.modLinkOf b goodLink)
  let t :=
    match request with
    | none => t
    | some q => if toggle = (s.linkOf b).takenToggle then t else handOnRequest b q t
  putToggle b toggle t

/-- An outcome applied to the slot's berth (R38 to R41). -/
def applyOutcome (b : BerthNo) (o : Outcome) (s : State) : State :=
  match o with
  | .collision => applyCollision b s
  | .good q toggle occupied headphone =>
    if s.presence b = .present then goodFromPresent b q toggle occupied headphone s
    else goodFromAbsent b toggle occupied headphone s
  | .silent => applyLost .silent b s
  | .framing => applyLost .framing b s
  | .check => applyLost .check b s

/-- The reply slot of a line completes with what it received (R35). -/
def completeSlot (l : LineNo) (signal : SlotSignal) (s : State) : State :=
  if (s.line l).slotOpen then
    let t := s.modLine l fun x => { x with slotOpen := false }
    if slotExamined s l then applyOutcome (slotBerth s l) (classify signal) t else t
  else s

/-- A signal is classed as a lost reply: SILENT, FRAMING or CHECK (R40). -/
def isLost (signal : SlotSignal) : Bool :=
  match classify signal with
  | .silent => true
  | .framing => true
  | .check => true
  | _ => false

/-- The next lost reply of the open slot drops its berth: PRESENT at miss count 15 (R40). -/
def dropDue (s : State) (l : LineNo) : Bool :=
  (s.line l).slotOpen && slotExamined s l && s.presence (slotBerth s l) == .present &&
    decide (missLimit ≤ (s.linkOf (slotBerth s l)).missCount + 1)

/-- The next COLLISION of the open slot makes its berth CONFLICT: its run is 2 (R41). -/
def conflictDue (s : State) (l : LineNo) : Bool :=
  (s.line l).slotOpen && slotExamined s l && decide (collisionLimit ≤ (s.linkOf (slotBerth s l)).collisionRun + 1)

/-- A drive conflict found while the line's outbound window is open (R34). -/
def driveConflict (l : LineNo) (s : State) : State :=
  if (s.line l).slotOpen && ((s.line l).state == .running) then
    raise .lineFault (dropLine l (s.modLine l fun x =>
      { quietLine .faulted x with faultCount := countTo byteMax x.faultCount }))
  else s

/-! ## LANE READ (R82) -/

/-- A lane in a LANE READ reply: state, programme (FFh for none), reference count, queue depth, drop count. -/
def laneBytes (s : State) (l : LineNo) (n : LaneNo) : List Byte :=
  let lane := (s.laneSet l).lanes.get n
  let depth := ((s.line l).queues.get n).length
  let drops := (s.laneSet l).drops.get n
  match lane with
  | .free => byte1 0 ++ byteOr255 none ++ byte1 0 ++ byte1 depth ++ byte2 drops
  | .carrying p c => byte1 1 ++ byte1 p.val ++ byte1 c ++ byte1 depth ++ byte2 drops

/-- LANE READ (R82). -/
def laneRead (line : Byte) (s : State) : Answer :=
  match carriedFin lineCount line with
  | none => refuse .badField s
  | some l =>
    ⟨.done,
      (List.finRange laneCount).flatMap (laneBytes s l) ++ byte1 (s.laneSet l).waits.length ++
        (s.laneSet l).waits.flatMap fun b => byte1 b.val,
      s⟩

end Sys2Proof.Machine
end

