-- ==== Sys2Proof/Machine/MediaPort.lean ====
section
/-! DEFINITION. Media Ingress: programme requests, media frames, track jitter buffers, picture forwarding and the recorded
buffer (chapter 3). -/

namespace Sys2Proof.Machine

/-! ## Programme requests -/

/-- Track 1 leaves use (R52): IDLE, slots emptied, last-good forgotten, conceal-used clear, miss run and expected sequence 0;
its counters keep their values. -/
def retireTrack (t : Track) : Track :=
  { t with state := .idle, expected := 0, slots := .fill jitterSlots none, lastGood := none, concealUsed := false,
           missRun := 0 }

/-- PROGRAMME SETUP's clamp of live Tracks when the track count becomes 1 (R6). -/
def dropTrackOne (p : ProgrammeNo) (s : State) : State :=
  s.setBerths (s.berths.map fun x =>
    if x.live.programme = some p ∧ x.live.track = 1 then { x with live := { x.live with track := 0 } } else x)

/-- PROGRAMME SETUP (R52). -/
def programmeSetup (programme picture tracks trim0 trim1 card : Byte) (s : State) : Answer :=
  if s.device = .run then refuse .wrongState s
  else
    match carriedFin programmeCount programme with
    | none => refuse .badField s
    | some p =>
      if tracks.toNat ≠ 1 ∧ tracks.toNat ≠ 2 then refuse .badField s
      else if cardMax < card.toNat then refuse .badField s
      else
        let stored := s.modProgramme p fun r =>
          { r with
            picture := carriedFlag picture
            trackCount := tracks.toNat
            trim0 := min trimMax trim0.toNat
            trim1 := min trimMax trim1.toNat
            stillCard := card.toNat
            tracks := if r.trackCount = 2 ∧ tracks.toNat = 1 then r.tracks.modify 1 retireTrack else r.tracks }
        ⟨doneOrClamped (outside 0 trimMax trim0.toNat || outside 0 trimMax trim1.toNat), [programme],
          if tracks.toNat = 1 then dropTrackOne p stored else stored⟩

/-- A trim or a setting takes the carried value limited to `hi`, or keeps what it had (R53, R160). -/
def storing (hi : Nat) (v : Option Byte) (old : Nat) : Nat :=
  match v with
  | none => old
  | some b => min hi b.toNat

/-- An optional carried value is above `hi`. -/
def above (hi : Nat) (v : Option Byte) : Bool :=
  match v with
  | none => false
  | some b => decide (hi < b.toNat)

/-- PROGRAMME TRIM (R53); its DONE carries no body. -/
def programmeTrim (programme : Byte) (x : TrimBody) (s : State) : Answer :=
  match carriedFin programmeCount programme with
  | none => refuse .badField s
  | some p =>
    if x.undefinedBit || above cardMax x.stillCard then refuse .badField s
    else
      ⟨doneOrClamped (above trimMax x.trim0 || above trimMax x.trim1), [],
        s.modProgramme p fun r =>
          { r with trim0 := storing trimMax x.trim0 r.trim0, trim1 := storing trimMax x.trim1 r.trim1,
                   stillCard := storing cardMax x.stillCard r.stillCard }⟩

/-- A track in a PROGRAMME READ reply (R54, R55): one set / clear byte for each slot (log entry 8). -/
def trackBytes (t : Track) : List Byte :=
  byte1 (codeTrackState t.state) ++ [t.expected] ++ t.slots.cells.flatMap (fun x => byteFlag x.isSome) ++
    byteFlag t.lastGood.isSome ++ byteFlag t.concealUsed ++ byte1 t.missRun ++ byte2 t.accepted.toNat ++
    byte2 t.concealed ++ byte2 t.silent ++ byte2 t.skipped ++ byte2 t.late

/-- The body of a PROGRAMME READ reply for a programme (R54). -/
def programmeBody (r : Programme) : List Byte :=
  byteFlag r.picture ++ byte1 r.trackCount ++ byte1 r.trim0 ++ byte1 r.trim1 ++ byte1 r.stillCard ++
    byte2 r.received.toNat ++ byte2 r.unplaced.toNat ++ r.tracks.cells.flatMap trackBytes

/-- The body of a PROGRAMME READ reply for the port (R54). -/
def portBody (m : Media) : List Byte :=
  byte2 m.port.damaged ++ byte2 m.port.foreign ++ byte2 m.port.kind ++ byte2 m.port.length ++ byte2 m.port.programme ++
    byte2 m.port.track ++ byte2 m.port.picture ++ byte1 m.recorded.blocks.length ++ byteHandle m.recorded.target ++
    byte2 m.recorded.appended.toNat ++ byte2 m.recorded.taken.toNat ++ byte2 m.recorded.full ++
    byte2 m.recorded.stray ++ byte2 m.recorded.flushed

/-- PROGRAMME READ (R54): FFh names the port. -/
def programmeRead (selector : Byte) (s : State) : Answer :=
  if selector = 0xFF then ⟨.done, portBody s.media, s⟩
  else
    match carriedFin programmeCount selector with
    | none => refuse .badField s
    | some p => ⟨.done, programmeBody (s.programme p), s⟩

/-! ## Track jitter buffers (R55 to R60) -/

/-- An arrival synchronises a track that is IDLE or STARVED (R56). -/
def synchronise (n : Byte) (b : Block) (t : Track) : Track :=
  { t with state := .flowing, expected := n, slots := (Table.fill jitterSlots none).set 0 (some b), missRun := 0,
           concealUsed := false, accepted := t.accepted + 1 }

/-- The slots moved down by `m`: each slot k takes what slot k + m held, and the last m become empty (R57, R58). -/
def slide (m : Nat) (slots : Table (Option Block) jitterSlots) : Table (Option Block) jitterSlots :=
  .ofFn fun k => if h : k.val + m < jitterSlots then slots.get ⟨k.val + m, h⟩ else none

/-- An arrival at a FLOWING track (R57). -/
def placeArrival (n : Byte) (b : Block) (t : Track) : Track :=
  let d := (n - t.expected).toNat
  if h : d < jitterSlots then
    { t with slots := t.slots.set ⟨d, h⟩ (some b), accepted := t.accepted + 1 }
  else if d < 128 then
    { t with slots := (slide (d - 3) t.slots).set 3 (some b), expected := n - 3, skipped := countHalfBy (d - 3) t.skipped,
             accepted := t.accepted + 1 }
  else { t with late := countHalf t.late }

/-- An AUDIO arrival (R56, R57). -/
def audioArrival (n : Byte) (b : Block) (t : Track) : Track :=
  match t.state with
  | .flowing => placeArrival n b t
  | _ => synchronise n b t

/-- The play of a FLOWING track before the window moves on (R58 cases 1 to 3). -/
def playChoice (t : Track) : Track :=
  match t.slots.get 0 with
  | some b => { t with played := b, lastGood := some b, missRun := 0, concealUsed := false }
  | none =>
    let missed := countTo trackStarveLimit t.missRun
    match t.concealUsed, t.lastGood with
    | false, some b =>
      { t with played := b, concealUsed := true, concealed := countHalf t.concealed, missRun := missed }
    | _, _ => { t with played := .silence, silent := countHalf t.silent, missRun := missed }

/-- The window moves on by one (R58). -/
def moveWindow (t : Track) : Track := { t with slots := slide 1 t.slots, expected := t.expected + 1 }

/-- A track becomes STARVED (R59 steps 1 to 3). -/
def starveTrack (t : Track) : Track :=
  { t with state := .starved, skipped := countHalfBy (t.slots.cells.countP Option.isSome) t.skipped,
           slots := .fill jitterSlots none, lastGood := none, concealUsed := false }

/-- The miss of this block start brings the miss run of a FLOWING track to 250 (R59). -/
def starvesNow (t : Track) : Bool :=
  t.state == .flowing && (t.slots.get 0).isNone && decide (trackStarveLimit ≤ t.missRun + 1)

/-- A track's play at a block start (R58, R59). -/
def playTrack (t : Track) : Track :=
  match t.state with
  | .flowing => if starvesNow t then starveTrack (moveWindow (playChoice t)) else moveWindow (playChoice t)
  | _ => { t with played := .silence }

/-- The block start of one track, with the event of R59. -/
def takeTrack (p : ProgrammeNo) (t : TrackNo) (s : State) : State :=
  let starves := starvesNow (s.track p t)
  let s := s.modTrack p t fun x => { playTrack x with due := false }
  if starves then raise .starved s else s

/-! ## Picture forwarding (R61) -/

/-- A picture packet offered to lane `n` of line `l`: appended, or dropped at a full queue. -/
def offerPacket (pk : Packet) (l : LineNo) (n : LaneNo) (s : State) : State :=
  let q := (s.line l).queues.get n
  if q.length < sendQueueDepth then s.modLine l fun x => { x with queues := x.queues.set n (q ++ [pk]) }
  else s.modLaneSet l fun ls => { ls with drops := ls.drops.modify n countHalf }

/-- The lane of a RUNNING line that carries programme `p`. -/
def pictureLane (s : State) (p : ProgrammeNo) (l : LineNo) : Option LaneNo :=
  if (s.line l).state = .running then carrierOf (s.laneSet l) p else none

/-- The line is RUNNING and has a lane that carries `p`. -/
def lineCarries (s : State) (p : ProgrammeNo) (l : LineNo) : Bool :=
  (pictureLane s p l).isSome

/-- A PICTURE frame for programme `p` (R61). -/
def forwardPicture (p : ProgrammeNo) (pk : Packet) (s : State) : State :=
  let placed := (List.finRange lineCount).any (lineCarries s p)
  let s := s.modProgramme p fun r => { r with received := r.received + 1 }
  let s := forEach (List.finRange lineCount)
    (fun t l => match pictureLane t p l with
      | some n => offerPacket pk l n t
      | none => t) s
  if placed then s else s.modProgramme p fun r => { r with unplaced := r.unplaced + 1 }

/-! ## The recorded buffer (R63 to R66) -/

/-- Every held block removed, each counted as flushed (R66). -/
def flush (r : RecordedBuffer) : RecordedBuffer :=
  { r with blocks := [], flushed := countHalfBy r.blocks.length r.flushed }

/-- Open h (R66). -/
def openRecorded (h : Byte) (s : State) : State := s.modRecorded fun r => { flush r with target := some h }

/-- Close (R66). -/
def closeRecorded (s : State) : State := s.modRecorded fun r => { flush r with target := none }

/-- A RECORDED arrival (R64). -/
def recordedArrival (h : Byte) (b : RecordedBlock) (s : State) : State :=
  if s.media.recorded.target = some h then
    if s.media.recorded.blocks.length < recordedDepth then
      s.modRecorded fun r => { r with blocks := r.blocks ++ [b], appended := r.appended + 1 }
    else raise .mediaError (s.modRecorded fun r => { r with full := countHalf r.full })
  else s.modRecorded fun r => { r with stray := countHalf r.stray }

/-- The oldest recorded block is handed over (R65). -/
def takeRecorded (s : State) : State :=
  s.modRecorded fun r => { r with blocks := r.blocks.tail, taken := r.taken + 1 }

/-! ## Media frames (R49, R50, R183) -/

/-- The kinds of a media frame (R183). -/
inductive MediaKind where
  | audio | picture | recorded
  deriving DecidableEq, Repr

/-- The kind by its code (R183). -/
def mediaKind (b : Byte) : Option MediaKind :=
  match b.toNat with
  | 1 => some .audio
  | 2 => some .picture
  | 3 => some .recorded
  | _ => none

/-- A media header and the bytes after it (R49, R183). -/
structure MediaHeader where
  kind : Byte
  name : Byte
  track : Byte
  sequence : Byte
  endMarker : Bool
  length : Nat
  held : List Byte
  deriving DecidableEq, Repr

/-- The media header of a frame's bytes (R183). -/
def mediaHeader (bs : List Byte) : MediaHeader :=
  { kind := bs.getD 0 0
    name := bs.getD 1 0
    track := bs.getD 2 0
    sequence := bs.getD 3 0
    endMarker := (bs.getD 4 0).getLsbD 0
    length := (halfOf (bs.getD 5 0) (bs.getD 6 0)).toNat
    held := bs.drop mediaHeaderLength }

/-- The cause counters of R50. -/
inductive MediaCause where
  | kind | length | programme | track | picture
  deriving DecidableEq, Repr

/-- A payload length that fits the kind and the bytes held (R50 test 2). -/
def lengthFits (k : MediaKind) (h : MediaHeader) : Bool :=
  decide (h.length ≤ h.held.length) &&
    match k with
    | .picture => decide (1 ≤ h.length) && decide (h.length ≤ 1400)
    | _ => h.length == 96

/-- What becomes of a media frame under the tests of R50: a cause of discard, or its destination. -/
inductive Routed where
  | discarded (c : MediaCause)
  | audio (p : ProgrammeNo) (t : TrackNo)
  | picture (p : ProgrammeNo)
  | recorded
  deriving DecidableEq, Repr

/-- The tests of R50, in order. -/
def routeMedia (s : State) (h : MediaHeader) : Routed :=
  match mediaKind h.kind with
  | none => .discarded .kind
  | some k =>
    if !lengthFits k h then .discarded .length
    else
      match k with
      | .recorded => .recorded
      | .audio =>
        match carriedFin programmeCount h.name with
        | none => .discarded .programme
        | some p =>
          match carriedFin 2 h.track with
          | none => .discarded .track
          | some t => if t.val < (s.programme p).trackCount then .audio p t else .discarded .track
      | .picture =>
        match carriedFin programmeCount h.name with
        | none => .discarded .programme
        | some p => if (s.programme p).picture then .picture p else .discarded .picture

/-- The cause counter of a failed test rises (R50). -/
def countCause (c : MediaCause) (p : PortCounters) : PortCounters :=
  match c with
  | .kind => { p with kind := countHalf p.kind }
  | .length => { p with length := countHalf p.length }
  | .programme => { p with programme := countHalf p.programme }
  | .track => { p with track := countHalf p.track }
  | .picture => { p with picture := countHalf p.picture }

/-- A media frame (R50): discarded, or taken at its destination. -/
def takeMediaFrame (h : MediaHeader) (s : State) : State :=
  let payload := h.held.take h.length
  match routeMedia s h with
  | .discarded c => raise .mediaError (s.modPort (countCause c))
  | .audio p t => s.modTrack p t (audioArrival h.sequence (blockOf payload))
  | .picture p => forwardPicture p payload s
  | .recorded => recordedArrival h.name ⟨blockOf payload, h.endMarker⟩ s

/-- A frame at the media port (R49): damaged, foreign, or a media frame. -/
def arriveFrame (f : EthernetFrame) (s : State) : State :=
  if !f.checkGood then s.modPort fun p => { p with damaged := countHalf p.damaged }
  else if f.etherType ≠ mediaType then s.modPort fun p => { p with foreign := countHalf p.foreign }
  else takeMediaFrame (mediaHeader f.bytes) s

end Sys2Proof.Machine
end

