-- ==== Sys2Proof/Machine/Voices.lean ====
section
/-! DEFINITION. The chime patterns and the three voices (chapter 8). The chime end's effect on the entry stands with the
Announcement Controller. -/

namespace Sys2Proof.Machine

/-! ## Waveform and envelope (R135, R136) -/

/-- The high count H of a tone note: P times duty, div 8 (R135). -/
def highCount (tone : Fin 8) (duty : Nat) : Nat := tonePeriod tone * duty / 8

/-- The 48 samples of one block of a note from a sample phase (R135); a REST gives zeros. -/
def noteBlock (n : Note) (phase : Nat) : Block :=
  match n.tone with
  | none => .silence
  | some t =>
    .ofFn fun i => if (phase + i.val) % tonePeriod t < highCount t n.duty then chimeAmplitude else -chimeAmplitude

/-- The sample phase after one block of a note (R135); a REST keeps phase 0 (log entry 9). -/
def phaseAfter (n : Note) (phase : Nat) : Nat :=
  match n.tone with
  | none => 0
  | some t => (phase + 48) % tonePeriod t

/-- The env of a note's first block (R136, R138, R139). -/
def firstEnv (n : Note) : Nat :=
  match n.tone with
  | none => mute
  | some _ => n.a0

/-- The decay counter and env at a later block start of a note (R136). -/
def decayMove (n : Note) (p : Playing) : Playing :=
  match n.tone with
  | none => p
  | some _ =>
    if n.decay = 0 then p
    else if n.decay ≤ p.decayCounter + 1 then { p with decayCounter := 0, env := min mute (p.env + 1) }
    else { p with decayCounter := p.decayCounter + 1 }

/-! ## Voices (R137 to R140) -/

/-- A voice at the first block of note `i` (R138, R139). -/
def atNote (p : Playing) (i : Nat) (n : Note) : Playing :=
  { p with noteIndex := i, blocksInto := 0, samplePhase := 0, env := firstEnv n, decayCounter := 0 }

/-- A voice that plays one block of the note it is at: samples and env handed over, the sample phase moved on. -/
def playBlock (n : Note) (p : Playing) : Voice :=
  { playing := some { p with samplePhase := phaseAfter n p.samplePhase }
    output := some (noteBlock n p.samplePhase, p.env)
    due := false }

/-- An IDLE voice hands nothing (R137). -/
def idleVoice : Voice := ⟨none, none, false⟩

/-- What the advance of a PLAYING voice comes to (R139). -/
inductive VoiceMove where
  | on (n : Note) (p : Playing)
  | nextNote (n : Note) (p : Playing)
  | chimeEnd
  deriving DecidableEq, Repr

/-- The advance of a PLAYING voice (R139 steps 1 to 4). A note index beyond the pattern, which R141 rules out, ends it. -/
def voiceMove (notes : List Note) (p : Playing) : VoiceMove :=
  match notes[p.noteIndex]? with
  | none => .chimeEnd
  | some n =>
    if n.duration ≤ p.blocksInto + 1 then
      match notes[p.noteIndex + 1]? with
      | none => .chimeEnd
      | some m => .nextNote m (atNote p (p.noteIndex + 1) m)
    else .on n (decayMove n { p with blocksInto := p.blocksInto + 1 })

/-- The voice that a move leaves. -/
def movedVoice : VoiceMove → Voice
  | .on n p => playBlock n p
  | .nextNote n p => playBlock n p
  | .chimeEnd => idleVoice

/-- The notes of a pattern as the table stands. -/
def notesOf (s : State) (p : PatternNo) : List Note := s.chimes.patterns.get p

/-- The advance that a voice would make at a block start; `none` for an IDLE voice. -/
def pendingMove (s : State) (v : Source) : Option VoiceMove :=
  (s.voice v).playing.map fun p => voiceMove (notesOf s p.pattern) p

/-- A voice starts on an entry's pattern and plays the first block of note 0 (R138). A pattern has at least one note
(R134); an empty one would leave the voice IDLE. -/
def startVoice (v : Source) (h : Byte) (p : PatternNo) (s : State) : State :=
  match notesOf s p with
  | [] => s.modVoice v fun _ => idleVoice
  | n :: _ => s.modVoice v fun _ => playBlock n (atNote ⟨h, p, 0, 0, 0, 0, 0⟩ 0 n)

/-- A voice is stopped (R140): IDLE at once; what it handed for the current block stands. -/
def stopVoice (v : Source) (s : State) : State :=
  s.modVoice v fun x => { x with playing := none, due := false }

/-! ## CHIME LOAD and CHIME READ (R141, R143) -/

/-- A carried note, clamped (R141); `none` when its tone is neither 0 to 7 nor REST. -/
def loadNote (n : NoteBody) : Option Note :=
  (carriedTone n.tone).map fun t =>
    { tone := t, duty := clampTo 1 4 n.duty.toNat, duration := clampTo 1 2000 n.duration.toNat,
      a0 := min 126 n.a0.toNat, decay := n.decay.toNat }

/-- A field of a carried note is clamped (R141). -/
def noteClamps (n : NoteBody) : Bool :=
  outside 1 4 n.duty.toNat || outside 1 2000 n.duration.toNat || outside 0 126 n.a0.toNat

/-- All the carried notes, clamped; `none` when some tone is no tone (R141 test 3). -/
def loadNotes : List NoteBody → Option (List Note)
  | [] => some []
  | n :: ns =>
    match loadNote n, loadNotes ns with
    | some x, some xs => some (x :: xs)
    | _, _ => none

/-- A voice is PLAYING the pattern (R141 test 4). -/
def playsPattern (p : PatternNo) (v : Voice) : Bool :=
  match v.playing with
  | none => false
  | some x => x.pattern == p

/-- Some voice is PLAYING the pattern. -/
def patternBusy (s : State) (p : PatternNo) : Bool :=
  playsPattern p s.chimes.voiceD || playsPattern p s.chimes.voiceC || playsPattern p s.chimes.voiceR

/-- CHIME LOAD (R141). -/
def chimeLoad (pattern : Byte) (notes : List NoteBody) (s : State) : Answer :=
  match carriedFin patternCount pattern with
  | none => refuse .badField s
  | some p =>
    if notes.length = 0 ∨ 4 < notes.length then refuse .badField s
    else
      match loadNotes notes with
      | none => refuse .badField s
      | some stored =>
        if patternBusy s p then refuse .busy s
        else
          ⟨doneOrClamped (notes.any noteClamps), pattern :: byte1 notes.length,
            s.modChimes fun c => { c with patterns := c.patterns.set p stored }⟩

/-- A note in a CHIME READ reply (12.2.1 note 3). -/
def noteBytes (n : Note) : List Byte :=
  byteOr255 (n.tone.map (·.val)) ++ byte1 n.duty ++ byte2 n.duration ++ byte1 n.a0 ++ byte1 n.decay

/-- A voice in a CHIME READ reply: items not held read 0 (R137 note 1, R143). -/
def voiceBytes (v : Voice) : List Byte :=
  match v.playing with
  | none => byte1 0 ++ byte1 0 ++ byte1 0 ++ byte1 0 ++ byte2 0 ++ byte1 0 ++ byte1 0
  | some p =>
    byte1 1 ++ [p.entry] ++ byte1 p.pattern.val ++ byte1 p.noteIndex ++ byte2 p.blocksInto ++ byte1 p.samplePhase ++
      byte1 p.env

/-- CHIME READ (R143). -/
def chimeRead (pattern : Byte) (s : State) : Answer :=
  match carriedFin patternCount pattern with
  | none => refuse .badField s
  | some p =>
    ⟨.done,
      byte1 (notesOf s p).length ++ (notesOf s p).flatMap noteBytes ++ voiceBytes s.chimes.voiceD ++
        voiceBytes s.chimes.voiceC ++ voiceBytes s.chimes.voiceR,
      s⟩

end Sys2Proof.Machine
end

