-- ==== Sys2Proof/Machine/Announcements.lean ====
section
/-! DEFINITION. The Announcement Controller: admission, the recorded queue, the phase advances, CUT, removal, the finished
list, the PTT edges and the profiles (chapters 5 and 6). -/

namespace Sys2Proof.Machine

/-! ## Carried fields (R92, R100) -/

/-- The fields of an ANNOUNCE or PTT PROFILE SET after clamping; `none` when one of tests 2 to 4 fails. -/
def carriedParams (x : AnnounceBody) : Option Params :=
  match carriedFin 4 x.cls, carriedMode x.mode, carriedChime x.chime with
  | some c, some m, some k =>
    some
      { cls := c.val, zones := x.zones, attrMask := x.attrMask, mode := m, chime := k
        duck := min 127 x.duck.toNat
        attack := clampTo 1 16 x.attack.toNat
        release := clampTo 1 16 x.release.toNat
        level := min 126 x.level.toNat
        card := min cardMax x.card.toNat
        lead := min 4095 x.lead.toNat
        tail := min 4095 x.tail.toNat
        maxLive := x.maxLive.toNat }
  | _, _, _ => none

/-- At least one carried field is clamped (R92). -/
def paramsClamp (x : AnnounceBody) : Bool :=
  outside 0 127 x.duck.toNat || outside 1 16 x.attack.toNat || outside 1 16 x.release.toNat ||
    outside 0 126 x.level.toNat || outside 0 cardMax x.card.toNat || outside 0 4095 x.lead.toNat ||
    outside 0 4095 x.tail.toNat

/-! ## Handles, admission numbers and the recorded queue (R88, R89, R91) -/

/-- The handle after a handle: 255 is followed by 1 (R88). -/
def nextHandle (h : Byte) : Byte := if h = 0xFF then 1 else h + 1

/-- The first handle from `h` on that belongs to no entry of the table, offering at most `n` that are taken (R88). -/
def freeHandle (es : List Entry) : Nat → Byte → Byte
  | 0, h => h
  | n + 1, h => if es.any (fun e => e.handle = h) then freeHandle es n (nextHandle h) else h

/-- The handle that the next admission is issued (R88). -/
def issuedHandle (s : State) : Byte := freeHandle s.ann.entries s.ann.entries.length s.ann.handleCounter

/-- The admission number that the next admission takes (R89). -/
def issuedAdmission (s : State) : Long := s.ann.admissionCounter + 1

/-- The two counters after an admission (R88 step 4, R89). -/
def countAdmission (s : State) : State :=
  s.modAnn fun a => { a with handleCounter := nextHandle (issuedHandle s), admissionCounter := issuedAdmission s }

/-- A new entry as it stands in LEAD (R85, R86). -/
def newEntry (s : State) (src : Source) (p : Params) (deadline : Nat) : Entry :=
  { handle := issuedHandle s, source := src, params := p, deadline := deadline, admission := issuedAdmission s,
    phase := .lead, timer := p.lead, liveCount := 0, audience := 0, peak := 0, earlyRelease := false, endReason := none,
    starvation := 0, recorded := none, blockPhase := none, due := false }

/-- An entry joins the table. -/
def addEntry (e : Entry) (s : State) : State := s.modAnn fun a => { a with entries := a.entries ++ [e] }

/-- A handle put ahead of the first queued handle that `before` marks. -/
def insertBefore (before : Byte → Bool) (h : Byte) : List Byte → List Byte
  | [] => [h]
  | x :: xs => if before x then h :: x :: xs else x :: insertBefore before h xs

/-- The queue with a new entry in its place: ahead of the first entry that it outranks (R91). -/
def queueWith (s : State) (e : Entry) : List Byte :=
  insertBefore (fun h => match s.entry? h with
    | none => false
    | some f => outranks e f) e.handle s.ann.queue

/-- An entry's queue position: 1 for the head; 0 for an entry that is not QUEUED (R91). -/
def queuePosition (s : State) (h : Byte) : Nat :=
  if h ∈ s.ann.queue then s.ann.queue.idxOf h + 1 else 0

/-- The number of recorded entries in the table (R87, R92). -/
def recordedCount (s : State) : Nat := s.ann.entries.countP fun e => e.source = .r

/-! ## Entering TAIL and leaving the table -/

/-- The voice of a source is PLAYING for the entry of handle `h`. -/
def playsFor (s : State) (v : Source) (h : Byte) : Bool :=
  match (s.voice v).playing with
  | none => false
  | some p => p.entry == h

/-- An entry enters TAIL (R110). What it passes in the block under way stands: its phase for the block and the recorded block
it took (R103, R109). -/
def enterTail (h : Byte) (why : EndReason) (s : State) : State :=
  match s.entry? h with
  | none => s
  | some e =>
    let t := s.modEntry h fun e =>
      { e with phase := .tail, endReason := some why, timer := e.params.tail, earlyRelease := false }
    let t := if playsFor s e.source h then stopVoice e.source t else t
    if e.source = .r then closeRecorded t else t

/-- The finished record of an entry (R118). -/
def finishedRecord (s : State) (e : Entry) (cause : EndReason) : FinishedRecord :=
  { handle := e.handle, source := e.source, cls := e.params.cls, endReason := e.endReason.getD cause, peak := e.peak,
    liveBlocks := e.liveCount, blockCount := s.blockCount }

/-- A finished record joins the list at its front; the oldest of 8 is dropped (R118). -/
def writeFinished (r : FinishedRecord) (s : State) : State :=
  s.modAnn fun a => { a with finished := (r :: a.finished).take finishedDepth }

/-- The recorded buffer's target is the entry's: a recorded entry in LEAD, CHIME or LIVE (R66, R116 step 3). -/
def holdsBuffer (e : Entry) : Bool := e.source == .r && candidatePhase e.phase

/-- A removal, steps 1 to 5 of R116. -/
def removeEntry (h : Byte) (cause : EndReason) (s : State) : State :=
  match s.entry? h with
  | none => s
  | some e =>
    let t := if playsFor s e.source h then stopVoice e.source s else s
    let t := if holdsBuffer e then closeRecorded t else t
    let t := t.modAnn fun a =>
      { a with entries := a.entries.filter fun x => x.handle ≠ h, queue := a.queue.filter fun x => x ≠ h }
    raise .annFinished (writeFinished (finishedRecord s e cause) (clearFloors h e.params.release t))

/-- The recorded source is handed on (R105): the head of the queue becomes active in LEAD, or the source is idle. -/
def handOn (s : State) : State :=
  match s.ann.queue with
  | [] => s
  | h :: rest =>
    raise .recordedGo (openRecorded h
      ((s.modAnn fun a => { a with queue := rest }).modEntry h fun e =>
        { e with phase := .lead, timer := e.params.lead }))

/-- The entry is the active recorded entry. -/
def activeRecorded (e : Entry) : Bool := e.source == .r && e.phase != .queued

/-- A removal that is no preemption: steps 1 to 6 of R116. -/
def removeAndHandOn (h : Byte) (cause : EndReason) (s : State) : State :=
  match s.entry? h with
  | none => s
  | some e => if activeRecorded e then handOn (removeEntry h cause s) else removeEntry h cause s

/-! ## The advances (R103 to R111) -/

/-- LEAD has run out (R106): the entry enters CHIME, which is its phase for the block (R103), and its voice starts; or it
enters LIVE. -/
def endLead (e : Entry) (s : State) : State :=
  match e.params.chime with
  | some p =>
    startVoice e.source e.handle p (s.modEntry e.handle fun x => { x with phase := .chime, blockPhase := some .chime })
  | none => s.modEntry e.handle fun x => { x with phase := .live }

/-- Step 1 of the LIVE advance finds the live count at the maximum live (R108). -/
def atMaximumLive (e : Entry) : Bool := e.params.maxLive != 0 && e.liveCount == e.params.maxLive

/-- The LIVE advance (R108): maximum live, count, recorded take. The entry holds for the block the recorded block that it
takes here, or none. -/
def liveAdvance (e : Entry) (s : State) : State :=
  let s := s.modEntry e.handle fun x => { x with recorded := none }
  if atMaximumLive e then enterTail e.handle .timedOut s
  else
    let s := s.modEntry e.handle fun x => { x with liveCount := countHalf x.liveCount }
    if e.source ≠ .r then s
    else
      match s.media.recorded.blocks with
      | [] =>
        let s := s.modEntry e.handle fun x => { x with starvation := countTo liveStarveLimit x.starvation }
        if liveStarveLimit ≤ e.starvation + 1 then enterTail e.handle .starved s else s
      | b :: _ =>
        let s := (takeRecorded s).modEntry e.handle fun x => { x with starvation := 0, recorded := some b.samples }
        if b.endMarker then enterTail e.handle .completed s else s

/-- An entry's advance at a block start, followed at once by the advance of each phase it passes into there; the phase it then
holds is its phase for the block (R103). A removal at the end of a tail hands the source on, and the new active entry's LEAD
advance follows (R105). `n` bounds how many advances follow one another. -/
def takeAdvance : Nat → Byte → State → State
  | 0, _, s => s
  | n + 1, h, s =>
    match s.entry? h with
    | none => s
    | some e =>
      let s := s.modEntry h fun x => { x with due := false, blockPhase := some e.phase }
      match e.phase with
      | .queued =>
        if e.deadline = 0 then s
        else if e.timer ≤ 1 then removeEntry h .stale s
        else s.modEntry h fun x => { x with timer := x.timer - 1 }
      | .lead =>
        if e.timer = 0 then
          let s := endLead e s
          if e.params.chime.isSome then s else takeAdvance n h s
        else s.modEntry h fun x => { x with timer := x.timer - 1 }
      | .chime => s
      | .live =>
        let s := liveAdvance e s
        match s.entry? h with
        | none => s
        | some x => if x.phase = .tail then takeAdvance n h s else s
      | .tail =>
        if e.timer = 0 then
          let next := s.ann.queue.head?
          let s := removeAndHandOn h .completed s
          if activeRecorded e then
            match next with
            | none => s
            | some k => takeAdvance n k s
          else s
        else s.modEntry h fun x => { x with timer := x.timer - 1 }

/-- The advances that can follow one another at one block start: at most four for each entry of the table. -/
def advanceFuel (s : State) : Nat := 4 * s.ann.entries.length + 4

/-- An entry's advance, if it has not been taken at this block start. -/
def advanceIfDue (s : State) (h : Byte) : State :=
  match s.entry? h with
  | none => s
  | some e => if e.due then takeAdvance (advanceFuel s) h s else s

/-- The chime end reaches an entry (R107): LIVE, or TAIL with end reason SHORT, and the advance of that phase at once. -/
def chimeEndReaches (h : Byte) (s : State) : State :=
  match s.entry? h with
  | none => s
  | some e =>
    if e.phase ≠ .chime then s
    else if e.earlyRelease then takeAdvance (advanceFuel s) h (enterTail h .short s)
    else takeAdvance (advanceFuel s) h (s.modEntry h fun x => { x with phase := .live })

/-- A voice's advance, if it has not been taken at this block start, with its chime end (R139). -/
def takeVoice (s : State) (v : Source) : State :=
  if (s.voice v).due then
    match (s.voice v).playing, pendingMove s v with
    | some p, some .chimeEnd => chimeEndReaches p.entry (s.modVoice v fun _ => idleVoice)
    | some _, some m => s.modVoice v fun _ => movedVoice m
    | _, _ => s.modVoice v fun x => { x with due := false }
  else s

/-! ## ANNOUNCE (R92 to R95) -/

/-- A new entry becomes the active recorded entry and enters LEAD (R94). -/
def becomeActive (e : Entry) (s : State) : State := raise .recordedGo (openRecorded e.handle (addEntry e s))

/-- A class 3 admission preempts the active recorded entry (R95). -/
def preempts (new : Entry) (old : Entry) : Bool := new.params.cls == 3 && decide (old.params.cls < 3)

/-- The placement of a new recorded entry by the state of the recorded source (R94, R95). -/
def placeEntry (e : Entry) (s : State) : State :=
  match s.active? .r with
  | none => becomeActive e s
  | some a =>
    if preempts e a then becomeActive e (removeEntry a.handle .preempted s)
    else
      addEntry { e with phase := .queued, timer := e.deadline }
        (s.modAnn fun k => { k with queue := queueWith s e })

/-- ANNOUNCE (R92 to R95). -/
def announce (x : AnnounceBody) (deadline : Half) (s : State) : Answer :=
  if s.device = .config then refuse .wrongState s
  else
    match carriedParams x with
    | none => refuse .badField s
    | some p =>
      if recordedEntryLimit ≤ recordedCount s then refuse .full s
      else
        let e := newEntry s .r p deadline.toNat
        let t := placeEntry e (countAdmission s)
        ⟨doneOrClamped (paramsClamp x), e.handle :: byte1 (queuePosition t e.handle), t⟩

/-! ## Reading announcements (R101, R119) -/

/-- The targeting and sound fields in a reply, in the order of R99. -/
def paramsBytes (p : Params) : List Byte :=
  byte1 p.cls ++ [p.zones, p.attrMask] ++ byte1 (codeMode p.mode) ++ byteOr255 (p.chime.map (·.val)) ++ byte1 p.duck ++
    byte1 p.attack ++ byte1 p.release ++ byte1 p.level ++ byte1 p.card ++ byte2 p.lead ++ byte2 p.tail ++ byte2 p.maxLive

/-- An entry in an ANNOUNCEMENT READ reply: every field of R85 and R86, and its queue position. -/
def entryBytes (s : State) (e : Entry) : List Byte :=
  [e.handle] ++ byte1 (codeSource e.source) ++ paramsBytes e.params ++ byte2 e.deadline ++ byte4 e.admission.toNat ++
    byte1 (codePhase e.phase) ++ byte2 e.timer ++ byte2 e.liveCount ++ byte1 e.audience ++ byte1 e.peak ++
    byteFlag e.earlyRelease ++ byte1 ((e.endReason.map codeEndReason).getD 0) ++ byte2 e.starvation ++
    byte1 (queuePosition s e.handle)

/-- A finished record in an ANNOUNCEMENT READ reply (R101). -/
def finishedBytes (r : FinishedRecord) : List Byte :=
  [r.handle] ++ byte1 (codeSource r.source) ++ byte1 r.cls ++ byte1 (codeEndReason r.endReason) ++ byte1 r.peak ++
    byte2 r.liveBlocks ++ byte4 r.blockCount.toNat

/-- ANNOUNCEMENT READ by handle: the table first, then the newest finished record (R101). -/
def readHandle (h : Byte) (s : State) : Answer :=
  match s.entry? h with
  | some e => ⟨.done, byte1 0 ++ entryBytes s e, s⟩
  | none =>
    match s.ann.finished.find? fun r => r.handle = h with
    | some r => ⟨.done, byte1 1 ++ finishedBytes r, s⟩
    | none => refuse .notFound s

/-- ANNOUNCEMENT READ by source: the table alone (R101). -/
def readSource (v : Source) (s : State) : Answer :=
  match s.active? v with
  | some e => ⟨.done, byte1 0 ++ entryBytes s e, s⟩
  | none => refuse .notFound s

/-- ANNOUNCEMENT READ (R101). -/
def announcementRead (selector code : Byte) (s : State) : Answer :=
  if selector = 0 then if code = 0 then refuse .badField s else readHandle code s
  else if selector = 1 then
    match carriedSource code with
    | none => refuse .badField s
    | some v => readSource v s
  else refuse .badField s

/-- A finished record in a FINISHED READ reply: 9 bytes (R180). -/
def packedRecord (r : FinishedRecord) : List Byte :=
  [r.handle] ++ byte1 (codeSource r.source * 64 + r.cls * 16 + codeEndReason r.endReason) ++ byte1 r.peak ++
    byte2 r.liveBlocks ++ byte4 r.blockCount.toNat

/-- FINISHED READ (R119). -/
def finishedRead (start : Byte) (s : State) : Answer :=
  if 7 < start.toNat then refuse .badField s
  else
    ⟨.done,
      byte1 s.ann.finished.length ++ [start] ++
        ((s.ann.finished.drop start.toNat).take finishedPerReply).flatMap packedRecord,
      s⟩

/-! ## CUT (R115) -/

/-- What a CUT does to the entry it names (R115). -/
def cutEntry (e : Entry) (hard : Bool) (s : State) : State :=
  match e.phase, hard with
  | .queued, _ => removeEntry e.handle .cut s
  | .tail, false => s
  | _, false => enterTail e.handle .cut s
  | _, true => removeAndHandOn e.handle .cut s

/-- CUT (R115): mode 00h SOFT, 01h HARD. -/
def cut (handle mode : Byte) (s : State) : Answer :=
  if s.device = .config then refuse .wrongState s
  else if handle = 0 ∨ 1 < mode.toNat then refuse .badField s
  else
    match s.entry? handle with
    | none => refuse .notFound s
    | some e => ⟨.done, handle :: byte1 (codePhase e.phase), cutEntry e (mode = 1) s⟩

/-! ## Push-to-talk (R97, R98, R112, R113) -/

/-- The source of a microphone. -/
def micSource : Mic → Source
  | .d => .d
  | .c => .c

/-- The PTT profile of a microphone (R99). -/
def profileOf (s : State) : Mic → Params
  | .d => s.ann.driver
  | .c => s.ann.crew

/-- The fields a press admits an entry with: the profile's, the driver's class being 3 while the alarm latch is set (R98). -/
def pressParams (s : State) (m : Mic) : Params :=
  if m = .d ∧ s.coach.latch = true then { profileOf s m with cls := 3 } else profileOf s m

/-- A press with no entry of its source in the table admits one in LEAD (R97). -/
def admitMic (m : Mic) (s : State) : State :=
  addEntry (newEntry s (micSource m) (pressParams s m) 0) (countAdmission s)

/-- A press on the source's entry (R113). -/
def repress (e : Entry) (s : State) : State :=
  match e.phase with
  | .tail => s.modEntry e.handle fun x => { x with phase := .live, timer := 0, endReason := none }
  | .chime => s.modEntry e.handle fun x => { x with earlyRelease := false }
  | _ => s

/-- A press of PTT_D or PTT_C at the Announcement Controller (R97, R113). -/
def pressMic (m : Mic) (s : State) : State :=
  if s.device = .config then s
  else
    match s.active? (micSource m) with
    | none => admitMic m s
    | some e => repress e s

/-- A release of PTT_D or PTT_C at the Announcement Controller (R112). -/
def releaseMic (m : Mic) (s : State) : State :=
  if s.device = .config then s
  else
    match s.active? (micSource m) with
    | none => s
    | some e =>
      match e.phase with
      | .lead => enterTail e.handle .short s
      | .chime => s.modEntry e.handle fun x => { x with earlyRelease := true }
      | .live => enterTail e.handle .completed s
      | _ => s

/-- A carried profile code: 00h driver, 01h crew (12.2.1 note 2). -/
def carriedProfile (b : Byte) : Option Mic :=
  match b.toNat with
  | 0 => some .d
  | 1 => some .c
  | _ => none

/-- Replace a PTT profile. -/
def setProfile (m : Mic) (p : Params) (s : State) : State :=
  s.modAnn fun a =>
    match m with
    | .d => { a with driver := p }
    | .c => { a with crew := p }

/-- PTT PROFILE SET (R100): the reply carries the profile as stored. -/
def pttProfileSet (profile : Byte) (x : AnnounceBody) (s : State) : Answer :=
  match carriedProfile profile, carriedParams x with
  | some m, some p => ⟨doneOrClamped (paramsClamp x), paramsBytes p, setProfile m p s⟩
  | _, _ => refuse .badField s

end Sys2Proof.Machine
end

