-- ==== Sys2Proof/Machine/MixEngine.lean ====
section
/-! DEFINITION. The Mix Engine: a berth's block start, and MIX READ (chapter 9). -/

namespace Sys2Proof.Machine

/-- The programme block of a berth (R60, R146): the played block of its track, or silence with Programme NONE. -/
def programmeBlock (s : State) (b : BerthNo) : Block :=
  match (s.live b).programme with
  | none => .silence
  | some p => (s.track p (s.live b).track).played

/-- The programme trim T of a berth (R146): 0 with Programme NONE. -/
def berthTrim (s : State) (b : BerthNo) : Nat :=
  match (s.live b).programme with
  | none => 0
  | some p => trimOf (s.programme p) (s.live b).track

/-- The announcement sound that a floor entry passes in the block, by its phase for the block (R103, R109, R146). -/
def announcementBlock (micD micC : Block) (e : Entry) : Block :=
  match phaseRead e, e.source with
  | .live, .d => micD
  | .live, .c => micC
  | .live, .r => e.recorded.getD .silence
  | .tail, .d => micD
  | .tail, .c => micC
  | .tail, .r => e.recorded.getD .silence
  | _, _ => .silence

/-- The chime block and env that a floor entry passes in the block (R109, R146): in CHIME alone; else zeros and 127. -/
def chimePassed (s : State) (e : Entry) : Block × Nat :=
  match phaseRead e, (s.voice e.source).output with
  | .chime, some x => x
  | _, _ => (.silence, mute)

/-- What a berth's block is mixed from (R146 to R150). -/
structure MixInputs where
  programme : Block
  announcement : Block
  chime : Block
  ap : Nat
  aa : Nat
  ac : Nat
  deriving DecidableEq, Repr

/-- The inputs of a berth for the block, after its floor evaluation and its ramp. -/
def mixInputs (micD micC : Block) (s : State) (b : BerthNo) : MixInputs :=
  let ve := effectiveVolume s b
  let m := s.mixOf b
  let ap := programmeAttenuation s.coach.latch (s.live b).programme.isSome ve (berthTrim s b) m.duck
  match s.floorEntry? b with
  | none => ⟨programmeBlock s b, .silence, .silence, ap, mute, mute⟩
  | some e =>
    let c := chimePassed s e
    ⟨programmeBlock s b, announcementBlock micD micC e, c.1, ap,
      announcementAttenuation e.params.cls e.params.level ve m.gate,
      chimeAttenuation e.params.cls e.params.level ve m.gate c.2⟩

/-- The ramp of a berth's duck and gate (R147). -/
def rampMix (m : MixState) : MixState :=
  { m with duck := rampTo m.duckTarget m.duckStep m.duck, gate := rampTo m.gateTarget m.gateStep m.gate }

/-- The block mixed: last attenuations, clip flag and count, and the samples delivered (R145 steps 4 and 5, R152). -/
def writeMix (x : MixInputs) (m : MixState) : MixState :=
  let clipped := clips x.programme x.announcement x.chime x.ap x.aa x.ac
  { m with
    lastAp := x.ap
    lastAa := x.aa
    lastAc := x.ac
    clipFlag := clipped
    clipCount := if clipped then countHalf m.clipCount else m.clipCount
    delivered := some (outputBlock x.programme x.announcement x.chime x.ap x.aa x.ac) }

/-- The block start of a PRESENT berth (R145): floor, ramp, attenuations, samples, delivery. -/
def mixBerth (micD micC : Block) (s : State) (b : BerthNo) : State :=
  if s.presence b = .present then
    let s := (evaluateFloor b s).modMix b rampMix
    let x := mixInputs micD micC s b
    let t := s.modMix b (writeMix x)
    if clips x.programme x.announcement x.chime x.ap x.aa x.ac then raise .clip t else t
  else s

/-- The body of a MIX READ reply (R154). -/
def mixBody (s : State) (b : BerthNo) : List Byte :=
  let m := s.mixOf b
  byteHandle m.floor ++ byteOr255 (floorClass s b) ++ byte1 m.duck ++ byte1 m.gate ++ byte1 m.duckTarget ++
    byte1 m.gateTarget ++ byte1 m.duckStep ++ byte1 m.gateStep ++ byte1 (effectiveVolume s b) ++ byte1 m.lastAp ++
    byte1 m.lastAa ++ byte1 m.lastAc ++ byteFlag m.clipFlag ++ byte2 m.clipCount

/-- MIX READ (R154). -/
def mixRead (berth clear : Byte) (s : State) : Answer :=
  match carriedFin berthCount berth with
  | none => refuse .badField s
  | some b =>
    ⟨.done, mixBody s b, if carriedFlag clear then s.modMix b fun m => { m with clipCount := 0 } else s⟩

end Sys2Proof.Machine
end

