-- ==== Sys2Proof/Machine/CoachInputs.lean ====
section
/-! DEFINITION. The Coach Input Unit: contact filters and edges, alarm latch, coach settings and call requests
(chapter 10). -/

namespace Sys2Proof.Machine

/-! ## Edges and filters (R155 to R157) -/

/-- The alarm latch is set; ALARM is raised when it goes from clear to set (R157). -/
def setLatch (s : State) : State :=
  if s.coach.latch then s else raise .alarm (s.modCoach fun k => { k with latch := true })

/-- A press of ALARM_IN at the alarm latch (R157): in CONFIG it leaves the latch as it is. -/
def alarmPress (s : State) : State := if s.device = .run then setLatch s else s

/-- An edge handed on (R156): a press when `active`, a release otherwise. -/
def handOnEdge (c : Contact) (active : Bool) (s : State) : State :=
  match c, active with
  | .pttD, true => pressMic .d s
  | .pttC, true => pressMic .c s
  | .alarmIn, true => alarmPress s
  | .pttD, false => releaseMic .d s
  | .pttC, false => releaseMic .c s
  | .alarmIn, false => s

/-- The sample that changes the filtered state gives an edge (R155, R156). -/
def takeEdge (c : Contact) (active : Bool) (s : State) : State :=
  handOnEdge c active (s.setFilter c ⟨active, 0⟩)

/-- An edge can come only to the other filtered state: edges alternate (R156). -/
def edgeIfOther (c : Contact) (active : Bool) (s : State) : State :=
  if (s.filter c).active = active then s else takeEdge c active s

/-- One sample of one filter (R155). -/
def takeSample (c : Contact) (active : Bool) (s : State) : State :=
  let f := s.filter c
  if f.active = active then s.setFilter c { f with run := 0 }
  else if f.run < filterRun then s.setFilter c { f with run := f.run + 1 }
  else takeEdge c active s

/-- The contact of a microphone's push-to-talk. -/
def micContact : Mic → Contact
  | .d => .pttD
  | .c => .pttC

/-! ## Requests (R158 to R161) -/

/-- ALARM RELEASE (R158): every reply carries the latch as it stands after the request (log entry 8). -/
def alarmRelease (s : State) : Answer :=
  if s.device = .config ∨ s.coach.alarmIn.active = true then ⟨.wrongState, byteFlag s.coach.latch, s⟩
  else if s.coach.latch then
    ⟨.done, byteFlag false, forEach allBerths alarmReleaseAt (s.modCoach fun k => { k with latch := false })⟩
  else ⟨.done, byteFlag false, s⟩

/-- The four coach settings in a reply (R160, R161). -/
def settingsBytes (k : Coach) : List Byte := byte1 k.quiet ++ byte1 k.limit ++ byte1 k.alarmCard ++ byte1 k.busyCard

/-- The coach settings after an accepted COACH SET (R160). -/
def storeSettings (x : CoachBody) (k : Coach) : Coach :=
  { k with quiet := storing 3 x.quiet k.quiet, limit := storing volumeMax x.limit k.limit,
           alarmCard := storing cardMax x.alarmCard k.alarmCard, busyCard := storing cardMax x.busyCard k.busyCard }

/-- COACH SET (R160). -/
def coachSet (x : CoachBody) (s : State) : Answer :=
  if x.undefinedBit || above cardMax x.alarmCard || above cardMax x.busyCard then refuse .badField s
  else
    ⟨doneOrClamped (above 3 x.quiet || above volumeMax x.limit), settingsBytes (storeSettings x s.coach),
      s.modCoach (storeSettings x)⟩

/-- COACH READ (R161); a filtered state is sent as set for ACTIVE (log entry 8). -/
def coachRead (s : State) : Answer :=
  ⟨.done,
    settingsBytes s.coach ++ byteFlag s.coach.pttD.active ++ byteFlag s.coach.pttC.active ++
      byteFlag s.coach.alarmIn.active ++ byteFlag s.coach.latch ++ byte4 s.blockCount.toNat ++
      byte1 s.coach.calls.length,
    s⟩

/-! ## Calls (R163, R164) -/

/-- The wait of a call: the block count less the capture stamp, modulo 2^32 (R163). -/
def callWait (s : State) (c : CallEntry) : Long := s.blockCount - c.stamp

/-- CALL TAKE (R163). The reply lays out berth, stamp, kind, wait and the number left, and last the empty indication, in the
order of R163 (R178); that it is sent clear after an entry is the model's reading (log entry 8). -/
def callTake (s : State) : Answer :=
  match s.coach.calls with
  | [] => ⟨.done, byteFlag true, s⟩
  | c :: rest =>
    ⟨.done,
      byte1 c.berth.val ++ byte4 c.stamp.toNat ++ byte1 (codeCallKind c.kind) ++ byte4 (callWait s c).toNat ++
        byte1 rest.length ++ byteFlag false,
      s.modCoach fun k => { k with calls := rest }⟩

/-- CALL CLEAR (R164). -/
def callClear (berth : Byte) (s : State) : Answer :=
  match carriedFin berthCount berth with
  | none => refuse .badField s
  | some b =>
    match s.coach.calls.find? fun c => c.berth = b with
    | none => refuse .notFound s
    | some c => ⟨.done, byte4 c.stamp.toNat ++ byte4 (callWait s c).toNat, dropCall b s⟩

end Sys2Proof.Machine
end

