-- ==== Sys2Proof/Machine/ControlLink.lean ====
section
/-! DEFINITION. The Control Link and the Event Unit: their own requests, record receipt, the taking of records with the
link's three tests, and replies (chapters 11 and 12). -/

namespace Sys2Proof.Machine

/-! ## Requests of the Control Link and the Event Unit -/

/-- A line with fitted count 1 or more enters RUNNING (R29). -/
def startLine (x : Line) : Line := if 1 ≤ x.fitted then { x with state := .running } else x

/-- START (R170). -/
def startRequest (s : State) : Answer :=
  if s.device = .run then refuse .wrongState s
  else
    let t := (s.setDevice .run).setLines (s.lines.map startLine)
    ⟨.done, [], if s.coach.alarmIn.active then setLatch t else t⟩

/-- RESTART (R171): DONE; the device reset comes when the reply has been sent. -/
def restartRequest (s : State) : Answer := ⟨.done, [], s⟩

/-- STATUS READ (R172). -/
def statusRead (s : State) : Answer :=
  ⟨.done,
    byte1 (codeDevice s.device) ++ byte4 s.blockCount.toNat ++ byte2 s.link.badLength ++ byte2 s.link.stopBit ++
      byte2 s.link.timeout ++ byte2 s.link.overrun ++ byte2 s.link.check,
    s⟩

/-- The 13 flags and the 13 enables in a reply (R174, R175), each set as one two-byte value in the form that 12.2.1 note 4
gives for what a request carries (the model's choice for replies, log entry 8). -/
def eventsBody (v : Events) : List Byte := byteEvents v.flags ++ byteEvents v.enables

/-- EVENTS READ (R175). -/
def eventsRead (s : State) : Answer := ⟨.done, eventsBody s.events, s⟩

/-- A carried value names a position beyond the 13 (R174, R175). -/
def beyondEvents (v : Half) : Bool := decide (8192 ≤ v.toNat)

/-- EVENTS CLEAR (R174). -/
def eventsClear (positions : Half) (s : State) : Answer :=
  if beyondEvents positions then refuse .badField s
  else
    let v : Events := { s.events with flags := s.events.flags &&& ~~~ positions.setWidth 13 }
    ⟨.done, eventsBody v, s.modEvents fun _ => v⟩

/-- EVENTS ENABLE (R175). -/
def eventsEnable (values : Half) (s : State) : Answer :=
  if beyondEvents values then refuse .badField s
  else
    let v : Events := { s.events with enables := values.setWidth 13 }
    ⟨.done, eventsBody v, s.modEvents fun _ => v⟩

/-! ## Bodies (R178) -/

/-- The bytes of the optional fields numbered `i` to `i + n - 1`, given their presence mask: each field that is present
takes the next byte. `none` when the bytes are not exactly the present fields (the length test of R178). -/
def readFields (mask : Half) : Nat → Nat → List Byte → Option (List (Option Byte))
  | 0, _, [] => some []
  | 0, _, _ :: _ => none
  | n + 1, i, bs =>
    if mask.getLsbD i then
      match bs with
      | [] => none
      | b :: rest => (readFields mask n (i + 1) rest).map (some b :: ·)
    else (readFields mask n (i + 1) bs).map (none :: ·)

/-- The mask sets a bit for a field number that the kind does not define (R178). -/
def undefinedField (mask : Half) (n : Nat) : Bool := decide (2 ^ n ≤ mask.toNat)

/-- The fields of BERTH STAGE after its berth byte. -/
def readStage (hi lo : Byte) (bs : List Byte) : Option StageBody :=
  match readFields (halfOf hi lo) 12 0 bs with
  | some [p, t, pic, v, z, l, d, k, t0, t1, t2, t3] =>
    some ⟨p, t, pic, v, z, l, d, k, t0, t1, t2, t3, undefinedField (halfOf hi lo) 12⟩
  | _ => none

/-- The fields of PROGRAMME TRIM after its programme byte. -/
def readTrim (hi lo : Byte) (bs : List Byte) : Option TrimBody :=
  match readFields (halfOf hi lo) 3 0 bs with
  | some [t0, t1, c] => some ⟨t0, t1, c, undefinedField (halfOf hi lo) 3⟩
  | _ => none

/-- The fields of COACH SET. -/
def readCoach (hi lo : Byte) (bs : List Byte) : Option CoachBody :=
  match readFields (halfOf hi lo) 4 0 bs with
  | some [q, l, a, b] => some ⟨q, l, a, b, undefinedField (halfOf hi lo) 4⟩
  | _ => none

/-- The fields that ANNOUNCE and PTT PROFILE SET share, 16 bytes, and the bytes after them. -/
def readAnnounce : List Byte → Option (AnnounceBody × List Byte)
  | c :: z :: am :: md :: ch :: du :: at' :: re :: lv :: cd :: l1 :: l0 :: t1 :: t0 :: m1 :: m0 :: rest =>
    some (⟨c, z, am, md, ch, du, at', re, lv, cd, halfOf l1 l0, halfOf t1 t0, halfOf m1 m0⟩, rest)
  | _ => none

/-- The notes of CHIME LOAD, 6 bytes each; `none` when the bytes are not a whole number of notes. -/
def readNotes : List Byte → Option (List NoteBody)
  | [] => some []
  | t :: d :: u1 :: u0 :: a :: k :: rest => (readNotes rest).map (⟨t, d, halfOf u1 u0, a, k⟩ :: ·)
  | _ => none

/-- The owner's work for a kind and a body that fits it; `none` when the body length does not fit the kind (R178). Where
12.2.1 gives a kind's length alone (BERTH EDIT, LINE SETUP, PROGRAMME SETUP, CUT, MIX READ), the bytes are read in the order in
which the owner's rule names the fields (the model's choice, log entry 19). -/
def ownerOf (kind : Nat) (body : List Byte) : Option (State → Answer) :=
  match kind, body with
  | 0x01, [b] => some (berthRead b)
  | 0x02, b :: hi :: lo :: bs => (readStage hi lo bs).map (berthStage b)
  | 0x03, [] => some stageDiscard
  | 0x04, [] => some commitRequest
  | 0x05, [z, am, md, op, d, x] => some (berthEdit z am md op d x)
  | 0x06, [l, c] => some (lineSetup l c)
  | 0x07, [l] => some (lineRead l)
  | 0x08, [l] => some (lineRestart l)
  | 0x09, [l] => some (lineStop l)
  | 0x0A, [b] => some (berthLinkRead b)
  | 0x0B, [b] => some (berthLinkClear b)
  | 0x0C, [p, pic, n, t0, t1, c] => some (programmeSetup p pic n t0 t1 c)
  | 0x0D, p :: hi :: lo :: bs => (readTrim hi lo bs).map (programmeTrim p)
  | 0x0E, [x] => some (programmeRead x)
  | 0x0F, [l] => some (laneRead l)
  | 0x10, bs =>
    match readAnnounce bs with
    | some (x, [hi, lo]) => some (announce x (halfOf hi lo))
    | _ => none
  | 0x11, [x, c] => some (announcementRead x c)
  | 0x12, m :: bs =>
    match readAnnounce bs with
    | some (x, []) => some (pttProfileSet m x)
    | _ => none
  | 0x13, [h, m] => some (cut h m)
  | 0x14, [i] => some (finishedRead i)
  | 0x15, p :: n :: bs =>
    match readNotes bs with
    | some ns => if ns.length = n.toNat then some (chimeLoad p ns) else none
    | none => none
  | 0x16, [p] => some (chimeRead p)
  | 0x17, [b, c] => some (mixRead b c)
  | 0x18, hi :: lo :: bs => (readCoach hi lo bs).map coachSet
  | 0x19, [] => some coachRead
  | 0x1A, [] => some alarmRelease
  | 0x1B, [] => some callTake
  | 0x1C, [b] => some (callClear b)
  | 0x1D, [] => some startRequest
  | 0x1E, [] => some restartRequest
  | 0x1F, [] => some statusRead
  | 0x20, [] => some eventsRead
  | 0x20, [hi, lo] => some (eventsClear (halfOf hi lo))
  | 0x21, [hi, lo] => some (eventsEnable (halfOf hi lo))
  | _, _ => none

/-! ## Replies (R168, R177) -/

/-- The kind of RESTART (12.2.1). -/
def restartKind : Byte := 0x1E

/-- A reply starts on CTL_TX (R168); the end of RESTART's DONE brings the device reset (R171). -/
def startReply (kind : Byte) (a : Answer) : State :=
  a.state.modLink fun k =>
    { k with tx := .sending ⟨kind, statusCode a.status, a.body⟩ (kind == restartKind && a.status == .done) }

/-- The check byte of a frame: it brings the 8-bit sum of length, counted bytes and check to 0 (R177). -/
def checkByte (counted : List Byte) : Byte := -(byteSum (BitVec.ofNat 8 counted.length :: counted))

/-- The bytes of a control-link record with given counted bytes (R177). -/
def recordBytes (counted : List Byte) : List Byte :=
  startByte :: BitVec.ofNat 8 counted.length :: counted ++ [checkByte counted]

/-- The counted bytes of a reply (R177). -/
def replyCounted (r : Reply) : List Byte := r.kind :: r.status :: r.body

/-- The bytes of a reply on CTL_TX (R177). -/
def replyBytes (r : Reply) : List Byte := recordBytes (replyCounted r)

/-! ## Taking records (R168, R169) -/

/-- What the Control Link's three tests make of a taken record (R169): its own refusal with the kind it answers, or the
kind and the owner's work. -/
inductive Taken where
  | refused (kind : Byte) (st : Status)
  | passed (kind : Byte) (work : State → Answer)

/-- The three tests, in order: check, kind (01h to 21h, R178), length (R169). -/
def takenAs (r : Record) : Taken :=
  if !r.checkGood then .refused 0 .check
  else
    match r.counted with
    | [] => .refused 0 .length
    | kind :: body =>
      if kind.toNat = 0 ∨ 0x21 < kind.toNat then .refused kind .unknownKind
      else
        match ownerOf kind.toNat body with
        | none => .refused kind .length
        | some work => .passed kind work

/-- A link refusal carried out (R169): the check counter rises on a bad check, and the reply starts. -/
def linkRefusal (kind : Byte) (st : Status) (s : State) : State :=
  startReply kind
    ⟨st, [], if st = .check then s.modLink fun k => { k with check := countHalf k.check } else s⟩

/-- A taken record is carried out, and its reply starts (R168, R169). -/
def takeRecord (r : Record) (s : State) : State :=
  match takenAs r with
  | .refused kind st => linkRefusal kind st s
  | .passed kind work => startReply kind (work s)

/-- While the transmitter is FREE and the buffer holds a record, the oldest is taken (R168). -/
def takeOldest (s : State) : State :=
  match s.link.tx, s.link.buffer with
  | .free, r :: rest => takeRecord r (s.modLink fun k => { k with buffer := rest })
  | _, _ => s

/-- The reply's check byte has been sent (R168): the transmitter is FREE and the next record is taken; after RESTART's reply
the device reset takes effect and completes (R171). -/
def sendEnds (s : State) : State :=
  match s.link.tx with
  | .free => s
  | .sending _ true => deviceReset s
  | .sending _ false => takeOldest (s.modLink fun k => { k with tx := .free })

/-- The replies under way and due before the next record are sent, one after the other. -/
def settleFor : Nat → State → State
  | 0, s => s
  | n + 1, s =>
    match s.link.tx with
    | .free => s
    | _ => settleFor n (sendEnds s)

/-- The Control Link ready to take a further record: every reply before it has been sent, and every record ahead of it taken
(R168; log entry 2). -/
def settle (s : State) : State := settleFor (s.link.buffer.length + 1) s

/-- A host request is taken and carried out by its owner, and its reply starts (R168). -/
def takeRequest (kind : Byte) (work : State → Answer) (s : State) : State :=
  whenUp s fun s => startReply kind (work (settle s))

/-- A record that the Control Link itself refuses (R169); a record that passes its tests is no link refusal, and nothing
happens. -/
def takeRefused (r : Record) (s : State) : State :=
  match takenAs r with
  | .refused kind st => linkRefusal kind st (settle s)
  | .passed _ _ => s

/-! ## Receipt (R165 to R167) -/

/-- A frame in receipt is discarded (R166): HUNT, the cause's counter, LINK_ERROR. -/
def discardFrame (count : ControlLink → ControlLink) (s : State) : State :=
  raise .linkError (s.modLink fun k => { count k with receive := .hunt })

/-- The bad-length counter rises. -/
def countBadLength (k : ControlLink) : ControlLink := { k with badLength := countHalf k.badLength }
/-- The stop-bit counter rises. -/
def countStopBit (k : ControlLink) : ControlLink := { k with stopBit := countHalf k.stopBit }
/-- The timeout counter rises. -/
def countTimeout (k : ControlLink) : ControlLink := { k with timeout := countHalf k.timeout }

/-- The check of a frame: the 8-bit sum of length, counted bytes and check byte is 0 (R177). -/
def checkIsGood (length : Nat) (counted : List Byte) (check : Byte) : Bool :=
  byteSum (BitVec.ofNat 8 length :: counted ++ [check]) == 0

/-- The reply being sent is RESTART's: its end brings the device reset (R171). -/
def sendsRestart : Transmitter → Bool
  | .sending _ true => true
  | _ => false

/-- A complete record enters the request buffer, or is discarded as an overrun (R167); it is taken as soon as it completes
when the transmitter is FREE (R168). A record that completes while RESTART's reply is being sent is discarded without count
(R171): here where the buffer has no room for it, and with the buffer at the reset otherwise (log entry 21). -/
def completeFrame (r : Record) (s : State) : State :=
  if s.link.buffer.length < requestDepth then takeOldest (s.modLink fun k => { k with buffer := k.buffer ++ [r] })
  else if sendsRestart s.link.tx then s
  else raise .linkError (s.modLink fun k => { k with overrun := countHalf k.overrun })

/-- A byte received on CTL_RX (R165). -/
def receiveByte (s : State) (x : RxByte) : State :=
  match s.link.receive with
  | .hunt =>
    if x.stopGood && x.data == startByte then s.modLink fun k => { k with age := 0, receive := .length } else s
  | .length =>
    if !x.stopGood then discardFrame countStopBit s
    else if x.data.toNat = 0 ∨ 65 < x.data.toNat then discardFrame countBadLength s
    else s.modLink fun k => { k with receive := .counted x.data.toNat [] }
  | .counted n kept =>
    if !x.stopGood then discardFrame countStopBit s
    else if n ≤ kept.length + 1 then s.modLink fun k => { k with receive := .check n (kept ++ [x.data]) }
    else s.modLink fun k => { k with receive := .counted n (kept ++ [x.data]) }
  | .check n kept =>
    if !x.stopGood then discardFrame countStopBit s
    else completeFrame ⟨kept, checkIsGood n kept x.data⟩ (s.modLink fun k => { k with receive := .hunt })

/-- The frame age at a block start (R166): it rises while a frame is in receipt, and at 20 the frame is discarded. -/
def ageStep (s : State) : State :=
  match s.link.receive with
  | .hunt => s
  | _ =>
    let t := s.modLink fun k => { k with age := k.age + 1 }
    if frameAgeLimit ≤ s.link.age + 1 then discardFrame countTimeout t else t

end Sys2Proof.Machine
end

