-- ==== Sys2Proof/Machine/BlockClock.lean ====
section
/-! DEFINITION. The block boundary: what the end of one block and the start of the next do, taken item by item or all
at once (R103, R125, R145; log entries 3 and 4). -/

namespace Sys2Proof.Machine

/-! ## The boundary opens -/

/-- Every reply slot still open completes at the end of its block, having received nothing (R35, R36; log entry 5). -/
def completeOpenSlots (s : State) : State :=
  forEach (List.finRange lineCount) (fun t l => completeSlot l .silent t) s

/-- A track whose play is due. -/
def dueTrack (t : Track) : Track := { t with due := true }

/-- A programme whose tracks' plays are due. -/
def dueProgramme (p : Programme) : Programme := { p with tracks := p.tracks.map dueTrack }

/-- An entry whose advance is due; it holds no recorded block of the new block yet (R108). -/
def dueEntry (e : Entry) : Entry := { e with due := true, recorded := none }

/-- A voice whose advance is due; it has handed nothing for the new block yet (R137). -/
def dueVoice (v : Voice) : Voice := { v with due := true, output := none }

/-- A line at a boundary: a RUNNING line's frame is due (R31). -/
def dueLine (x : Line) : Line := { x with frame := none, frameDue := x.state == .running }

/-- A commit falls due at the boundary of block `c`: pending, and `c` a multiple of 12 (R15). -/
def commitFallsDue (s : State) (c : Long) : Bool := s.commitPending && decide (c.toNat % pollCycle = 0)

/-- The next block begins: the block count rises, wrapping to 0 (Introduction 1.5.1.2), and the block start of every item
becomes due. -/
def beginBlock (s : State) : State :=
  { s with
    blockCount := s.blockCount + 1
    boundary := ⟨true, commitFallsDue s (s.blockCount + 1), true⟩
    media := { s.media with programmes := s.media.programmes.map dueProgramme }
    ann := { s.ann with entries := s.ann.entries.map dueEntry }
    chimes := { s.chimes with voiceD := dueVoice s.chimes.voiceD, voiceC := dueVoice s.chimes.voiceC,
                              voiceR := dueVoice s.chimes.voiceR }
    mix := s.mix.map fun m => { m with delivered := none }
    lines := s.lines.map dueLine }

/-- The boundary open: as it stands if a command of this block start has opened it, else the next block begun. -/
def openBoundary (s : State) : State := if s.boundary.opened then s else beginBlock (completeOpenSlots s)

/-! ## The work of a block start, in the order the model takes what is left of it -/

/-- The commit that has fallen due (R16). -/
def takeCommit (s : State) : State := if s.boundary.commitDue then carryOutCommit s else s

/-- The frame age of the Control Link (R166). -/
def takeAge (s : State) : State :=
  if s.boundary.ageDue then ageStep (s.modBoundary fun v => { v with ageDue := false }) else s

/-- All tracks, by programme and track number. -/
def allTracks : List (ProgrammeNo × TrackNo) :=
  (List.finRange programmeCount).flatMap fun p => (List.finRange 2).map fun t => (p, t)

/-- A track's play, if it has not been taken at this block start (R58, R59). -/
def takeTrackIfDue (s : State) (x : ProgrammeNo × TrackNo) : State :=
  if (s.track x.1 x.2).due then takeTrack x.1 x.2 s else s

/-- Every track plays (R58). -/
def takeTracks (s : State) : State := forEach allTracks takeTrackIfDue s

/-- Every voice advances (R139). -/
def takeVoices (s : State) : State := forEach [.d, .c, .r] takeVoice s

/-- Every entry advances (R103), in the table's order. -/
def takeEntries (s : State) : State := forEach (s.ann.entries.map fun e => e.handle) advanceIfDue s

/-- The berths in the order their block starts are taken: those named first, then the others in number order (R132, R145). -/
def berthOrder (first : List BerthNo) : List BerthNo :=
  first.eraseDups ++ allBerths.filter fun b => !first.contains b

/-- Every PRESENT berth is mixed (R145). -/
def takeBerths (micD micC : Block) (first : List BerthNo) (s : State) : State :=
  forEach (berthOrder first) (mixBerth micD micC) s

/-- Every RUNNING line sends its outbound frame (R31). -/
def takeFrames (s : State) : State := forEach (List.finRange lineCount) sendFrame s

/-- The boundary is over. -/
def closeBoundary (s : State) : State := s.modBoundary fun _ => ⟨false, false, false⟩

/-- All the work of an open boundary that has not been taken. -/
def takeBoundary (micD micC : Block) (first : List BerthNo) (s : State) : State :=
  closeBoundary (takeFrames (takeBerths micD micC first (takeEntries (takeVoices (takeTracks (takeAge (takeCommit s)))))))

/-- A step of one item at a block start: with the boundary open, it is taken if its cause has come; otherwise nothing
happens, and the boundary stays as it was (log entry 3). -/
def atBoundary (cause : State → Bool) (work : State → State) (s : State) : State :=
  whenUp s fun s => if cause (openBoundary s) then work (openBoundary s) else s

/-! ## The causes of the steps of one item -/

/-- The incomplete frame's age is about to reach 20 (R166). -/
def timeoutCause (s : State) : Bool :=
  s.boundary.ageDue && s.link.receive != .hunt && decide (frameAgeLimit ≤ s.link.age + 1)

/-- The track's miss of this block start brings its miss run to 250 (R59). -/
def starvedCause (p : ProgrammeNo) (t : TrackNo) (s : State) : Bool :=
  (s.track p t).due && starvesNow (s.track p t)

/-- An entry of the table whose advance is due, and of which `f` holds. -/
def entryCause (h : Byte) (f : Entry → Bool) (s : State) : Bool :=
  match s.entry? h with
  | none => false
  | some e => e.due && f e

/-- A QUEUED entry whose deadline timer is about to reach 0 (R104). -/
def expiryCause (e : Entry) : Bool := e.phase == .queued && e.deadline != 0 && decide (e.timer ≤ 1)

/-- A LEAD timer found at 0 (R106). -/
def leadEndCause (e : Entry) : Bool := e.phase == .lead && e.timer == 0

/-- A TAIL timer found at 0 (R111). -/
def tailEndCause (e : Entry) : Bool := e.phase == .tail && e.timer == 0

/-- A live count found at the maximum live (R108). -/
def maximumCause (e : Entry) : Bool := e.phase == .live && atMaximumLive e

/-- A recorded entry whose starvation run is about to reach 500: the recorded buffer is empty (R108). -/
def starvationCause (s : State) (e : Entry) : Bool :=
  e.phase == .live && e.source == .r && !atMaximumLive e && s.media.recorded.blocks.isEmpty &&
    decide (liveStarveLimit ≤ e.starvation + 1)

/-- A voice whose advance is due, and whose move `f` marks. -/
def voiceCause (v : Source) (f : VoiceMove → Bool) (s : State) : Bool :=
  (s.voice v).due &&
    match pendingMove s v with
    | none => false
    | some m => f m

/-- The move reaches the pattern's end (R139 step 3). -/
def isChimeEnd : VoiceMove → Bool
  | .chimeEnd => true
  | _ => false

/-- The move goes on to the next note (R139 step 2). -/
def isNextNote : VoiceMove → Bool
  | .nextNote _ _ => true
  | _ => false

/-- The move stays in a tone note whose decay counter has reached k (R136): it reads 0 again, with k of 1 or more. -/
def isDecayStep : VoiceMove → Bool
  | .on n p => n.tone.isSome && n.decay != 0 && p.decayCounter == 0
  | _ => false

end Sys2Proof.Machine
end

