-- ==== Sys2Proof/Machine/HostRequests.lean ====
section
/-! DEFINITION. The meanings of the 34 host requests: each is taken by the Control Link (R168), carried out by its owner,
and its reply starts. -/

namespace Sys2Proof.Machine

/-- The outcome of every command. -/
abbrev Result := Host.Outcome State Fault Refusal

/-- BERTH_READ (R11). -/
def execBerthRead (berth : Byte) (s : State) : Result :=
  .next (takeRequest 0x01 (berthRead berth) s)

/-- BERTH_STAGE (R12, R13). -/
def execBerthStage (berth : Byte) (body : StageBody) (s : State) : Result :=
  .next (takeRequest 0x02 (berthStage berth body) s)

/-- STAGE_DISCARD (R14). -/
def execStageDiscard (s : State) : Result :=
  .next (takeRequest 0x03 stageDiscard s)

/-- COMMIT (R15). -/
def execCommit (s : State) : Result :=
  .next (takeRequest 0x04 commitRequest s)

/-- BERTH_EDIT (R20, R21). -/
def execBerthEdit (zones attrMask mode operation destination source : Byte) (s : State) : Result :=
  .next (takeRequest 0x05 (berthEdit zones attrMask mode operation destination source) s)

/-- LINE_SETUP (R30). -/
def execLineSetup (line count : Byte) (s : State) : Result :=
  .next (takeRequest 0x06 (lineSetup line count) s)

/-- LINE_READ (R43). -/
def execLineRead (line : Byte) (s : State) : Result :=
  .next (takeRequest 0x07 (lineRead line) s)

/-- LINE_RESTART (R45). -/
def execLineRestart (line : Byte) (s : State) : Result :=
  .next (takeRequest 0x08 (lineRestart line) s)

/-- LINE_STOP (R44). -/
def execLineStop (line : Byte) (s : State) : Result :=
  .next (takeRequest 0x09 (lineStop line) s)

/-- BERTH_LINK_READ (R46). -/
def execBerthLinkRead (berth : Byte) (s : State) : Result :=
  .next (takeRequest 0x0A (berthLinkRead berth) s)

/-- BERTH_LINK_CLEAR (R47). -/
def execBerthLinkClear (berth : Byte) (s : State) : Result :=
  .next (takeRequest 0x0B (berthLinkClear berth) s)

/-- PROGRAMME_SETUP (R52). -/
def execProgrammeSetup (programme picture tracks trim0 trim1 stillCard : Byte) (s : State) : Result :=
  .next (takeRequest 0x0C (programmeSetup programme picture tracks trim0 trim1 stillCard) s)

/-- PROGRAMME_TRIM (R53). -/
def execProgrammeTrim (programme : Byte) (body : TrimBody) (s : State) : Result :=
  .next (takeRequest 0x0D (programmeTrim programme body) s)

/-- PROGRAMME_READ (R54). -/
def execProgrammeRead (selector : Byte) (s : State) : Result :=
  .next (takeRequest 0x0E (programmeRead selector) s)

/-- LANE_READ (R82). -/
def execLaneRead (line : Byte) (s : State) : Result :=
  .next (takeRequest 0x0F (laneRead line) s)

/-- ANNOUNCE (R92 to R95). -/
def execAnnounce (body : AnnounceBody) (deadline : Half) (s : State) : Result :=
  .next (takeRequest 0x10 (announce body deadline) s)

/-- ANNOUNCEMENT_READ (R101). -/
def execAnnouncementRead (selector code : Byte) (s : State) : Result :=
  .next (takeRequest 0x11 (announcementRead selector code) s)

/-- PTT_PROFILE_SET (R100). -/
def execPttProfileSet (profile : Byte) (body : AnnounceBody) (s : State) : Result :=
  .next (takeRequest 0x12 (pttProfileSet profile body) s)

/-- CUT (R115). -/
def execCut (handle mode : Byte) (s : State) : Result :=
  .next (takeRequest 0x13 (cut handle mode) s)

/-- FINISHED_READ (R119). -/
def execFinishedRead (start : Byte) (s : State) : Result :=
  .next (takeRequest 0x14 (finishedRead start) s)

/-- CHIME_LOAD (R141). -/
def execChimeLoad (pattern : Byte) (notes : List NoteBody) (s : State) : Result :=
  .next (takeRequest 0x15 (chimeLoad pattern notes) s)

/-- CHIME_READ (R143). -/
def execChimeRead (pattern : Byte) (s : State) : Result :=
  .next (takeRequest 0x16 (chimeRead pattern) s)

/-- MIX_READ (R154). -/
def execMixRead (berth clear : Byte) (s : State) : Result :=
  .next (takeRequest 0x17 (mixRead berth clear) s)

/-- COACH_SET (R160). -/
def execCoachSet (body : CoachBody) (s : State) : Result :=
  .next (takeRequest 0x18 (coachSet body) s)

/-- COACH_READ (R161). -/
def execCoachRead (s : State) : Result :=
  .next (takeRequest 0x19 coachRead s)

/-- ALARM_RELEASE (R158, R153). -/
def execAlarmRelease (s : State) : Result :=
  .next (takeRequest 0x1A alarmRelease s)

/-- CALL_TAKE (R163). -/
def execCallTake (s : State) : Result :=
  .next (takeRequest 0x1B callTake s)

/-- CALL_CLEAR (R164). -/
def execCallClear (berth : Byte) (s : State) : Result :=
  .next (takeRequest 0x1C (callClear berth) s)

/-- START (R170). -/
def execStart (s : State) : Result :=
  .next (takeRequest 0x1D startRequest s)

/-- RESTART (R171): the device reset comes when the reply has been sent. -/
def execRestart (s : State) : Result :=
  .next (takeRequest 0x1E restartRequest s)

/-- STATUS_READ (R172). -/
def execStatusRead (s : State) : Result :=
  .next (takeRequest 0x1F statusRead s)

/-- EVENTS_READ (R175). -/
def execEventsRead (s : State) : Result :=
  .next (takeRequest 0x20 eventsRead s)

/-- EVENTS_CLEAR (R174). -/
def execEventsClear (positions : Half) (s : State) : Result :=
  .next (takeRequest 0x20 (eventsClear positions) s)

/-- EVENTS_ENABLE (R175). -/
def execEventsEnable (values : Half) (s : State) : Result :=
  .next (takeRequest 0x21 (eventsEnable values) s)

end Sys2Proof.Machine
end

