-- ==== Sys2Proof/Machine/PortEvents.lean ====
section
/-! DEFINITION. The meanings of the arrivals at the ports other than requests: the control link's bytes and frames,
replies sent, RESET_N, the media port, the reply slots and drive conflicts of the lines, and the contacts. -/

namespace Sys2Proof.Machine

/-! ## The control link -/

/-- CONTROL_FRAME_RECEIVED (R165, R167): the bytes are received one after the other. -/
def execControlFrameReceived (bytes : List RxByte) (s : State) : Result :=
  .next (whenUp s fun s => forEach bytes receiveByte s)

/-- REQUEST_TAKEN_LINK_REFUSAL (R169). -/
def execRequestTakenLinkRefusal (counted : List Byte) (checkGood : Bool) (s : State) : Result :=
  .next (whenUp s fun s => takeRefused ⟨counted, checkGood⟩ s)

/-- REPLY_SENT (R168, R171). -/
def execReplySent (s : State) : Result :=
  .next (whenUp s sendEnds)

/-- CTL_RX_BYTE (R165, R166). -/
def execCtlRxByte (byte : RxByte) (s : State) : Result :=
  .next (whenUp s fun s => receiveByte s byte)

/-! ## RESET_N (R171) -/

/-- A line undriven while RESET_N is low: what it was sending and receiving is abandoned (R28 note 1, R171). -/
def undrivenLine (x : Line) : Line := { x with frame := none, slotOpen := false, frameDue := false }

/-- RESET_N_LOW (R171): the part takes nothing from now on; a reply being sent is cut short (R168), and the lines are
undriven. -/
def execResetNLow (s : State) : Result :=
  .next (whenUp s fun s =>
    ((s.setResetLow true).modLink fun k => { k with tx := .free }).setLines (s.lines.map undrivenLine))

/-- RESET_N_HIGH (R171): the device reset completes. -/
def execResetNHigh (s : State) : Result :=
  .next (if s.resetLow then deviceReset s else s)

/-! ## The media port -/

/-- MEDIA_FRAME (R49, R50). -/
def execMediaFrame (frame : EthernetFrame) (s : State) : Result :=
  .next (whenUp s fun s => arriveFrame frame s)

/-! ## The berth lines -/

/-- REPLY_SLOT_COMPLETE (R35 to R41). -/
def execReplySlotComplete (line : LineNo) (signal : SlotSignal) (s : State) : Result :=
  .next (whenUp s fun s => completeSlot line signal s)

/-- BERTH_DROPPED (R40): the lost reply that brings a PRESENT berth's miss count to 16; without that cause nothing
happens. -/
def execBerthDropped (line : LineNo) (signal : SlotSignal) (s : State) : Result :=
  .next (whenUp s fun s => if dropDue s line && isLost signal then completeSlot line signal s else s)

/-- BERTH_CONFLICT (R41): the COLLISION that brings the collision run to 3; without that cause nothing happens. -/
def execBerthConflict (line : LineNo) (s : State) : Result :=
  .next (whenUp s fun s => if conflictDue s line then completeSlot line .collision s else s)

/-- DRIVE_CONFLICT (R34). -/
def execDriveConflict (line : LineNo) (s : State) : Result :=
  .next (whenUp s fun s => driveConflict line s)

/-! ## The contacts -/

/-- PTT_PRESS (R97, R113, R155, R156). -/
def execPttPress (mic : Mic) (s : State) : Result :=
  .next (whenUp s fun s => edgeIfOther (micContact mic) true s)

/-- PTT_RELEASE (R112, R155, R156). -/
def execPttRelease (mic : Mic) (s : State) : Result :=
  .next (whenUp s fun s => edgeIfOther (micContact mic) false s)

/-- ALARM_IN_PRESS (R155 to R157). -/
def execAlarmInPress (s : State) : Result :=
  .next (whenUp s fun s => edgeIfOther .alarmIn true s)

/-- ALARM_IN_RELEASE (R155, R156). -/
def execAlarmInRelease (s : State) : Result :=
  .next (whenUp s fun s => edgeIfOther .alarmIn false s)

/-- CONTACT_SAMPLE (R155). -/
def execContactSample (contact : Contact) (active : Bool) (s : State) : Result :=
  .next (whenUp s fun s => takeSample contact active s)

end Sys2Proof.Machine
end

