-- ==== Sys2Proof/Machine/BlockEvents.lean ====
section
/-! DEFINITION. The meanings of the commands of a block start: BLOCK_START, which takes all of it that is left, and the
steps of one item, which can be taken ahead of it (log entries 3 and 4). -/

namespace Sys2Proof.Machine

/-- BLOCK_START (R145): the boundary opens if it is not open, and all its work that is left is taken. -/
def execBlockStart (micD micC : Block) (first : List BerthNo) (s : State) : Result :=
  .next (whenUp s fun s => takeBoundary micD micC first (openBoundary s))

/-- FRAME_TIMEOUT (R166). -/
def execFrameTimeout (s : State) : Result :=
  .next (atBoundary timeoutCause takeAge s)

/-- COMMIT_DUE (R16, R17). -/
def execCommitDue (s : State) : Result :=
  .next (atBoundary (fun s => s.boundary.commitDue) takeCommit s)

/-- TRACK_STARVED (R59). -/
def execTrackStarved (programme : ProgrammeNo) (track : TrackNo) (s : State) : Result :=
  .next (atBoundary (starvedCause programme track) (takeTrack programme track) s)

/-- QUEUE_DEADLINE_EXPIRY (R104). -/
def execQueueDeadlineExpiry (handle : Byte) (s : State) : Result :=
  .next (atBoundary (entryCause handle expiryCause) (fun s => advanceIfDue s handle) s)

/-- LEAD_END (R106). -/
def execLeadEnd (handle : Byte) (s : State) : Result :=
  .next (atBoundary (entryCause handle leadEndCause) (fun s => advanceIfDue s handle) s)

/-- MAXIMUM_LIVE_REACHED (R108 step 1). -/
def execMaximumLiveReached (handle : Byte) (s : State) : Result :=
  .next (atBoundary (entryCause handle maximumCause) (fun s => advanceIfDue s handle) s)

/-- STARVATION_RUN_LIMIT (R108 step 3). -/
def execStarvationRunLimit (handle : Byte) (s : State) : Result :=
  .next (atBoundary (fun s => entryCause handle (starvationCause s) s) (fun s => advanceIfDue s handle) s)

/-- TAIL_END (R111). -/
def execTailEnd (handle : Byte) (s : State) : Result :=
  .next (atBoundary (entryCause handle tailEndCause) (fun s => advanceIfDue s handle) s)

/-- ENVELOPE_DECAY_STEP (R136). -/
def execEnvelopeDecayStep (voice : Source) (s : State) : Result :=
  .next (atBoundary (voiceCause voice isDecayStep) (fun s => takeVoice s voice) s)

/-- CHIME_NOTE_END (R139 step 2). -/
def execChimeNoteEnd (voice : Source) (s : State) : Result :=
  .next (atBoundary (voiceCause voice isNextNote) (fun s => takeVoice s voice) s)

/-- CHIME_END (R107, R139 step 3). -/
def execChimeEnd (voice : Source) (s : State) : Result :=
  .next (atBoundary (voiceCause voice isChimeEnd) (fun s => takeVoice s voice) s)

end Sys2Proof.Machine
end

