-- ==== Sys2Proof/Machine/Dispatch.lean ====
section
/-! DEFINITION. The dispatch: one arm per command, each one call of its meaning. -/

namespace Sys2Proof.Machine

/-- A command's effect on everything but the queue of commands. -/
def exec (i : Instr) (s : State) : Host.Outcome State Fault Refusal :=
  match i with
  | .berthRead berth => Sys2Proof.Machine.execBerthRead berth s
  | .berthStage berth body => Sys2Proof.Machine.execBerthStage berth body s
  | .stageDiscard => Sys2Proof.Machine.execStageDiscard s
  | .commit => Sys2Proof.Machine.execCommit s
  | .berthEdit zones attrMask mode operation destination source => Sys2Proof.Machine.execBerthEdit zones attrMask mode operation destination source s
  | .lineSetup line count => Sys2Proof.Machine.execLineSetup line count s
  | .lineRead line => Sys2Proof.Machine.execLineRead line s
  | .lineRestart line => Sys2Proof.Machine.execLineRestart line s
  | .lineStop line => Sys2Proof.Machine.execLineStop line s
  | .berthLinkRead berth => Sys2Proof.Machine.execBerthLinkRead berth s
  | .berthLinkClear berth => Sys2Proof.Machine.execBerthLinkClear berth s
  | .programmeSetup programme picture tracks trim0 trim1 stillCard => Sys2Proof.Machine.execProgrammeSetup programme picture tracks trim0 trim1 stillCard s
  | .programmeTrim programme body => Sys2Proof.Machine.execProgrammeTrim programme body s
  | .programmeRead selector => Sys2Proof.Machine.execProgrammeRead selector s
  | .laneRead line => Sys2Proof.Machine.execLaneRead line s
  | .announce body deadline => Sys2Proof.Machine.execAnnounce body deadline s
  | .announcementRead selector code => Sys2Proof.Machine.execAnnouncementRead selector code s
  | .pttProfileSet profile body => Sys2Proof.Machine.execPttProfileSet profile body s
  | .cut handle mode => Sys2Proof.Machine.execCut handle mode s
  | .finishedRead start => Sys2Proof.Machine.execFinishedRead start s
  | .chimeLoad pattern notes => Sys2Proof.Machine.execChimeLoad pattern notes s
  | .chimeRead pattern => Sys2Proof.Machine.execChimeRead pattern s
  | .mixRead berth clear => Sys2Proof.Machine.execMixRead berth clear s
  | .coachSet body => Sys2Proof.Machine.execCoachSet body s
  | .coachRead => Sys2Proof.Machine.execCoachRead s
  | .alarmRelease => Sys2Proof.Machine.execAlarmRelease s
  | .callTake => Sys2Proof.Machine.execCallTake s
  | .callClear berth => Sys2Proof.Machine.execCallClear berth s
  | .start => Sys2Proof.Machine.execStart s
  | .restart => Sys2Proof.Machine.execRestart s
  | .statusRead => Sys2Proof.Machine.execStatusRead s
  | .eventsRead => Sys2Proof.Machine.execEventsRead s
  | .eventsClear positions => Sys2Proof.Machine.execEventsClear positions s
  | .eventsEnable values => Sys2Proof.Machine.execEventsEnable values s
  | .controlFrameReceived bytes => Sys2Proof.Machine.execControlFrameReceived bytes s
  | .frameTimeout => Sys2Proof.Machine.execFrameTimeout s
  | .requestTakenLinkRefusal counted checkGood => Sys2Proof.Machine.execRequestTakenLinkRefusal counted checkGood s
  | .replySent => Sys2Proof.Machine.execReplySent s
  | .resetNLow => Sys2Proof.Machine.execResetNLow s
  | .resetNHigh => Sys2Proof.Machine.execResetNHigh s
  | .blockStart micD micC first => Sys2Proof.Machine.execBlockStart micD micC first s
  | .trackStarved programme track => Sys2Proof.Machine.execTrackStarved programme track s
  | .queueDeadlineExpiry handle => Sys2Proof.Machine.execQueueDeadlineExpiry handle s
  | .leadEnd handle => Sys2Proof.Machine.execLeadEnd handle s
  | .envelopeDecayStep voice => Sys2Proof.Machine.execEnvelopeDecayStep voice s
  | .chimeNoteEnd voice => Sys2Proof.Machine.execChimeNoteEnd voice s
  | .chimeEnd voice => Sys2Proof.Machine.execChimeEnd voice s
  | .maximumLiveReached handle => Sys2Proof.Machine.execMaximumLiveReached handle s
  | .starvationRunLimit handle => Sys2Proof.Machine.execStarvationRunLimit handle s
  | .tailEnd handle => Sys2Proof.Machine.execTailEnd handle s
  | .commitDue => Sys2Proof.Machine.execCommitDue s
  | .replySlotComplete line signal => Sys2Proof.Machine.execReplySlotComplete line signal s
  | .berthDropped line signal => Sys2Proof.Machine.execBerthDropped line signal s
  | .berthConflict line => Sys2Proof.Machine.execBerthConflict line s
  | .driveConflict line => Sys2Proof.Machine.execDriveConflict line s
  | .mediaFrame frame => Sys2Proof.Machine.execMediaFrame frame s
  | .pttPress mic => Sys2Proof.Machine.execPttPress mic s
  | .pttRelease mic => Sys2Proof.Machine.execPttRelease mic s
  | .alarmInPress => Sys2Proof.Machine.execAlarmInPress s
  | .alarmInRelease => Sys2Proof.Machine.execAlarmInRelease s
  | .ctlRxByte byte => Sys2Proof.Machine.execCtlRxByte byte s
  | .contactSample contact active => Sys2Proof.Machine.execContactSample contact active s

end Sys2Proof.Machine
end

