-- ==== Sys2Proof/Safety.lean ====
section
/-! DEFINITION. What claims are stated in: when the part takes a request, what its answer leaves, which command is which
request, and the three invariants that every step keeps: ranges, lanes and presence, announcements and floors. -/

namespace Sys2Proof.Machine

/-! ## Taking commands -/

/-- RESET_N is high, so that the part takes what arrives (R171). -/
abbrev Up (s : State) : Prop := s.resetLow = false

/-- The part takes a request at the moment it arrives: RESET_N is high and the transmitter is FREE (R168). -/
abbrev Ready (s : State) : Prop := s.resetLow = false ∧ s.link.tx = .free

/-- The state `s` with a reply under way that no device reset follows (R168). -/
def answered (kind : Byte) (st : Status) (body : List Byte) (s : State) : State :=
  { s with link := { s.link with tx := .sending ⟨kind, statusCode st, body⟩ false } }

/-- The kind code of a command that is a host request (12.2.1); `none` for an event. -/
def requestKind : Instr → Option Byte
  | .berthRead _ => some 0x01
  | .berthStage _ _ => some 0x02
  | .stageDiscard => some 0x03
  | .commit => some 0x04
  | .berthEdit _ _ _ _ _ _ => some 0x05
  | .lineSetup _ _ => some 0x06
  | .lineRead _ => some 0x07
  | .lineRestart _ => some 0x08
  | .lineStop _ => some 0x09
  | .berthLinkRead _ => some 0x0A
  | .berthLinkClear _ => some 0x0B
  | .programmeSetup _ _ _ _ _ _ => some 0x0C
  | .programmeTrim _ _ => some 0x0D
  | .programmeRead _ => some 0x0E
  | .laneRead _ => some 0x0F
  | .announce _ _ => some 0x10
  | .announcementRead _ _ => some 0x11
  | .pttProfileSet _ _ => some 0x12
  | .cut _ _ => some 0x13
  | .finishedRead _ => some 0x14
  | .chimeLoad _ _ => some 0x15
  | .chimeRead _ => some 0x16
  | .mixRead _ _ => some 0x17
  | .coachSet _ => some 0x18
  | .coachRead => some 0x19
  | .alarmRelease => some 0x1A
  | .callTake => some 0x1B
  | .callClear _ => some 0x1C
  | .start => some 0x1D
  | .restart => some 0x1E
  | .statusRead => some 0x1F
  | .eventsRead => some 0x20
  | .eventsClear _ => some 0x20
  | .eventsEnable _ => some 0x21
  | .controlFrameReceived _ => none
  | .frameTimeout => none
  | .requestTakenLinkRefusal _ _ => none
  | .replySent => none
  | .resetNLow => none
  | .resetNHigh => none
  | .blockStart _ _ _ => none
  | .trackStarved _ _ => none
  | .queueDeadlineExpiry _ => none
  | .leadEnd _ => none
  | .envelopeDecayStep _ => none
  | .chimeNoteEnd _ => none
  | .chimeEnd _ => none
  | .maximumLiveReached _ => none
  | .starvationRunLimit _ => none
  | .tailEnd _ => none
  | .commitDue => none
  | .replySlotComplete _ _ => none
  | .berthDropped _ _ => none
  | .berthConflict _ => none
  | .driveConflict _ => none
  | .mediaFrame _ => none
  | .pttPress _ => none
  | .pttRelease _ => none
  | .alarmInPress => none
  | .alarmInRelease => none
  | .ctlRxByte _ => none
  | .contactSample _ _ => none

/-- `P` holds of the part after a device reset, of either cause (R171): RESET_N returns high, or the reply of RESTART has
been sent. -/
def AfterDeviceReset (P : State → Prop) : Prop :=
  (∀ s : State, s.resetLow = true → ∃ t, exec .resetNHigh s = .next t ∧ P t) ∧
    ∀ (s : State) (r : Reply), Up s → s.link.tx = .sending r true → ∃ t, exec .replySent s = .next t ∧ P t

/-! ## Attribute tests in the words of R19 -/

/-- What each mode of an attribute test asks of a berth's attributes (R19). -/
def PassesR19 (mode : TestMode) (mask attrs : Byte) : Prop :=
  match mode with
  | .allSet => ∀ n, n < 8 → hasAttr mask n = true → hasAttr attrs n = true
  | .allClear => ∀ n, n < 8 → hasAttr mask n = true → hasAttr attrs n = false
  | .anySet => ∃ n, n < 8 ∧ hasAttr mask n = true ∧ hasAttr attrs n = true
  | .anyClear => ∃ n, n < 8 ∧ hasAttr mask n = true ∧ hasAttr attrs n = false
  | .none => True

/-! ## Optional fields -/

/-- An optional field of a request: left as it was when the request does not name it, and otherwise present with a value
that `reads` the carried byte (R13). -/
def StagedAs {α : Type} (reads : Byte → α → Prop) (carried : Option Byte) (old new : Option α) : Prop :=
  match carried with
  | none => new = old
  | some v => ∃ a, reads v a ∧ new = some a

/-- A carried byte that is the number `n` (12.1.1). -/
def ReadsFin {k : Nat} (v : Byte) (n : Fin k) : Prop := v.toNat = n.val

/-- A carried set / clear value: any value other than 00h is set (R179). -/
def ReadsFlag (v : Byte) (b : Bool) : Prop := b = true ↔ v ≠ 0

/-- A carried Programme: FFh is NONE (R179). -/
def ReadsProgramme (v : Byte) (p : Option ProgrammeNo) : Prop :=
  match p with
  | none => v = 0xFF
  | some n => v.toNat = n.val

/-! ## Ranges -/

/-- The ranges of R85 that a PTT profile also keeps (R99). -/
abbrev ParamsInRange (p : Params) : Prop :=
  p.cls ≤ 3 ∧ p.duck ≤ 127 ∧ (1 ≤ p.attack ∧ p.attack ≤ 16) ∧ (1 ≤ p.release ∧ p.release ≤ 16) ∧ p.level ≤ 126 ∧
    p.card ≤ 63 ∧ p.lead ≤ 4095 ∧ p.tail ≤ 4095 ∧ p.maxLive ≤ 65535

/-- The ranges of R1 and R8. -/
abbrev BerthInRange (x : Berth) : Prop := x.live.volume ≤ 96 ∧ x.staged.volume.getD 0 ≤ 96

/-- The ranges of R37. -/
abbrev LinkInRange (r : LinkRecord) : Prop :=
  r.missCount ≤ 16 ∧ r.collisionRun ≤ 3 ∧ r.good ≤ 65535 ∧ r.silent ≤ 65535 ∧ r.framing ≤ 65535 ∧ r.check ≤ 65535 ∧
    r.collision ≤ 65535

/-- The ranges of a Line Controller (Introduction 1.5.1.7, R34, R37, R68). -/
abbrev LineInRange (x : Line) : Prop :=
  x.fitted ≤ 12 ∧ x.faultCount ≤ 255 ∧ (∀ k, LinkInRange (x.links.get k)) ∧ ∀ n, (x.queues.get n).length ≤ 8

/-- The ranges of R55. -/
abbrev TrackInRange (t : Track) : Prop :=
  t.missRun ≤ 250 ∧ t.concealed ≤ 65535 ∧ t.silent ≤ 65535 ∧ t.skipped ≤ 65535 ∧ t.late ≤ 65535

/-- The ranges of R51. -/
abbrev ProgrammeInRange (r : Programme) : Prop :=
  (r.trackCount = 1 ∨ r.trackCount = 2) ∧ r.trim0 ≤ 63 ∧ r.trim1 ≤ 63 ∧ r.stillCard ≤ 63 ∧
    ∀ k, TrackInRange (r.tracks.get k)

/-- The ranges of R63. -/
abbrev RecordedInRange (r : RecordedBuffer) : Prop :=
  r.blocks.length ≤ 64 ∧ r.full ≤ 65535 ∧ r.stray ≤ 65535 ∧ r.flushed ≤ 65535

/-- The ranges of R49 and R50. -/
abbrev PortInRange (p : PortCounters) : Prop :=
  p.damaged ≤ 65535 ∧ p.foreign ≤ 65535 ∧ p.kind ≤ 65535 ∧ p.length ≤ 65535 ∧ p.programme ≤ 65535 ∧
    p.track ≤ 65535 ∧ p.picture ≤ 65535

/-- The ranges of R85 and R86; those of audience and peak audience stand in AnnouncementsHold. -/
abbrev EntryInRange (e : Entry) : Prop :=
  ParamsInRange e.params ∧ e.deadline ≤ 65535 ∧ e.timer ≤ 65535 ∧ e.liveCount ≤ 65535 ∧ e.starvation ≤ 500

/-- The ranges of a finished record (R118); that of its peak stands in AnnouncementsHold. -/
abbrev FinishedInRange (r : FinishedRecord) : Prop := r.cls ≤ 3 ∧ r.liveBlocks ≤ 65535

/-- The ranges of R134. -/
abbrev NoteInRange (n : Note) : Prop :=
  (1 ≤ n.duty ∧ n.duty ≤ 4) ∧ (1 ≤ n.duration ∧ n.duration ≤ 2000) ∧ n.a0 ≤ 126 ∧ n.decay ≤ 255

/-- A pattern has 1 to 4 notes (R134). -/
abbrev PatternInRange (ns : List Note) : Prop :=
  1 ≤ ns.length ∧ ns.length ≤ 4 ∧ ∀ n ∈ ns, NoteInRange n

/-- The ranges of R137; an IDLE voice holds nothing. -/
abbrev PlayingInRange (p : Playing) : Prop :=
  p.noteIndex ≤ 3 ∧ p.blocksInto ≤ 1999 ∧ p.samplePhase ≤ 159 ∧ p.env ≤ 127 ∧ p.decayCounter ≤ 254

/-- The ranges of R121 and R144. -/
abbrev MixInRange (m : MixState) : Prop :=
  m.duckTarget ≤ 127 ∧ m.gateTarget ≤ 127 ∧ (1 ≤ m.duckStep ∧ m.duckStep ≤ 16) ∧ (1 ≤ m.gateStep ∧ m.gateStep ≤ 16) ∧
    m.duck ≤ 127 ∧ m.gate ≤ 127 ∧ m.lastAp ≤ 127 ∧ m.lastAa ≤ 127 ∧ m.lastAc ≤ 127 ∧ m.clipCount ≤ 65535

/-- The ranges of R155, R159 and R162: at most one call for each berth. -/
abbrev CoachInRange (k : Coach) : Prop :=
  k.pttD.run ≤ 2 ∧ k.pttC.run ≤ 2 ∧ k.alarmIn.run ≤ 2 ∧ k.quiet ≤ 3 ∧ k.limit ≤ 96 ∧ k.alarmCard ≤ 63 ∧
    k.busyCard ≤ 63 ∧ (k.calls.map fun c => c.berth).Nodup

/-- What each receive state has kept of a frame (R165). -/
abbrev ReceiveInRange : Receive → Prop
  | .hunt => True
  | .length => True
  | .counted n kept => 1 ≤ n ∧ n ≤ 65 ∧ kept.length < n
  | .check n kept => 1 ≤ n ∧ n ≤ 65 ∧ kept.length = n

/-- The ranges of R165 to R167: while a frame is in receipt its age is below 20. -/
abbrev ControlInRange (k : ControlLink) : Prop :=
  k.age ≤ 20 ∧ (k.receive ≠ .hunt → k.age < 20) ∧ k.buffer.length ≤ 4 ∧ k.badLength ≤ 65535 ∧ k.stopBit ≤ 65535 ∧
    k.timeout ≤ 65535 ∧ k.overrun ≤ 65535 ∧ k.check ≤ 65535 ∧
    ReceiveInRange k.receive

/-- Every item of state lies in the range the spec gives it: all but audiences and peaks, which AnnouncementsHold bounds. -/
structure RangesHold (s : State) : Prop where
  berths : ∀ b, BerthInRange (s.berth b)
  lines : ∀ l, LineInRange (s.line l)
  drops : ∀ l n, (s.laneSet l).drops.get n ≤ 65535
  programmes : ∀ p, ProgrammeInRange (s.programme p)
  recorded : RecordedInRange s.media.recorded
  port : PortInRange s.media.port
  entries : ∀ e ∈ s.ann.entries, EntryInRange e
  driver : ParamsInRange s.ann.driver
  crew : ParamsInRange s.ann.crew
  finished : s.ann.finished.length ≤ 8 ∧ ∀ r ∈ s.ann.finished, FinishedInRange r
  patterns : ∀ p, PatternInRange (s.chimes.patterns.get p)
  voices : ∀ v p, (s.voice v).playing = some p → PlayingInRange p
  mix : ∀ b, MixInRange (s.mixOf b)
  coach : CoachInRange s.coach
  link : ControlInRange s.link

/-! ## Lanes and presence -/

/-- The number of berths of line `l` whose picture lane is lane `n`. -/
def holders (s : State) (l : LineNo) (n : LaneNo) : Nat :=
  (berthsOf l).countP fun b => (s.live b).lane = .lane n

/-- A lane carries programme `p`. -/
def Carries (s : State) (l : LineNo) (n : LaneNo) (p : ProgrammeNo) : Prop :=
  ∃ c, (s.laneSet l).lanes.get n = .carrying p c

/-- What a berth's picture lane field says (R69). -/
def LaneFieldRight (s : State) (b : BerthNo) : Prop :=
  match (s.live b).lane with
  | .none => wantsLane s b = false
  | .lane n => wantsLane s b = true ∧ ∃ p, (s.live b).programme = some p ∧ Carries s (lineOf b) n p
  | .waiting => wantsLane s b = true ∧ b ∈ (s.laneSet (lineOf b)).waits

/-- What a lane holds (R67, R68). -/
def LaneRight (s : State) (l : LineNo) (n : LaneNo) : Prop :=
  match (s.laneSet l).lanes.get n with
  | .free => (s.line l).queues.get n = []
  | .carrying p c => 1 ≤ c ∧ c = holders s l n ∧ ∀ m, m ≠ n → ¬ Carries s l m p

/-- What a wait list holds (R70). -/
structure WaitsRight (s : State) (l : LineNo) : Prop where
  once : (s.laneSet l).waits.Nodup
  ofLine : ∀ b ∈ (s.laneSet l).waits, lineOf b = l ∧ (s.live b).lane = .waiting
  uncarried : ∀ b ∈ (s.laneSet l).waits, ∀ n p, Carries s l n p → (s.live b).programme ≠ some p
  allCarry : (s.laneSet l).waits ≠ [] → ∀ n, ∃ p, Carries s l n p

/-- Lines, presence, lanes and wait lists agree with one another (R27, R30, R67 to R70, R78). -/
structure LanesHold (s : State) : Prop where
  configOff : s.device = .config → ∀ l, (s.line l).state = .off
  openRunning : ∀ l, ((s.line l).slotOpen = true ∨ (s.line l).frameDue = true) → (s.line l).state = .running
  quietLine : ∀ b, (s.line (lineOf b)).state ≠ .running → s.presence b ≠ .present ∧ s.presence b ≠ .conflict
  fitted : ∀ b, s.presence b = .excluded ↔ (s.line (lineOf b)).fitted ≤ (slotOf b).val
  fields : ∀ b, LaneFieldRight s b
  lanes : ∀ l n, LaneRight s l n
  waits : ∀ l, WaitsRight s l

/-! ## Announcements and floors -/

/-- The number of berths whose floor is the entry of handle `h` (R131). -/
def floorsOn (s : State) (h : Byte) : Nat := allBerths.countP fun b => (s.mixOf b).floor = some h

/-- The number of entries of a source in the table. -/
def entriesOf (s : State) (src : Source) : Nat := s.ann.entries.countP fun e => e.source = src

/-- The Announcement Table, the recorded queue, the recorded buffer's target, the voices and the floors agree with one
another (R66, R83, R87, R88, R91, R107, R121, R131, R137), and no audience passes 48 (R86, R118). -/
structure AnnouncementsHold (s : State) : Prop where
  configEmpty : s.device = .config → s.ann.entries = []
  handles : (s.ann.entries.map fun e => e.handle).Nodup ∧ ∀ e ∈ s.ann.entries, e.handle ≠ 0
  counter : s.ann.handleCounter ≠ 0
  quotas : entriesOf s .d ≤ 1 ∧ entriesOf s .c ≤ 1 ∧ entriesOf s .r ≤ 14
  queuedRecorded : ∀ e ∈ s.ann.entries, e.phase = .queued → e.source = .r
  oneActive : (s.ann.entries.countP fun e => activeRecorded e) ≤ 1
  queueOnce : s.ann.queue.Nodup
  queueRight : ∀ h, h ∈ s.ann.queue ↔ ∃ e ∈ s.ann.entries, e.handle = h ∧ e.phase = .queued
  queueOrder : s.ann.queue.Pairwise fun g h => ∀ e ∈ s.ann.entries, ∀ f ∈ s.ann.entries,
    e.handle = g → f.handle = h → outranks f e = false
  queueBusy : s.ann.queue ≠ [] → ∃ e ∈ s.ann.entries, activeRecorded e = true
  target : ∀ h, s.media.recorded.target = some h ↔
    ∃ e ∈ s.ann.entries, e.handle = h ∧ e.source = .r ∧ candidatePhase e.phase = true
  noTarget : s.media.recorded.target = none → s.media.recorded.blocks = []
  patterns : ∀ p, s.chimes.patterns.get p ≠ []
  voices : ∀ v p, (s.voice v).playing = some p →
    ∃ e ∈ s.ann.entries, e.handle = p.entry ∧ e.source = v ∧ e.phase = .chime
  notes : ∀ v p, (s.voice v).playing = some p → p.noteIndex < (s.chimes.patterns.get p.pattern).length
  chimes : ∀ e ∈ s.ann.entries, e.phase = .chime → ∃ p, (s.voice e.source).playing = some p ∧ p.entry = e.handle
  floors : ∀ b h, (s.mixOf b).floor = some h →
    s.presence b = .present ∧ ∃ e ∈ s.ann.entries, e.handle = h ∧ e.phase ≠ .queued
  audience : ∀ e ∈ s.ann.entries, e.audience = floorsOn s e.handle ∧ e.audience ≤ e.peak ∧ e.peak ≤ 48
  peaks : ∀ r ∈ s.ann.finished, r.peak ≤ 48
  readQueued : ∀ e ∈ s.ann.entries, e.phase = .queued → phaseRead e = .queued

/-! ## Reply slots and presence -/

/-- The reply slot under way on line `l` is that of the fitted berth `b` (R35). -/
structure SlotOf (s : State) (l : LineNo) (b : BerthNo) : Prop where
  up : Up s
  opened : (s.line l).slotOpen = true
  line : lineOf b = l
  called : (slotOf b).val = s.blockCount.toNat % 12
  fitted : (slotOf b).val < (s.line l).fitted

/-- The part with the reply slot of line `l` completed and the link record of its berth `b` replaced. -/
def slotDone (s : State) (l : LineNo) (b : BerthNo) (r : LinkRecord) : State :=
  { s with lines := s.lines.set l { s.line l with slotOpen := false, links := (s.line l).links.set (slotOf b) r } }

/-- A signal that R36 classes as FRAMING: one driver, and no berth reply of four bytes (R182). -/
def SentNoReply : SlotSignal → Prop
  | .undecoded => True
  | .sent bytes => bytes.length ≠ 4
  | .silent => False
  | .collision => False

/-- What a berth's change of presence away from PRESENT does to it (R4, R130): the sensed attributes clear, the lane or the
place in the wait list is given up, and floor, duck and gate are set at once. -/
structure LeftPresent (s t : State) (b : BerthNo) (now : Presence) : Prop where
  live : t.live b = { s.live b with presence := now, attrs := (t.live b).attrs, lane := .none }
  attrs : ∀ n, n < 8 → hasAttr (t.live b).attrs n = (decide (2 ≤ n) && hasAttr (s.live b).attrs n)
  staged : t.staged b = s.staged b
  mix : t.mixOf b = { s.mixOf b with floor := none, gate := 127, duck := 0, gateTarget := 127, duckTarget := 0 }

/-- Of the Announcement Controller, only audiences differ. -/
def OnlyAudiences (s t : State) : Prop :=
  t.ann = { s.ann with entries := t.ann.entries } ∧
    t.ann.entries.map (fun e => { e with audience := 0 }) = s.ann.entries.map fun e => { e with audience := 0 }

/-- Line `l` has left RUNNING or FAULTED for the state `now` with fault count `faults` (R34, R44, R78): what it was sending
and receiving is abandoned, no berth of it is PRESENT or CONFLICT, every lane is FREE with its send queue emptied, and no
berth waits. Fitted count, frames sent, link records, drop counts and other lines stay. -/
structure LineLeft (s t : State) (l : LineNo) (now : LineState) (faults : Nat) : Prop where
  line : t.line l = { s.line l with state := now, faultCount := faults, frame := none, slotOpen := false, frameDue := false,
                                    queues := .fill laneCount [] }
  lanes : t.laneSet l = { s.laneSet l with lanes := .fill laneCount .free, waits := [] }
  otherLines : ∀ m, m ≠ l → t.line m = s.line m ∧ t.laneSet m = s.laneSet m
  left : ∀ b, lineOf b = l → s.presence b = .present → LeftPresent s t b .absent
  conflict : ∀ b, lineOf b = l → s.presence b = .conflict →
    t.berth b = { s.berth b with live := { s.live b with presence := .absent } } ∧ t.mixOf b = s.mixOf b
  others : ∀ b, lineOf b ≠ l ∨ s.presence b = .absent ∨ s.presence b = .excluded →
    t.berth b = s.berth b ∧ t.mixOf b = s.mixOf b
  presenceEvent : t.flag .berthPresence = (s.flag .berthPresence || (berthsOf l).any fun b =>
    s.presence b == .present || s.presence b == .conflict)
  announcements : OnlyAudiences s t

/-! ## Lane work -/

/-- The part with the picture lane field of berth `b` and the lanes of its line replaced. -/
def withLaneField (s : State) (b : BerthNo) (f : LaneField) (held : LaneSet) : State :=
  { s with berths := s.berths.set b { s.berth b with live := { s.live b with lane := f } }
           lanes := s.lanes.set (lineOf b) held }

/-- Berth `b` has left the wait list of its line (R74). -/
def LeftWaits (s t : State) (b : BerthNo) : Prop :=
  let held := s.laneSet (lineOf b)
  t = withLaneField s b .none { held with waits := held.waits.filter fun c => c ≠ b }

/-- Berth `b`, which waits for no lane, has left lane `n` of its line (R72, R73): the lane goes on, becomes FREE with its send
queue emptied, or is handed over to the programme of the oldest waiter, which every waiter for it joins. -/
def LeftLane (s t : State) (b : BerthNo) (n : LaneNo) : Prop :=
  let l := lineOf b
  let held := s.laneSet l
  ∀ p c, held.lanes.get n = .carrying p c → b ∉ held.waits →
    (2 ≤ c → t = withLaneField s b .none { held with lanes := held.lanes.set n (.carrying p (c - 1)) }) ∧
    (c ≤ 1 → held.waits = [] → t = { withLaneField s b .none { held with lanes := held.lanes.set n .free } with
      lines := s.lines.set l { s.line l with queues := (s.line l).queues.set n [] } }) ∧
    ∀ w ws q, c ≤ 1 → held.waits = w :: ws → (s.live w).programme = some q →
      let joins := held.waits.filter fun c => (s.live c).programme = some q
      t = { s with
        berths := t.berths
        lanes := s.lanes.set l { held with lanes := held.lanes.set n (.carrying q joins.length),
                                           waits := held.waits.filter fun c => (s.live c).programme ≠ some q } } ∧
      t.berth b = { s.berth b with live := { s.live b with lane := .none } } ∧ 1 ≤ joins.length ∧
      ∀ d, d ≠ b → t.berth d =
        if d ∈ joins then { s.berth d with live := { s.live d with lane := .lane n } } else s.berth d

/-- Berth `b` has given up its place in the wait list, if it had one (R76, the first phase of a batch). -/
def ReleasedWait (s t : State) (b : BerthNo) : Prop :=
  match (s.live b).lane with
  | .waiting => LeftWaits s t b
  | .none => t = s
  | .lane _ => t = s

/-- Berth `b` has given up the lane it held, if it held one (R76, the second phase of a batch). -/
def ReleasedLane (s t : State) (b : BerthNo) : Prop :=
  match (s.live b).lane with
  | .lane n => LeftLane s t b n
  | .none => t = s
  | .waiting => t = s

/-- Berth `b` has given up what it held of the lanes (R72 to R75). -/
def Released (s t : State) (b : BerthNo) : Prop :=
  match (s.live b).lane with
  | .none => t = s
  | .waiting => LeftWaits s t b
  | .lane n => LeftLane s t b n

/-- Berth `b` wants a lane for programme `p` (R69). -/
def WantsLaneFor (s : State) (b : BerthNo) (p : ProgrammeNo) : Prop :=
  s.presence b = .present ∧ (s.live b).picture = true ∧ (s.live b).programme = some p ∧ (s.programme p).picture = true

/-- Berth `b` has made an acquisition (R71): where it wants a lane, it has joined the lane that carries its Programme, else
taken the lowest FREE lane, else its place at the back of the wait list. -/
def Acquired (s t : State) (b : BerthNo) : Prop :=
  let l := lineOf b
  let held := s.laneSet l
  ((∀ p, ¬ WantsLaneFor s b p) → t = s) ∧
  ∀ p, WantsLaneFor s b p →
    (∀ n c, held.lanes.get n = .carrying p c → (∀ m, m < n → ¬ Carries s l m p) →
      t = withLaneField s b (.lane n) { held with lanes := held.lanes.set n (.carrying p (c + 1)) }) ∧
    ((∀ n, ¬ Carries s l n p) → ∀ n, held.lanes.get n = .free → (∀ m, m < n → held.lanes.get m ≠ .free) →
      t = withLaneField s b (.lane n) { held with lanes := held.lanes.set n (.carrying p 1) }) ∧
    ((∀ n, ¬ Carries s l n p) → (∀ n, held.lanes.get n ≠ .free) →
      t = withLaneField s b .waiting { held with waits := held.waits ++ [b] })

/-- One thing after another has been done to the berths of a list, in its order. -/
def InTurn (done : State → State → BerthNo → Prop) : List BerthNo → State → State → Prop
  | [], s, t => t = s
  | b :: bs, s, t => ∃ u, done s u b ∧ InTurn done bs u t

/-- Berth `b` has given up what it held of the lanes, as far as lanes, send queues and other berths show it. -/
def LanesReleased (s t : State) (b : BerthNo) : Prop :=
  ∃ u, Released s u b ∧ t.lanes = u.lanes ∧ t.lines = u.lines ∧ ∀ c, c ≠ b → t.berth c = u.berth c

/-! ## Tracks -/

/-- The slots of a jitter buffer moved down by `m`, the last `m` of them empty (R57, R58). -/
def SlotsMoved (m : Nat) (old new : Table (Option Block) jitterSlots) : Prop :=
  ∀ k : Fin jitterSlots, new.get k = if h : k.val + m < jitterSlots then old.get ⟨k.val + m, h⟩ else none

/-- A FLOWING track that misses finds slot 0 empty; it repeats its last-good block when it holds one and has not just done
so, and plays silence otherwise (R58). -/
def MissPlayed (x y : Track) : Prop :=
  (∀ blk, x.concealUsed = false → x.lastGood = some blk →
    y.played = blk ∧ y.concealed = min 65535 (x.concealed + 1) ∧ y.silent = x.silent) ∧
  (x.concealUsed = true ∨ x.lastGood = none →
    y.played = Block.silence ∧ y.concealed = x.concealed ∧ y.silent = min 65535 (x.silent + 1))

/-- A FLOWING track whose miss brings its miss run to 250 and makes it STARVED (R59). -/
def StarvedFrom (x y : Track) : Prop :=
  MissPlayed x y ∧
  y = { x with state := .starved, expected := x.expected + 1, slots := .fill jitterSlots none, lastGood := none,
               concealUsed := false, missRun := 250, played := y.played, concealed := y.concealed, silent := y.silent,
               skipped := min 65535 (x.skipped + x.slots.cells.countP Option.isSome), due := false }

/-! ## Announcements -/

/-- A class, a test mode or a chime pattern that is refused (R92 tests 2 to 4, R100). -/
def RefusedFields (x : AnnounceBody) : Prop :=
  3 < x.cls.toNat ∨ 4 < x.mode.toNat ∨ (3 < x.chime.toNat ∧ x.chime ≠ 0xFF)

/-- The fields of an entry or a profile as they are stored from the fields carried (R92, R93, R100). -/
structure StoredFrom (x : AnnounceBody) (p : Params) : Prop where
  cls : p.cls = x.cls.toNat
  masks : p.zones = x.zones ∧ p.attrMask = x.attrMask
  mode : [TestMode.none, .allSet, .allClear, .anySet, .anyClear][x.mode.toNat]? = some p.mode
  chime : match p.chime with
    | none => x.chime = 0xFF
    | some n => x.chime.toNat = n.val
  duck : p.duck = min 127 x.duck.toNat
  attack : p.attack = max 1 (min 16 x.attack.toNat)
  release : p.release = max 1 (min 16 x.release.toNat)
  level : p.level = min 126 x.level.toNat
  card : p.card = min 63 x.card.toNat
  lead : p.lead = min 4095 x.lead.toNat
  tail : p.tail = min 4095 x.tail.toNat
  maxLive : p.maxLive = x.maxLive.toNat

/-- CLAMPED when at least one carried field is stored at the limit of its range, DONE otherwise (R93, R100). -/
def storeStatus (x : AnnounceBody) : Status :=
  if 127 < x.duck.toNat ∨ x.attack.toNat = 0 ∨ 16 < x.attack.toNat ∨ x.release.toNat = 0 ∨ 16 < x.release.toNat ∨
    126 < x.level.toNat ∨ 63 < x.card.toNat ∨ 4095 < x.lead.toNat ∨ 4095 < x.tail.toNat then .clamped else .done

/-- The handle that the next admission is issued: the first, from the handle counter on, that no entry of the table holds
(R88). -/
def IssuedHandle (s : State) (h : Byte) : Prop :=
  (∀ e ∈ s.ann.entries, e.handle ≠ h) ∧
    ∃ k, h = nextHandle^[k] s.ann.handleCounter ∧
      ∀ j, j < k → ∃ e ∈ s.ann.entries, e.handle = nextHandle^[j] s.ann.handleCounter

/-- An entry as it is admitted, with phase and phase timer still to come (R85, R86, R89). -/
def admitted (s : State) (src : Source) (h : Byte) (p : Params) (deadline : Nat) (phase : Phase) (timer : Nat) : Entry :=
  { handle := h, source := src, params := p, deadline := deadline, admission := s.ann.admissionCounter + 1, phase := phase,
    timer := timer, liveCount := 0, audience := 0, peak := 0, earlyRelease := false, endReason := none, starvation := 0,
    recorded := none, blockPhase := none, due := false }

/-- The recorded buffer emptied, each block counted as flushed, with a new target (R66). -/
def flushedTo (target : Option Byte) (r : RecordedBuffer) : RecordedBuffer :=
  { r with target := target, blocks := [], flushed := min 65535 (r.flushed + r.blocks.length) }

/-- The recorded buffer when an active entry of this source stops being the target: closed for R, untouched for D and C. -/
def closedFor (src : Source) (r : RecordedBuffer) : RecordedBuffer :=
  match src with
  | .r => flushedTo none r
  | .d => r
  | .c => r

/-- The voices when entry `e` leaves CHIME or the table before its pattern's end: the voice that plays for it is IDLE at once,
and what it handed for the current block stands (R140). -/
structure VoiceStopped (s t : State) (e : Entry) : Prop where
  patterns : t.chimes.patterns = s.chimes.patterns
  playing : ∀ p, (s.voice e.source).playing = some p → p.entry = e.handle →
    t.voice e.source = { s.voice e.source with playing := none, due := false }
  idle : (∀ p, (s.voice e.source).playing = some p → p.entry ≠ e.handle) → t.voice e.source = s.voice e.source
  others : ∀ v, v ≠ e.source → t.voice v = s.voice v

/-- Entry `e` has entered TAIL (R110) and nothing else has changed. -/
structure EnteredTail (s t : State) (e : Entry) (why : EndReason) : Prop where
  frame : t = { s with
    ann := { s.ann with entries := s.ann.entries.map fun x => (if x.handle = e.handle then
      { x with phase := .tail, endReason := some why, timer := x.params.tail, earlyRelease := false }
      else x) }
    media := { s.media with recorded := closedFor e.source s.media.recorded }
    chimes := t.chimes }
  voices : VoiceStopped s t e

/-- What the removal of entry `e` leaves beside the table, the queue, the buffer and the flags (R116, R118, R129). -/
structure RemovedEntry (s t : State) (e : Entry) (cause : EndReason) : Prop where
  frame : t = { s with
    ann := { s.ann with entries := t.ann.entries, queue := t.ann.queue, finished := t.ann.finished }
    media := { s.media with recorded := t.media.recorded }
    chimes := t.chimes
    mix := t.mix
    events := { s.events with flags := t.events.flags } }
  finished : t.ann.finished = ((⟨e.handle, e.source, e.params.cls, e.endReason.getD cause, e.peak, e.liveCount,
    s.blockCount⟩ : FinishedRecord) :: s.ann.finished).take 8
  event : t.flag .annFinished = true
  floors : ∀ b, t.mixOf b = if (s.mixOf b).floor = some e.handle then
    { s.mixOf b with floor := none, gate := 127, gateTarget := 127, duckTarget := 0, duckStep := e.params.release,
                     gateStep := e.params.release } else s.mixOf b
  voices : VoiceStopped s t e

/-- The table and the queue without entry `e`, the recorded buffer as given, and no flag but ANN_FINISHED raised: a removal
that hands nothing on. -/
structure LeftTable (s t : State) (e : Entry) (buffer : RecordedBuffer) : Prop where
  entries : t.ann.entries = s.ann.entries.filter fun x => x.handle ≠ e.handle
  queue : t.ann.queue = s.ann.queue.filter fun h => h ≠ e.handle
  recorded : t.media.recorded = buffer
  flags : t.events.flags = s.events.flags ||| eventMask .annFinished

/-- The table without entry `e` and the recorded source handed on to the head `h` of its queue, which enters LEAD (R105). -/
structure HandedOn (s t : State) (e : Entry) (h : Byte) (rest : List Byte) : Prop where
  entries : t.ann.entries = (s.ann.entries.filter fun x => x.handle ≠ e.handle).map fun x =>
    if x.handle = h then { x with phase := .lead, timer := x.params.lead } else x
  queue : t.ann.queue = rest
  recorded : t.media.recorded = flushedTo (some h) s.media.recorded
  flags : t.events.flags = s.events.flags ||| eventMask .annFinished ||| eventMask .recordedGo

/-- The Announcement Controller with entry `h` replaced. -/
def withEntry (a : Announcer) (h : Byte) (e : Entry) : Announcer :=
  { a with entries := a.entries.map fun x => if x.handle = h then e else x }

/-- An entry that is about to take a LIVE advance stays in LIVE (R108): its live count has not reached its maximum live, and
if it is recorded, the next block bears no end marker, and without a block its starvation run stays below 500. -/
def StaysLive (s : State) (e : Entry) : Prop :=
  (e.params.maxLive = 0 ∨ e.liveCount ≠ e.params.maxLive) ∧
    (e.source = .r → match s.media.recorded.blocks with
      | [] => e.starvation < 499
      | b :: _ => b.endMarker = false)

/-- Entry `e` after a LIVE advance that leaves it in LIVE (R108), `blocks` being what the recorded buffer held: counted, and
a recorded entry with the block that it takes, or one nearer to its starvation. -/
def afterLiveAdvance (blocks : List RecordedBlock) (e : Entry) : Entry :=
  let counted := { e with phase := .live, liveCount := min 65535 (e.liveCount + 1), recorded := none,
                          blockPhase := some .live, due := false }
  match e.source, blocks with
  | .r, [] => { counted with starvation := e.starvation + 1 }
  | .r, b :: _ => { counted with starvation := 0, recorded := some b.samples }
  | _, _ => counted

/-- The recorded buffer after a LIVE advance of an entry of this source: a recorded entry takes the oldest block (R65). -/
def bufferAfterLive (src : Source) (r : RecordedBuffer) : RecordedBuffer :=
  match src, r.blocks with
  | .r, _ :: rest => { r with blocks := rest, taken := r.taken + 1 }
  | _, _ => r

/-- Entry `e` stands in LIVE and has taken a LIVE advance that leaves it there (R108). -/
def TookLiveAdvance (s t : State) (e : Entry) : Prop :=
  t = { s with ann := withEntry s.ann e.handle (afterLiveAdvance s.media.recorded.blocks e)
               media := { s.media with recorded := bufferAfterLive e.source s.media.recorded } }

/-- Entry `e` in TAIL after its first TAIL advance at the block start that ended it (R103, R110, R111): its timer stands one
below Tail, its live count at `live`, its starvation run at `starved`, and `passed` is the recorded block it holds. -/
def afterEnd (e : Entry) (why : EndReason) (live starved : Nat) (passed : Option Block) : Entry :=
  { e with phase := .tail, endReason := some why, timer := e.params.tail - 1, earlyRelease := false, liveCount := live,
           starvation := starved, recorded := passed, blockPhase := some .tail, due := false }

/-- Entry `e` has entered TAIL at a block start and has taken its first TAIL advance there (R103, R110, R111); with Tail 0 it
has been removed (said here where the recorded source has none to hand on to). -/
def EndedAtBlockStart (s t : State) (e : Entry) (why : EndReason) (live starved : Nat) (passed : Option Block) : Prop :=
  (1 ≤ e.params.tail → VoiceStopped s t e ∧
    t = { s with ann := withEntry s.ann e.handle (afterEnd e why live starved passed)
                 media := { s.media with recorded := closedFor e.source s.media.recorded }
                 chimes := t.chimes }) ∧
  (e.params.tail = 0 → e.source ≠ .r ∨ s.ann.queue = [] →
    RemovedEntry s t { e with endReason := some why, liveCount := live } why ∧
      LeftTable s t e (closedFor e.source s.media.recorded))

/-- Two entries differ at most in audience and peak audience. -/
def SameButAudience (e f : Entry) : Prop := f = { e with audience := f.audience, peak := f.peak }

/-- Block starts leave the active recorded entry in the table: it stands in TAIL with time left, or its Tail is not 0. -/
abbrev ActiveStays (s : State) : Prop :=
  ∀ a ∈ s.ann.entries, activeRecorded a = true → (a.phase = .tail → 1 ≤ a.timer) ∧ (a.phase ≠ .tail → 1 ≤ a.params.tail)

/-! ## Chimes -/

/-- The 48 samples of one block of a note from a sample phase, and the sample phase after it (R135). In a REST the phase stays
0 (log entry 9). -/
def NoteSounds (n : Note) (phase : Nat) (samples : Block) (phaseAfter : Nat) : Prop :=
  match n.tone with
  | none => samples = Block.silence ∧ phaseAfter = 0
  | some tone =>
    let period := [40, 48, 64, 72, 80, 96, 120, 160].getD tone.val 0
    phaseAfter = (phase + 48) % period ∧
      ∀ i : Fin 48, samples.get i = if (phase + i.val) % period < period * n.duty / 8 then 0x4000 else 0xC000

/-- A voice at the first block of note `i`, the note `n` (R136, R138, R139). -/
def StartsNote (v : Voice) (h : Byte) (pattern : PatternNo) (i : Nat) (n : Note) : Prop :=
  ∃ samples phase, NoteSounds n 0 samples phase ∧
    let env := if n.tone.isSome then n.a0 else 127
    v = { playing := some { entry := h, pattern := pattern, noteIndex := i, blocksInto := 0, samplePhase := phase, env := env,
                            decayCounter := 0 }
          output := some (samples, env)
          due := false }

/-- A voice that was at `q` in the note `n` and has stayed in it for one more block (R136, R139 step 4): env rises when the
decay counter reaches k. -/
def StaysInNote (v : Voice) (q : Playing) (n : Note) : Prop :=
  let decays := n.tone ≠ none ∧ n.decay ≠ 0
  let rises := decays ∧ n.decay ≤ q.decayCounter + 1
  ∃ samples phase, NoteSounds n q.samplePhase samples phase ∧
    (rises → v = { playing := some { q with blocksInto := q.blocksInto + 1, samplePhase := phase,
                                            env := min 127 (q.env + 1), decayCounter := 0 }
                   output := some (samples, min 127 (q.env + 1))
                   due := false }) ∧
    (decays → ¬ rises → v = { playing := some { q with blocksInto := q.blocksInto + 1, samplePhase := phase,
                                                       decayCounter := q.decayCounter + 1 }
                              output := some (samples, q.env)
                              due := false }) ∧
    (¬ decays → v = { playing := some { q with blocksInto := q.blocksInto + 1, samplePhase := phase }
                      output := some (samples, q.env)
                      due := false })

/-- Of the Chime Voices, only voice `v` differs. -/
def OnlyVoice (s t : State) (v : Source) : Prop :=
  t.chimes.patterns = s.chimes.patterns ∧ ∀ w, w ≠ v → t.voice w = s.voice w

/-! ## Block starts, floors and the mix -/

/-- The part when the block starts of its berths are taken: commit, frame age, tracks, voices and entries have been (log
entry 4; R125 and R146 have a berth read the values for the block in whatever order). -/
def afterAdvances (s : State) : State := takeEntries (takeVoices (takeTracks (takeAge (takeCommit (openBoundary s)))))

/-- The part when its outbound frames are composed: every PRESENT berth has been mixed (R31, R145). -/
def afterMixes (micD micC : Block) (first : List BerthNo) (s : State) : State :=
  takeBerths micD micC first (afterAdvances s)

/-- Entry `e` is a candidate at berth `b`, by the phase read of it for the block (R103, R123, R124). -/
def IsCandidate (s : State) (b : BerthNo) (e : Entry) : Prop :=
  e ∈ s.ann.entries ∧ (phaseRead e = .lead ∨ phaseRead e = .chime ∨ phaseRead e = .live) ∧ eligible s b e = true

/-- Entry `e` is the best candidate at berth `b`: of the highest class, and of the lowest admission number in it (R124). -/
def IsBest (s : State) (b : BerthNo) (e : Entry) : Prop :=
  IsCandidate s b e ∧ ∀ f, IsCandidate s b f → f.handle ≠ e.handle →
    f.params.cls < e.params.cls ∨ f.params.cls = e.params.cls ∧ e.admission < f.admission

/-- The value `w` that the ramp of a block start gives a value `v` (R147). -/
def RampedTo (target step v w : Nat) : Prop :=
  (v < target → w = min target (v + step)) ∧ (target < v → w = max target (v - step)) ∧ (v = target → w = v)

/-- A sum limited to 16 bits (R152). -/
def limitTo16 (y : Int) : Int := if y < -32768 then -32768 else if 32767 < y then 32767 else y

/-! ## Control-link records -/

/-- The presence mask of some optional fields, field k at bit k; bit 15 stands for a field that no kind defines (R178). -/
def maskBytes (fields : List (Option Byte)) (undefinedBit : Bool) : List Byte :=
  let mask := fields.zipIdx.foldl (fun (m : Half) x => if x.1.isSome then m ||| BitVec.twoPow 16 x.2 else m)
    (if undefinedBit then 0x8000 else 0)
  [mask.extractLsb' 8 8, mask.extractLsb' 0 8]

/-- Optional fields as carried: the presence mask, then the present fields (R178). -/
def optionalBytes (fields : List (Option Byte)) (undefinedBit : Bool) : List Byte :=
  maskBytes fields undefinedBit ++ fields.filterMap fun v => v

/-- A two-byte value as carried. -/
def halfBytes (v : Half) : List Byte := [v.extractLsb' 8 8, v.extractLsb' 0 8]

/-- The fields that ANNOUNCE and PTT PROFILE SET share, as carried (12.2.1 note 2). -/
def announceBytes (x : AnnounceBody) : List Byte :=
  [x.cls, x.zones, x.attrMask, x.mode, x.chime, x.duck, x.attack, x.release, x.level, x.card] ++ halfBytes x.lead ++
    halfBytes x.tail ++ halfBytes x.maxLive

/-- A note of CHIME LOAD as carried (12.2.1 note 3). -/
def noteBodyBytes (n : NoteBody) : List Byte := [n.tone, n.duty] ++ halfBytes n.duration ++ [n.a0, n.decay]

/-- The counted bytes of the record that a host request arrives in (R177, R178, 12.2.1); `none` for an event. The byte order
in the bodies of BERTH EDIT, LINE SETUP, PROGRAMME SETUP, CUT and MIX READ is the model's choice (log entry 19). -/
def requestBytes : Instr → Option (List Byte)
  | .berthRead b => some [0x01, b]
  | .berthStage b x => some (0x02 :: b :: optionalBytes [x.programme, x.track, x.picture, x.volume, x.zone, x.language, x.dnd,
      x.lock, x.tag0, x.tag1, x.tag2, x.tag3] x.undefinedBit)
  | .stageDiscard => some [0x03]
  | .commit => some [0x04]
  | .berthEdit z am md op d x => some [0x05, z, am, md, op, d, x]
  | .lineSetup l c => some [0x06, l, c]
  | .lineRead l => some [0x07, l]
  | .lineRestart l => some [0x08, l]
  | .lineStop l => some [0x09, l]
  | .berthLinkRead b => some [0x0A, b]
  | .berthLinkClear b => some [0x0B, b]
  | .programmeSetup p pic n t0 t1 c => some [0x0C, p, pic, n, t0, t1, c]
  | .programmeTrim p x => some (0x0D :: p :: optionalBytes [x.trim0, x.trim1, x.stillCard] x.undefinedBit)
  | .programmeRead x => some [0x0E, x]
  | .laneRead l => some [0x0F, l]
  | .announce x deadline => some (0x10 :: announceBytes x ++ halfBytes deadline)
  | .announcementRead x c => some [0x11, x, c]
  | .pttProfileSet m x => some (0x12 :: m :: announceBytes x)
  | .cut h m => some [0x13, h, m]
  | .finishedRead i => some [0x14, i]
  | .chimeLoad p notes => some (0x15 :: p :: BitVec.ofNat 8 notes.length :: notes.flatMap noteBodyBytes)
  | .chimeRead p => some [0x16, p]
  | .mixRead b c => some [0x17, b, c]
  | .coachSet x => some (0x18 :: optionalBytes [x.quiet, x.limit, x.alarmCard, x.busyCard] x.undefinedBit)
  | .coachRead => some [0x19]
  | .alarmRelease => some [0x1A]
  | .callTake => some [0x1B]
  | .callClear b => some [0x1C, b]
  | .start => some [0x1D]
  | .restart => some [0x1E]
  | .statusRead => some [0x1F]
  | .eventsRead => some [0x20]
  | .eventsClear v => some (0x20 :: halfBytes v)
  | .eventsEnable v => some (0x21 :: halfBytes v)
  | .controlFrameReceived _ => none
  | .frameTimeout => none
  | .requestTakenLinkRefusal _ _ => none
  | .replySent => none
  | .resetNLow => none
  | .resetNHigh => none
  | .blockStart _ _ _ => none
  | .trackStarved _ _ => none
  | .queueDeadlineExpiry _ => none
  | .leadEnd _ => none
  | .envelopeDecayStep _ => none
  | .chimeNoteEnd _ => none
  | .chimeEnd _ => none
  | .maximumLiveReached _ => none
  | .starvationRunLimit _ => none
  | .tailEnd _ => none
  | .commitDue => none
  | .replySlotComplete _ _ => none
  | .berthDropped _ _ => none
  | .berthConflict _ => none
  | .driveConflict _ => none
  | .mediaFrame _ => none
  | .pttPress _ => none
  | .pttRelease _ => none
  | .alarmInPress => none
  | .alarmInRelease => none
  | .ctlRxByte _ => none
  | .contactSample _ _ => none

/-- The body length given for a kind of fixed length, kind 00h first; 0 where the length is not fixed (12.2.1). -/
def fixedBodyLengths : List Nat :=
  [0, 1, 0, 0, 0, 6, 2, 1, 1, 1, 1, 1, 6, 0, 1, 1, 18, 2, 17, 2, 1, 0, 1, 2, 0, 0, 0, 0, 1, 0, 0, 0, 0, 2]

/-- The bytes that a presence mask counts for the first `n` optional fields. -/
def countedFields (hi lo : Byte) (n : Nat) : Nat := (List.range n).countP fun k => (halfOf hi lo).getLsbD k

/-- A body whose length fits its kind (R178). -/
def BodyFits (kind : Byte) (body : List Byte) : Prop :=
  match kind.toNat with
  | 0x02 => ∃ b hi lo rest, body = b :: hi :: lo :: rest ∧ rest.length = countedFields hi lo 12
  | 0x0D => ∃ p hi lo rest, body = p :: hi :: lo :: rest ∧ rest.length = countedFields hi lo 3
  | 0x15 => ∃ p n rest, body = p :: n :: rest ∧ rest.length = 6 * n.toNat
  | 0x18 => ∃ hi lo rest, body = hi :: lo :: rest ∧ rest.length = countedFields hi lo 4
  | 0x20 => body.length = 0 ∨ body.length = 2
  | k => fixedBodyLengths[k]? = some body.length

/-- The bytes of a whole frame with given counted bytes and check byte, each with a good stop bit (R177). -/
def frameOf (counted : List Byte) (check : Byte) : List RxByte :=
  (0xA5 :: BitVec.ofNat 8 counted.length :: counted ++ [check]).map fun d => ⟨d, true⟩

/-- The 8-bit sum of length, counted bytes and check byte (R177). -/
def frameSum (counted : List Byte) (check : Byte) : Byte := (BitVec.ofNat 8 counted.length :: counted ++ [check]).sum

/-- The Coach Input Unit with the filter of one contact replaced. -/
def withFilter (k : Coach) (c : Contact) (f : Filter) : Coach :=
  match c with
  | .pttD => { k with pttD := f }
  | .pttC => { k with pttC := f }
  | .alarmIn => { k with alarmIn := f }

/-- The command of an edge of a contact to the state `active` (R156). -/
def edgeCommand (c : Contact) (active : Bool) : Instr :=
  match c, active with
  | .pttD, true => .pttPress .d
  | .pttD, false => .pttRelease .d
  | .pttC, true => .pttPress .c
  | .pttC, false => .pttRelease .c
  | .alarmIn, true => .alarmInPress
  | .alarmIn, false => .alarmInRelease

/-- The part with its Control Link as given and LINK_ERROR raised (R166, R167). -/
def linkErrorWith (s : State) (k : ControlLink) : State :=
  { s with link := k, events := { s.events with flags := s.events.flags ||| eventMask .linkError } }

/-- Bytes received on CTL_RX one after the other (R165). -/
def Received : List RxByte → State → State → Prop
  | [], s, t => t = s
  | x :: rest, s, t => ∃ u, exec (.ctlRxByte x) s = .next u ∧ Received rest u t

end Sys2Proof.Machine
end

