-- ==== Sys2Proof/WellFormed.lean ====
section
/-! DEFINITION. Which commands the ports can carry: the checks on operands whose types do not make them already. -/

namespace Sys2Proof

/-- A list of counted bytes has a length that the length byte can carry: 1 to 65 (R165). -/
def carriesCounted (counted : List Byte) : Bool := decide (1 ≤ counted.length) && decide (counted.length ≤ 65)

/-- The bytes of one frame in receipt: at least one, and at most the 68 of the longest frame (R166). -/
def carriesFrame (bytes : List RxByte) : Bool := decide (1 ≤ bytes.length) && decide (bytes.length ≤ 68)

/-- A CHIME LOAD whose body is at most 64 bytes: 2 and 6 for each note (R177, R178). -/
def carriesNotes (notes : List NoteBody) : Bool := decide (2 + 6 * notes.length ≤ 64)

/-- The bytes between an Ethernet header and the check sequence: 46 to 1500 (PRESUMED from the Ethernet standard that R49
cites; log entry 7). -/
def carriesEthernet (bytes : List Byte) : Bool := decide (46 ≤ bytes.length) && decide (bytes.length ≤ 1500)

/-- A command that the part's ports can carry. -/
def Instr.wellFormed : Instr → Bool
  | .chimeLoad _ notes => carriesNotes notes
  | .controlFrameReceived bytes => carriesFrame bytes
  | .requestTakenLinkRefusal counted _ => carriesCounted counted
  | .blockStart _ _ first => decide first.Nodup
  | .mediaFrame frame => carriesEthernet frame.bytes
  | .berthRead _ => true
  | .berthStage _ _ => true
  | .stageDiscard => true
  | .commit => true
  | .berthEdit _ _ _ _ _ _ => true
  | .lineSetup _ _ => true
  | .lineRead _ => true
  | .lineRestart _ => true
  | .lineStop _ => true
  | .berthLinkRead _ => true
  | .berthLinkClear _ => true
  | .programmeSetup _ _ _ _ _ _ => true
  | .programmeTrim _ _ => true
  | .programmeRead _ => true
  | .laneRead _ => true
  | .announce _ _ => true
  | .announcementRead _ _ => true
  | .pttProfileSet _ _ => true
  | .cut _ _ => true
  | .finishedRead _ => true
  | .chimeRead _ => true
  | .mixRead _ _ => true
  | .coachSet _ => true
  | .coachRead => true
  | .alarmRelease => true
  | .callTake => true
  | .callClear _ => true
  | .start => true
  | .restart => true
  | .statusRead => true
  | .eventsRead => true
  | .eventsClear _ => true
  | .eventsEnable _ => true
  | .frameTimeout => true
  | .replySent => true
  | .resetNLow => true
  | .resetNHigh => true
  | .trackStarved _ _ => true
  | .queueDeadlineExpiry _ => true
  | .leadEnd _ => true
  | .envelopeDecayStep _ => true
  | .chimeNoteEnd _ => true
  | .chimeEnd _ => true
  | .maximumLiveReached _ => true
  | .starvationRunLimit _ => true
  | .tailEnd _ => true
  | .commitDue => true
  | .replySlotComplete _ _ => true
  | .berthDropped _ _ => true
  | .berthConflict _ => true
  | .driveConflict _ => true
  | .pttPress _ => true
  | .pttRelease _ => true
  | .alarmInPress => true
  | .alarmInRelease => true
  | .ctlRxByte _ => true
  | .contactSample _ _ => true

end Sys2Proof
end

