-- ==== Sys2Proof/Certificates/Slice0/Obligations.lean ====
section
/-! DEFINITION. The statements for the provers. -/

open Sys2Proof Sys2Proof.Machine

/-! ## The queue of commands, RESET_N and the taking of requests (chapter 11) -/

/-- A step is the command at the front of the queue carried out with the queue's rest; an empty queue leaves the part as it
is (the model's choice, log entry 1). -/
def Obligations.StepTakesFrontCommand : Prop :=
  (∀ (c : Instr) (rest : List Instr) (s : State),
      step { s with pending := c :: rest } = exec c { s with pending := rest }) ∧
    ∀ s : State, s.pending = [] → step s = .next s

/-- No command changes the queue of commands that wait (the model's own field, log entry 1). -/
def Obligations.ExecKeepsQueue : Prop :=
  ∀ (c : Instr) (s t : State), exec c s = .next t → t.pending = s.pending

/-- While RESET_N is low the part takes nothing but the pin's return, and CTL_RTR and ATTN are deasserted; the pin going low
cuts a reply short and leaves every line undriven (R171, R168, R28 note 1); what else the part holds meanwhile is the model's
choice (log entry 13). -/
def Obligations.ResetNLowTakesNothing : Prop :=
  (∀ (c : Instr) (s : State), s.resetLow = true → c ≠ .resetNHigh →
      exec c s = .next s ∧ s.attn = false ∧ s.ctlRtr = false) ∧
    ∀ s : State, Up s → ∃ t, exec .resetNLow s = .next t ∧
      t = { s with resetLow := true, link := { s.link with tx := .free }, lines := t.lines } ∧
      ∀ l, t.line l = { s.line l with frame := none, slotOpen := false, frameDue := false }

/-- R168: a request that finds a reply being sent is carried out as it would be once that reply has been sent, the records
that wait ahead of it thus one after the other; with the transmitter FREE nothing goes before it: it is taken at once, its
own reply starts, and nothing else of the Control Link changes (how a command stands for a record is the model's choice,
log entry 2). -/
def Obligations.RequestsWaitForEarlierReplies : Prop :=
  ∀ (c : Instr) (k : Byte) (s : State), requestKind c = some k → Up s →
    (∀ r : Reply, s.link.tx = .sending r false → ∃ t, exec .replySent s = .next t ∧ exec c s = exec c t) ∧
    (s.link.tx = .free → ∃ (r : Reply) (t : State), exec c s = .next t ∧ r.kind = k ∧
      t.link = { s.link with tx := .sending r (decide (k = 0x1E)) })

/-- The part keeps its state in the ranges the spec gives: every item that RangesHold names, finished records among them.
Audience and peak audience, 0 to 48 (R86, R131), need what floors say of them and are bounded with
EveryStepKeepsAnnouncements. -/
def Obligations.EveryStepKeepsRanges : Prop :=
  ∀ s t : State, RangesHold s → step s = .next t → RangesHold t

/-- Lines, presence, picture lane fields, lanes and wait lists go on agreeing with one another. -/
def Obligations.EveryStepKeepsLanes : Prop :=
  ∀ s t : State, LanesHold s → step s = .next t → LanesHold t

/-- The Announcement Table, its queue, the recorded buffer, the voices and the floors go on agreeing with one another, and
audience, peak audience and the peaks of finished records stay within 0 to 48. That a QUEUED entry is read as QUEUED speaks
of the model's own field (log entry 20). -/
def Obligations.EveryStepKeepsAnnouncements : Prop :=
  ∀ s t : State, AnnouncementsHold s → step s = .next t → AnnouncementsHold t

/-- The three invariants hold of the part right after a device reset. -/
def Obligations.InvariantsHoldAtReset : Prop :=
  RangesHold State.reset ∧ LanesHold State.reset ∧ AnnouncementsHold State.reset

/-! ## Device reset -/

/-- R9: every berth record and the commit-pending flag after a device reset, which raises no COMMIT_DONE. -/
def Obligations.DeviceResetBerthRecords : Prop :=
  AfterDeviceReset fun t =>
    (∀ b, (t.live b).presence = .excluded ∧ (t.live b).programme = none ∧ (t.live b).track = 0 ∧
      (t.live b).picture = false ∧ (t.live b).volume = 32 ∧ (t.live b).zone = 0 ∧ (t.live b).language = 0 ∧
      (∀ n, n < 8 → hasAttr (t.live b).attrs n = false) ∧ (t.live b).lane = .none ∧ t.staged b = .empty) ∧
    t.commitPending = false ∧ t.flag .commitDone = false

/-- R28: every Line Controller after a device reset; the frame and the reply slot in progress are abandoned. -/
def Obligations.DeviceResetLineControllers : Prop :=
  AfterDeviceReset fun t =>
    ∀ l, (t.line l).state = .off ∧ (t.line l).fitted = 0 ∧ (t.line l).framesSent = 0 ∧ (t.line l).faultCount = 0 ∧
      (t.line l).frame = none ∧ (t.line l).slotOpen = false ∧ (∀ n, (t.line l).queues.get n = []) ∧
      ∀ k, t.presence (berthAt l k) = .excluded ∧
        let r := (t.line l).links.get k
        r.missCount = 0 ∧ r.collisionRun = 0 ∧ r.framingFlag = false ∧ r.checkFlag = false ∧ r.collisionFlag = false ∧
          r.errorSum = false ∧ r.takenToggle = false ∧ r.good = 0 ∧ r.silent = 0 ∧ r.framing = 0 ∧ r.check = 0 ∧
          r.collision = 0

/-- The other blocks after a device reset: Control Link and events (R171, R173), programmes, tracks and recorded buffer (R49,
R51, R55, R63), lanes (R67, R68, R70), announcements and profiles (R90, R99), voices (R137), floors and mix (R121, R144),
filters, latch, settings and calls (R155, R157, R159, R162), and the default notes of the pattern table (R134). -/
def Obligations.DeviceResetOtherBlocks : Prop :=
  AfterDeviceReset fun t =>
    (t.device = .config ∧ t.blockCount = 0 ∧ t.link = ⟨.hunt, 0, [], .free, 0, 0, 0, 0, 0⟩ ∧ t.ctlRtr = true ∧
      t.attn = true ∧ (∀ e, t.flag e = true ↔ e = .restarted) ∧ ∀ i, i < 13 → t.events.enables.getLsbD i = true) ∧
    (∀ p, let r := t.programme p
      r.picture = false ∧ r.trackCount = 1 ∧ r.trim0 = 0 ∧ r.trim1 = 0 ∧ r.stillCard = 0 ∧ r.received = 0 ∧
        r.unplaced = 0) ∧
    (∀ p k, let x := t.track p k
      x.state = .idle ∧ x.expected = 0 ∧ (∀ i, x.slots.get i = none) ∧ x.lastGood = none ∧ x.concealUsed = false ∧
        x.missRun = 0 ∧ x.accepted = 0 ∧ x.concealed = 0 ∧ x.silent = 0 ∧ x.skipped = 0 ∧ x.late = 0) ∧
    (t.media.recorded = ⟨none, [], 0, 0, 0, 0, 0⟩ ∧ t.media.port = ⟨0, 0, 0, 0, 0, 0, 0⟩) ∧
    (∀ l, (t.laneSet l).waits = [] ∧ ∀ n, (t.laneSet l).lanes.get n = .free ∧ (t.laneSet l).drops.get n = 0) ∧
    (t.ann.entries = [] ∧ t.ann.queue = [] ∧ t.ann.handleCounter = 1 ∧ t.ann.admissionCounter = 0 ∧
      t.ann.finished = [] ∧ t.ann.driver = ⟨1, 0xFF, 0, .none, some 0, 40, 4, 2, 8, 0, 200, 300, 60000⟩ ∧
      t.ann.crew = ⟨0, 0xFF, 0, .none, some 1, 40, 4, 2, 8, 0, 200, 300, 60000⟩) ∧
    (∀ v, (t.voice v).playing = none) ∧
    (t.chimes.patterns.get 0 = [⟨some 1, 4, 300, 8, 20⟩, ⟨some 5, 4, 400, 8, 20⟩] ∧
      t.chimes.patterns.get 1 = [⟨some 2, 4, 250, 12, 25⟩] ∧
      t.chimes.patterns.get 2 = [⟨some 5, 4, 150, 10, 0⟩, ⟨some 3, 4, 150, 10, 0⟩, ⟨some 1, 4, 300, 10, 15⟩] ∧
      t.chimes.patterns.get 3 = [⟨some 0, 2, 120, 0, 0⟩, ⟨none, 4, 120, 0, 0⟩, ⟨some 0, 2, 120, 0, 0⟩,
        ⟨none, 4, 120, 0, 0⟩]) ∧
    (∀ b, let m := t.mixOf b
      m.floor = none ∧ m.duckTarget = 0 ∧ m.gateTarget = 127 ∧ m.duckStep = 1 ∧ m.gateStep = 1 ∧ m.duck = 0 ∧
        m.gate = 127 ∧ m.lastAp = 127 ∧ m.lastAa = 127 ∧ m.lastAc = 127 ∧ m.clipFlag = false ∧ m.clipCount = 0) ∧
    (∀ c, t.filter c = ⟨false, 0⟩) ∧
    t.coach.latch = false ∧ t.coach.quiet = 0 ∧ t.coach.limit = 0 ∧ t.coach.alarmCard = 1 ∧ t.coach.busyCard = 2 ∧
      t.coach.calls = []

/-! ## Requests that read -/

/-- BERTH READ and MIX READ (R11, R154; the form of the staged part is the model's reading, log entry 8): the reply's fields
as they stand when the request is taken. BERTH READ changes nothing; MIX READ sets the clip count to 0 after the reply's
values are taken when its clear option is set. -/
def Obligations.BerthAndMixReads : Prop :=
  ∀ (s : State) (n clear : Byte), Ready s →
    (48 ≤ n.toNat → exec (.berthRead n) s = .next (answered 0x01 .badField [] s) ∧
      exec (.mixRead n clear) s = .next (answered 0x17 .badField [] s)) ∧
    ∀ b : BerthNo, n.toNat = b.val →
      (let fields : List (Option Byte) :=
          [(s.staged b).programme.map fun p => BitVec.ofNat 8 ((p.map (·.val)).getD 255),
            (s.staged b).track.map fun k => BitVec.ofNat 8 k.val, (s.staged b).picture.map fun v => if v then 1 else 0,
            (s.staged b).volume.map fun v => BitVec.ofNat 8 v, (s.staged b).zone.map fun z => BitVec.ofNat 8 z.val,
            (s.staged b).language.map fun k => BitVec.ofNat 8 k.val, (s.staged b).dnd.map fun v => if v then 1 else 0,
            (s.staged b).lock.map fun v => if v then 1 else 0, (s.staged b).tag0.map fun v => if v then 1 else 0,
            (s.staged b).tag1.map fun v => if v then 1 else 0, (s.staged b).tag2.map fun v => if v then 1 else 0,
            (s.staged b).tag3.map fun v => if v then 1 else 0]
        ∃ hi lo : Byte, exec (.berthRead n) s = .next (answered 0x01 .done
          ([BitVec.ofNat 8 (codePresence (s.presence b)), BitVec.ofNat 8 (((s.live b).programme.map (·.val)).getD 255),
            BitVec.ofNat 8 (s.live b).track.val, if (s.live b).picture then 1 else 0, BitVec.ofNat 8 (s.live b).volume,
            BitVec.ofNat 8 (s.live b).zone.val, BitVec.ofNat 8 (s.live b).language.val, (s.live b).attrs,
            BitVec.ofNat 8 (codeLaneField (s.live b).lane), hi, lo] ++ fields.filterMap (fun v => v) ++
            [if s.commitPending then 1 else 0]) s) ∧
          ∀ k, k < 12 → (halfOf hi lo).getLsbD k = (fields.getD k none).isSome) ∧
      exec (.mixRead n clear) s = .next (answered 0x17 .done
        [(s.mixOf b).floor.getD 0, BitVec.ofNat 8 ((floorClass s b).getD 255), BitVec.ofNat 8 (s.mixOf b).duck,
          BitVec.ofNat 8 (s.mixOf b).gate, BitVec.ofNat 8 (s.mixOf b).duckTarget, BitVec.ofNat 8 (s.mixOf b).gateTarget,
          BitVec.ofNat 8 (s.mixOf b).duckStep, BitVec.ofNat 8 (s.mixOf b).gateStep,
          BitVec.ofNat 8 (max (s.live b).volume s.coach.limit), BitVec.ofNat 8 (s.mixOf b).lastAp,
          BitVec.ofNat 8 (s.mixOf b).lastAa, BitVec.ofNat 8 (s.mixOf b).lastAc,
          if (s.mixOf b).clipFlag then 1 else 0, BitVec.ofNat 8 ((s.mixOf b).clipCount / 256),
          BitVec.ofNat 8 (s.mixOf b).clipCount]
        (if clear = 0 then s else { s with mix := s.mix.set b { s.mixOf b with clipCount := 0 } }))

/-- LINE READ, BERTH LINK READ and LANE READ (R43, R46, R82) change nothing; each reply carries the values standing when the
request is taken. -/
def Obligations.LineLinkAndLaneReads : Prop :=
  ∀ (s : State) (n : Byte), Ready s →
    (4 ≤ n.toNat → exec (.lineRead n) s = .next (answered 0x07 .badField [] s) ∧
      exec (.laneRead n) s = .next (answered 0x0F .badField [] s)) ∧
    (48 ≤ n.toNat → exec (.berthLinkRead n) s = .next (answered 0x0A .badField [] s)) ∧
    (∀ l : LineNo, n.toNat = l.val →
      (∃ body, exec (.lineRead n) s = .next (answered 0x07 .done body s) ∧ body.length = 31 ∧
        body.take 7 = [BitVec.ofNat 8 (codeLineState (s.line l).state), BitVec.ofNat 8 (s.line l).fitted] ++
          byte4 (s.line l).framesSent.toNat ++ [BitVec.ofNat 8 (s.line l).faultCount] ∧
        ∀ k : SlotNo, body[7 + 2 * k.val]? = some (BitVec.ofNat 8 (codePresence (s.presence (berthAt l k)))) ∧
          body[8 + 2 * k.val]? = some (if (s.linkOf (berthAt l k)).errorSum then 1 else 0)) ∧
      ∃ body, exec (.laneRead n) s = .next (answered 0x0F .done body s) ∧
        (∀ m : LaneNo, ∀ p c, (s.laneSet l).lanes.get m = .carrying p c →
          (body.drop (6 * m.val)).take 3 = [1, BitVec.ofNat 8 p.val, BitVec.ofNat 8 c]) ∧
        (∀ m : LaneNo, (s.laneSet l).lanes.get m = .free → (body.drop (6 * m.val)).take 3 = [0, 0xFF, 0]) ∧
        (∀ m : LaneNo, (body.drop (6 * m.val + 3)).take 3 =
          [BitVec.ofNat 8 ((s.line l).queues.get m).length] ++ byte2 ((s.laneSet l).drops.get m)) ∧
        body.drop 24 = BitVec.ofNat 8 (s.laneSet l).waits.length ::
          (s.laneSet l).waits.map fun b => BitVec.ofNat 8 b.val) ∧
    ∀ b : BerthNo, n.toNat = b.val →
      exec (.berthLinkRead n) s = .next (answered 0x0A .done
        ([BitVec.ofNat 8 (codePresence (s.presence b)), BitVec.ofNat 8 (s.linkOf b).missCount,
          BitVec.ofNat 8 (s.linkOf b).collisionRun, if (s.linkOf b).framingFlag then 1 else 0,
          if (s.linkOf b).checkFlag then 1 else 0, if (s.linkOf b).collisionFlag then 1 else 0,
          if (s.linkOf b).framingFlag || (s.linkOf b).checkFlag || (s.linkOf b).collisionFlag then 1 else 0,
          if (s.linkOf b).takenToggle then 1 else 0] ++ byte2 (s.linkOf b).good ++ byte2 (s.linkOf b).silent ++
          byte2 (s.linkOf b).framing ++ byte2 (s.linkOf b).check ++ byte2 (s.linkOf b).collision) s)

/-- PROGRAMME READ and CHIME READ (R54, R143) change nothing; each reply carries the values standing when the request is
taken (the four slots, by what holds a block, as four bytes: the model's reading, log entry 8). -/
def Obligations.ProgrammeAndChimeReads : Prop :=
  ∀ (s : State) (n : Byte), Ready s →
    (8 ≤ n.toNat → n ≠ 0xFF → exec (.programmeRead n) s = .next (answered 0x0E .badField [] s)) ∧
    (4 ≤ n.toNat → exec (.chimeRead n) s = .next (answered 0x16 .badField [] s)) ∧
    (∀ p : ProgrammeNo, n.toNat = p.val →
      ∃ body, exec (.programmeRead n) s = .next (answered 0x0E .done body s) ∧ body.length = 47 ∧
        body.take 9 = [if (s.programme p).picture then 1 else 0, BitVec.ofNat 8 (s.programme p).trackCount,
          BitVec.ofNat 8 (s.programme p).trim0, BitVec.ofNat 8 (s.programme p).trim1,
          BitVec.ofNat 8 (s.programme p).stillCard] ++ byte2 (s.programme p).received.toNat ++
          byte2 (s.programme p).unplaced.toNat ∧
        ∀ k : TrackNo, (body.drop (9 + 19 * k.val)).take 2 =
            [BitVec.ofNat 8 (codeTrackState (s.track p k).state), (s.track p k).expected] ∧
          (body.drop (11 + 19 * k.val)).take 4 =
            ((List.finRange jitterSlots).map fun i => if ((s.track p k).slots.get i).isSome then 1 else 0) ∧
          (body.drop (15 + 19 * k.val)).take 13 =
            [if (s.track p k).lastGood.isSome then 1 else 0, if (s.track p k).concealUsed then 1 else 0,
              BitVec.ofNat 8 (s.track p k).missRun] ++ byte2 (s.track p k).accepted.toNat ++
            byte2 (s.track p k).concealed ++ byte2 (s.track p k).silent ++ byte2 (s.track p k).skipped ++
            byte2 (s.track p k).late) ∧
    (n = 0xFF → exec (.programmeRead n) s = .next (answered 0x0E .done
      (byte2 s.media.port.damaged ++ byte2 s.media.port.foreign ++ byte2 s.media.port.kind ++
        byte2 s.media.port.length ++ byte2 s.media.port.programme ++ byte2 s.media.port.track ++
        byte2 s.media.port.picture ++
        [BitVec.ofNat 8 s.media.recorded.blocks.length, s.media.recorded.target.getD 0] ++
        byte2 s.media.recorded.appended.toNat ++ byte2 s.media.recorded.taken.toNat ++ byte2 s.media.recorded.full ++
        byte2 s.media.recorded.stray ++ byte2 s.media.recorded.flushed) s)) ∧
    ∀ p : PatternNo, n.toNat = p.val →
      ∃ body, exec (.chimeRead n) s = .next (answered 0x16 .done body s) ∧
        let notes := s.chimes.patterns.get p
        body.head? = some (BitVec.ofNat 8 notes.length) ∧ body.length = 25 + 6 * notes.length ∧
        (∀ i x, notes[i]? = some x → (body.drop (1 + 6 * i)).take 6 =
          [BitVec.ofNat 8 ((x.tone.map (·.val)).getD 255), BitVec.ofNat 8 x.duty] ++ byte2 x.duration ++
            [BitVec.ofNat 8 x.a0, BitVec.ofNat 8 x.decay]) ∧
        ∀ v : Source, (body.drop (1 + 6 * notes.length + 8 * codeSource v)).take 8 =
          match (s.voice v).playing with
          | none => [0, 0, 0, 0, 0, 0, 0, 0]
          | some q => [1, q.entry, BitVec.ofNat 8 q.pattern.val, BitVec.ofNat 8 q.noteIndex] ++ byte2 q.blocksInto ++
              [BitVec.ofNat 8 q.samplePhase, BitVec.ofNat 8 q.env]

/-- ANNOUNCEMENT READ and FINISHED READ (R101, R119, R180) change nothing: by handle the table is read before the finished
list, by source the table alone; FINISHED READ carries at most 6 records of 9 bytes. The layout of a finished record in
ANNOUNCEMENT READ's reply is the model's choice (log entry 8). -/
def Obligations.AnnouncementAndFinishedReads : Prop :=
  ∀ (s : State) (x c : Byte), Ready s →
    let inTable := fun e : Entry =>
      [0, e.handle, BitVec.ofNat 8 (codeSource e.source), BitVec.ofNat 8 e.params.cls, e.params.zones, e.params.attrMask,
        BitVec.ofNat 8 (codeMode e.params.mode), BitVec.ofNat 8 ((e.params.chime.map (·.val)).getD 255),
        BitVec.ofNat 8 e.params.duck, BitVec.ofNat 8 e.params.attack, BitVec.ofNat 8 e.params.release,
        BitVec.ofNat 8 e.params.level, BitVec.ofNat 8 e.params.card] ++ byte2 e.params.lead ++ byte2 e.params.tail ++
        byte2 e.params.maxLive ++ byte2 e.deadline ++ byte4 e.admission.toNat ++ [BitVec.ofNat 8 (codePhase e.phase)] ++
        byte2 e.timer ++ byte2 e.liveCount ++ [BitVec.ofNat 8 e.audience, BitVec.ofNat 8 e.peak,
        if e.earlyRelease then 1 else 0, BitVec.ofNat 8 ((e.endReason.map codeEndReason).getD 0)] ++
        byte2 e.starvation ++ [BitVec.ofNat 8 (queuePosition s e.handle)]
    ((x ≠ 0 ∧ x ≠ 1 ∨ x = 0 ∧ c = 0 ∨ x = 1 ∧ 3 ≤ c.toNat) →
      exec (.announcementRead x c) s = .next (answered 0x11 .badField [] s)) ∧
    (x = 0 → c ≠ 0 →
      match s.ann.entries.find? fun e => e.handle = c with
      | some e => exec (.announcementRead x c) s = .next (answered 0x11 .done (inTable e) s)
      | none =>
        match s.ann.finished.find? fun r => r.handle = c with
        | some r => exec (.announcementRead x c) s = .next (answered 0x11 .done
            ([1, r.handle, BitVec.ofNat 8 (codeSource r.source), BitVec.ofNat 8 r.cls,
              BitVec.ofNat 8 (codeEndReason r.endReason), BitVec.ofNat 8 r.peak] ++ byte2 r.liveBlocks ++
              byte4 r.blockCount.toNat) s)
        | none => exec (.announcementRead x c) s = .next (answered 0x11 .notFound [] s)) ∧
    (∀ v : Source, x = 1 → c.toNat = codeSource v →
      match s.ann.entries.find? fun e => e.source = v ∧ e.phase ≠ .queued with
      | some e => exec (.announcementRead x c) s = .next (answered 0x11 .done (inTable e) s)
      | none => exec (.announcementRead x c) s = .next (answered 0x11 .notFound [] s)) ∧
    (8 ≤ x.toNat → exec (.finishedRead x) s = .next (answered 0x14 .badField [] s)) ∧
    (x.toNat < 8 →
      ∃ records, exec (.finishedRead x) s = .next (answered 0x14 .done
        ([BitVec.ofNat 8 s.ann.finished.length, x] ++ records) s) ∧
        records.length = 9 * min 6 (s.ann.finished.length - x.toNat) ∧
        ∀ i r, i < 6 → s.ann.finished[x.toNat + i]? = some r → r.cls ≤ 3 →
          ∃ packed : Byte, (records.drop (9 * i)).take 9 =
            [r.handle, packed, BitVec.ofNat 8 r.peak] ++ byte2 r.liveBlocks ++ byte4 r.blockCount.toNat ∧
            packed.toNat / 64 = codeSource r.source ∧ packed.toNat / 16 % 4 = r.cls ∧ packed.getLsbD 3 = false ∧
            packed.toNat % 8 = codeEndReason r.endReason)

/-- COACH READ, STATUS READ and EVENTS READ (R161, R172, R175) change nothing; each reply carries the values standing
when the request is taken (a filtered state as set for ACTIVE, and the 13 flags and 13 enables each as one two-byte value:
the model's readings, log entry 8). -/
def Obligations.CoachStatusAndEventsReads : Prop :=
  ∀ s : State, Ready s →
    exec .coachRead s = .next (answered 0x19 .done
      ([BitVec.ofNat 8 s.coach.quiet, BitVec.ofNat 8 s.coach.limit, BitVec.ofNat 8 s.coach.alarmCard,
        BitVec.ofNat 8 s.coach.busyCard, if s.coach.pttD.active then 1 else 0, if s.coach.pttC.active then 1 else 0,
        if s.coach.alarmIn.active then 1 else 0, if s.coach.latch then 1 else 0] ++ byte4 s.blockCount.toNat ++
        [BitVec.ofNat 8 s.coach.calls.length]) s) ∧
    exec .statusRead s = .next (answered 0x1F .done
      ([if s.device = .run then 1 else 0] ++ byte4 s.blockCount.toNat ++ byte2 s.link.badLength ++
        byte2 s.link.stopBit ++ byte2 s.link.timeout ++ byte2 s.link.overrun ++ byte2 s.link.check) s) ∧
    exec .eventsRead s = .next (answered 0x20 .done (byte2 s.events.flags.toNat ++ byte2 s.events.enables.toNat) s)

/-! ## Staging, commit and BERTH EDIT (chapter 1) -/

/-- R12, R13: BERTH STAGE's four tests in their order, and what an accepted one stores. -/
def Obligations.BerthStageStoresNamedFields : Prop :=
  ∀ (s : State) (n : Byte) (x : StageBody), Ready s →
    (48 ≤ n.toNat → exec (.berthStage n x) s = .next (answered 0x02 .badField [] s)) ∧
    ∀ b : BerthNo, n.toNat = b.val →
      let unfit := (∃ v, x.programme = some v ∧ 8 ≤ v.toNat ∧ v ≠ 0xFF) ∨ (∃ v, x.track = some v ∧ 2 ≤ v.toNat) ∨
        (∃ v, x.zone = some v ∧ 8 ≤ v.toNat) ∨ ∃ v, x.language = some v ∧ 2 ≤ v.toNat
      (s.presence b = .excluded → exec (.berthStage n x) s = .next (answered 0x02 .badField [] s)) ∧
      (s.presence b ≠ .excluded → s.commitPending = true →
        exec (.berthStage n x) s = .next (answered 0x02 .busy [] s)) ∧
      (s.presence b ≠ .excluded → s.commitPending = false → x.undefinedBit = true ∨ unfit →
        exec (.berthStage n x) s = .next (answered 0x02 .badField [] s)) ∧
      (s.presence b ≠ .excluded → s.commitPending = false → x.undefinedBit = false → ¬ unfit →
        ∃ g : StagedRecord,
          exec (.berthStage n x) s = .next (answered 0x02
            (if x.volume.any fun v => decide (96 < v.toNat) then .clamped else .done) [n]
            { s with berths := s.berths.set b { s.berth b with staged := g } }) ∧
          StagedAs ReadsProgramme x.programme (s.staged b).programme g.programme ∧
          StagedAs ReadsFin x.track (s.staged b).track g.track ∧
          StagedAs ReadsFlag x.picture (s.staged b).picture g.picture ∧
          StagedAs (fun v k => k = min 96 v.toNat) x.volume (s.staged b).volume g.volume ∧
          StagedAs ReadsFin x.zone (s.staged b).zone g.zone ∧
          StagedAs ReadsFin x.language (s.staged b).language g.language ∧
          StagedAs ReadsFlag x.dnd (s.staged b).dnd g.dnd ∧ StagedAs ReadsFlag x.lock (s.staged b).lock g.lock ∧
          StagedAs ReadsFlag x.tag0 (s.staged b).tag0 g.tag0 ∧ StagedAs ReadsFlag x.tag1 (s.staged b).tag1 g.tag1 ∧
          StagedAs ReadsFlag x.tag2 (s.staged b).tag2 g.tag2 ∧ StagedAs ReadsFlag x.tag3 (s.staged b).tag3 g.tag3)

/-- R14: STAGE DISCARD empties every staged record and counts those that were not empty. -/
def Obligations.StageDiscardEmptiesStaging : Prop :=
  ∀ s : State, Ready s →
    (s.commitPending = true → exec .stageDiscard s = .next (answered 0x03 .busy [] s)) ∧
    (s.commitPending = false →
      ∃ t, exec .stageDiscard s = .next (answered 0x03 .done
          [BitVec.ofNat 8 (allBerths.countP fun b => s.staged b ≠ .empty)] { s with berths := t }) ∧
        ∀ b, t.get b = { s.berth b with staged := .empty })

/-- COMMIT sets the flag or is refused with BUSY, and a pending commit is carried out at the start of the first block whose
count is a multiple of 12 (R15, R17): not before, and no later, wrap of the block count included. -/
def Obligations.CommitFallsDueAtPollCycle : Prop :=
  (∀ s : State, Ready s →
    (s.commitPending = true → exec .commit s = .next (answered 0x04 .busy [] s)) ∧
    (s.commitPending = false → exec .commit s = .next (answered 0x04 .done [] { s with commitPending := true }))) ∧
  ∀ (s : State) (micD micC : Block) (first : List BerthNo), Up s → s.boundary.opened = false → s.commitPending = true →
    ∃ t, exec (.blockStart micD micC first) s = .next t ∧ t.blockCount = s.blockCount + 1 ∧
      ((s.blockCount + 1).toNat % 12 = 0 → t.commitPending = false ∧ t.flag .commitDone = true) ∧
      ((s.blockCount + 1).toNat % 12 ≠ 0 → t.commitPending = true ∧ t.flag .commitDone = s.flag .commitDone)

/-- R16: a commit that has fallen due writes each present staged field into the live field of the same name, clamps the
Track and empties the staged records; berths with an empty one are not touched but for the lane a hand-over gives them. It
raises COMMIT_DONE and nothing else, clears the flag (R17), and changes of the lines only the send queues of lanes that it
frees. The lane work is the batch of the PRESENT berths whose Programme or Picture it changed: the wait-list releases, the
lane releases, then the acquisitions, each in berth-number order (R76). COMMIT_DUE takes that one step of the block
start and does nothing without its cause (the model's choice, log entry 3). -/
def Obligations.CommitDueCarriesStagedFields : Prop :=
  ∀ s : State, Up s →
    let o := openBoundary s
    (o.boundary.commitDue = false → exec .commitDue s = .next s) ∧
    (o.boundary.commitDue = true →
      ∃ t, exec .commitDue s = .next t ∧
        t = { o with berths := t.berths, lanes := t.lanes, lines := t.lines, commitPending := false,
                     events := { o.events with flags := o.events.flags ||| eventMask .commitDone },
                     boundary := { o.boundary with commitDue := false } } ∧
        (∀ l, t.line l = { o.line l with queues := (t.line l).queues } ∧ (t.laneSet l).drops = (o.laneSet l).drops ∧
          ∀ n, (t.line l).queues.get n = (o.line l).queues.get n ∨ (t.line l).queues.get n = []) ∧
        (∀ b, t.staged b = .empty) ∧
        (∀ b, o.staged b = .empty → t.live b = { o.live b with lane := (t.live b).lane }) ∧
        (∀ b, o.staged b ≠ .empty →
          let g := o.staged b
          let r := o.live b
          let k := g.track.getD r.track
          let p := g.programme.getD r.programme
          t.live b = { presence := r.presence, programme := p, picture := g.picture.getD r.picture,
                       track := if p.all fun q => k.val < (o.programme q).trackCount then k else 0,
                       volume := g.volume.getD r.volume, zone := g.zone.getD r.zone,
                       language := g.language.getD r.language, attrs := (t.live b).attrs, lane := (t.live b).lane } ∧
          ∀ n, n < 8 → hasAttr (t.live b).attrs n =
            ([none, none, g.dnd, g.lock, g.tag0, g.tag1, g.tag2, g.tag3].getD n none).getD (hasAttr r.attrs n)) ∧
        let batch := allBerths.filter fun b => decide (o.presence b = .present ∧
          ((t.live b).programme ≠ (o.live b).programme ∨ (t.live b).picture ≠ (o.live b).picture))
        ∃ c u v w, (c = { o with berths := c.berths } ∧
            ∀ b, c.berth b = { t.berth b with live := { t.live b with lane := (o.live b).lane } }) ∧
          InTurn ReleasedWait batch c u ∧ InTurn ReleasedLane batch u v ∧ InTurn Acquired batch v w ∧
          t.berths = w.berths ∧ t.lanes = w.lanes ∧ t.lines = w.lines)

/-- R19: what an attribute test of each mode asks; with an empty mask ALL SET and ALL CLEAR pass, ANY SET and ANY CLEAR
fail. Announcement targeting evaluates it on the live attributes, beside presence, zone and threshold (R122, R123). -/
def Obligations.AttributeTestsAndEligibility : Prop :=
  (∀ (mode : TestMode) (mask attrs : Byte), passesTest mode mask attrs = true ↔ PassesR19 mode mask attrs) ∧
  (∀ attrs : Byte, passesTest .allSet 0 attrs = true ∧ passesTest .allClear 0 attrs = true ∧
    passesTest .anySet 0 attrs = false ∧ passesTest .anyClear 0 attrs = false) ∧
  ∀ (s : State) (b : BerthNo) (e : Entry),
    eligible s b e = true ↔ s.presence b = .present ∧ e.params.zones.getLsbD (s.live b).zone.val = true ∧
      PassesR19 e.params.mode e.params.attrMask (s.live b).attrs ∧
      (if s.coach.latch then 3 else if hasAttr (s.live b).attrs attrDnd then max s.coach.quiet 2 else s.coach.quiet) ≤
        e.params.cls

/-- R20, R21: BERTH EDIT's refusals, its selection, and the destination attribute of each selected berth, read as it stood
before the edit. That a source of 8 or more is refused for SET, CLEAR and TOGGLE too is the model's inference (log entry
16). -/
def Obligations.BerthEditSetsDestination : Prop :=
  ∀ (s : State) (zones mask mode op dst src : Byte), Ready s →
    ((5 ≤ mode.toNat ∨ 7 ≤ op.toNat ∨ 8 ≤ dst.toNat ∨ 8 ≤ src.toNat ∨ dst.toNat < 2) →
      exec (.berthEdit zones mask mode op dst src) s = .next (answered 0x05 .badField [] s)) ∧
    ∀ (m : TestMode) (o : EditOp),
      [TestMode.none, .allSet, .allClear, .anySet, .anyClear][mode.toNat]? = some m →
      [EditOp.set, .clear, .toggle, .copy, .and, .or, .xor][op.toNat]? = some o →
      2 ≤ dst.toNat → dst.toNat < 8 → src.toNat < 8 →
      let selected := fun b : BerthNo => s.presence b != .excluded && zones.getLsbD (s.live b).zone.val &&
        passesTest m mask (s.live b).attrs
      let old := fun b : BerthNo => hasAttr (s.live b).attrs dst.toNat
      let source := fun b : BerthNo => hasAttr (s.live b).attrs src.toNat
      let new := fun b : BerthNo =>
        match o with
        | .set => true
        | .clear => false
        | .toggle => !old b
        | .copy => source b
        | .and => old b && source b
        | .or => old b || source b
        | .xor => old b != source b
      ∃ t, exec (.berthEdit zones mask mode op dst src) s = .next (answered 0x05 .done
          [BitVec.ofNat 8 (allBerths.countP selected),
            BitVec.ofNat 8 (allBerths.countP fun b => selected b && new b != old b)] { s with berths := t }) ∧
        ∀ b, (selected b = false → t.get b = s.berth b) ∧
          (selected b = true →
            t.get b = { s.berth b with live := { s.live b with attrs := (t.get b).live.attrs } } ∧
            ∀ n, n < 8 → hasAttr (t.get b).live.attrs n = if n = dst.toNat then new b else hasAttr (s.live b).attrs n)

/-! ## Berth lines (chapter 2) -/

/-- R30: LINE SETUP's tests, the fitted count, each slot's presence and the cleared link records; each change from
EXCLUDED to ABSENT raises BERTH_PRESENCE (R42). A line it is accepted on has no PRESENT or CONFLICT berth (R3), which
LanesHold says. -/
def Obligations.LineSetupStoresFittedCount : Prop :=
  ∀ (s : State) (line count : Byte), Ready s → LanesHold s →
    (4 ≤ line.toNat → exec (.lineSetup line count) s = .next (answered 0x06 .badField [] s)) ∧
    ∀ l : LineNo, line.toNat = l.val →
      (s.device = .run → (s.line l).state ≠ .off →
        exec (.lineSetup line count) s = .next (answered 0x06 .wrongState [] s)) ∧
      (s.device = .config ∨ (s.line l).state = .off → 12 < count.toNat →
        exec (.lineSetup line count) s = .next (answered 0x06 .badField [] s)) ∧
      (s.device = .config ∨ (s.line l).state = .off → count.toNat ≤ 12 →
        ∃ t, exec (.lineSetup line count) s = .next (answered 0x06 .done [line, count] t) ∧
          t = { s with lines := s.lines.set l { s.line l with fitted := count.toNat, links := .fill slotCount .clear },
                       berths := t.berths, events := { s.events with flags := t.events.flags } } ∧
          (∀ b, lineOf b ≠ l → t.berth b = s.berth b) ∧
          (∀ b, lineOf b = l → t.berth b = { s.berth b with live := { s.live b with
            presence := if (slotOf b).val < count.toNat then .absent else .excluded } }) ∧
          ∀ e, t.flag e = (s.flag e || (decide (e = .berthPresence) && (berthsOf l).any fun b =>
            decide ((slotOf b).val < count.toNat) && s.presence b == .excluded)))

/-- LINE STOP (R44) and a drive conflict in the time a RUNNING line sends (R34): the tests of LINE STOP in their order, and
what a line that leaves RUNNING or FAULTED leaves behind (R78). That DRIVE_CONFLICT acts as long as the line's frame and
reply slot are under way and does nothing otherwise is the model's choice (log entry 12); so is LINE STOP's DONE without a
body (log entry 8). -/
def Obligations.LinesStopAndFault : Prop :=
  (∀ (s : State) (line : Byte), Ready s → LanesHold s →
    (s.device = .config → exec (.lineStop line) s = .next (answered 0x09 .wrongState [] s)) ∧
    (s.device = .run → 4 ≤ line.toNat → exec (.lineStop line) s = .next (answered 0x09 .badField [] s)) ∧
    ∀ l : LineNo, line.toNat = l.val → s.device = .run →
      ((s.line l).state = .off → exec (.lineStop line) s = .next (answered 0x09 .done [] s)) ∧
      ((s.line l).state ≠ .off →
        ∃ t, exec (.lineStop line) s = .next (answered 0x09 .done [] t) ∧
          t = { s with lines := t.lines, lanes := t.lanes, berths := t.berths, mix := t.mix, ann := t.ann,
                       events := { s.events with flags := t.events.flags } } ∧
          LineLeft s t l .off (s.line l).faultCount ∧ ∀ e, e ≠ .berthPresence → t.flag e = s.flag e)) ∧
  ∀ (s : State) (l : LineNo), Up s → LanesHold s →
    ((s.line l).slotOpen = false → exec (.driveConflict l) s = .next s) ∧
    ((s.line l).slotOpen = true → (s.line l).state = .running →
      ∃ t, exec (.driveConflict l) s = .next t ∧
        t = { s with lines := t.lines, lanes := t.lanes, berths := t.berths, mix := t.mix, ann := t.ann,
                     events := { s.events with flags := t.events.flags } } ∧
        LineLeft s t l .faulted (min 255 ((s.line l).faultCount + 1)) ∧ t.flag .lineFault = true ∧
        ∀ e, e ≠ .berthPresence → e ≠ .lineFault → t.flag e = s.flag e)

/-- R45, R47: LINE RESTART's tests in their order and what it clears; BERTH LINK CLEAR, which keeps the miss count and the
taken toggle, and turns a CONFLICT berth ABSENT. That both answer DONE without a body is the model's choice (log entry
8). -/
def Obligations.LineRestartAndBerthLinkClear : Prop :=
  (∀ (s : State) (line : Byte), Ready s →
    (s.device = .config → exec (.lineRestart line) s = .next (answered 0x08 .wrongState [] s)) ∧
    (s.device = .run → 4 ≤ line.toNat → exec (.lineRestart line) s = .next (answered 0x08 .badField [] s)) ∧
    ∀ l : LineNo, line.toNat = l.val → s.device = .run →
      ((s.line l).state = .running ∨ (s.line l).fitted = 0 →
        exec (.lineRestart line) s = .next (answered 0x08 .wrongState [] s)) ∧
      ((s.line l).state ≠ .running → (s.line l).fitted ≠ 0 →
        exec (.lineRestart line) s = .next (answered 0x08 .done [] { s with lines := s.lines.set l { s.line l with
          state := .running, framesSent := 0, links := .fill slotCount .clear } }))) ∧
  ∀ (s : State) (n : Byte), Ready s →
    (48 ≤ n.toNat → exec (.berthLinkClear n) s = .next (answered 0x0B .badField [] s)) ∧
    ∀ b : BerthNo, n.toNat = b.val →
      let cleared := { s.linkOf b with framingFlag := false, checkFlag := false, collisionFlag := false, good := 0,
                                       silent := 0, framing := 0, check := 0, collision := 0 }
      let linesWith := fun r : LinkRecord =>
        s.lines.set (lineOf b) { s.line (lineOf b) with links := (s.line (lineOf b)).links.set (slotOf b) r }
      (s.presence b = .excluded → exec (.berthLinkClear n) s = .next (answered 0x0B .badField [] s)) ∧
      (s.presence b = .absent ∨ s.presence b = .present →
        exec (.berthLinkClear n) s = .next (answered 0x0B .done [] { s with lines := linesWith cleared })) ∧
      (s.presence b = .conflict →
        exec (.berthLinkClear n) s = .next (answered 0x0B .done []
          { s with
            lines := linesWith { cleared with collisionRun := 0 }
            berths := s.berths.set b { s.berth b with live := { s.live b with presence := .absent } }
            events := { s.events with flags := s.events.flags ||| eventMask .berthPresence } }))

/-- R40 (R4, R36, R42): a lost reply of a fitted ABSENT or PRESENT berth (SILENT, FRAMING or CHECK, as R36 and R182
class it) on its link record; at a miss count of 16 a PRESENT berth becomes ABSENT, which releases what it held of the lanes
(R72 to R74, R76). BERTH_DROPPED is that completion
alone, and without its cause does nothing (the model's choice, log entry 18). -/
def Obligations.LostRepliesRaiseMissCount : Prop :=
  ∀ (s : State) (l : LineNo) (b : BerthNo) (signal : SlotSignal), SlotOf s l b → LanesHold s →
    s.presence b = .absent ∨ s.presence b = .present →
    ∀ r' : LinkRecord,
      let r := s.linkOf b
      (signal = .silent ∧
          r' = { r with missCount := min 16 (r.missCount + 1), collisionRun := 0, silent := min 65535 (r.silent + 1) }) ∨
        (SentNoReply signal ∧
          r' = { r with missCount := min 16 (r.missCount + 1), framingFlag := true,
                        framing := min 65535 (r.framing + 1) }) ∨
        (∃ k a f v : Byte, signal = .sent [k, a, f, v] ∧ k + a + f + v ≠ 0 ∧
          r' = { r with missCount := min 16 (r.missCount + 1), checkFlag := true, check := min 65535 (r.check + 1) }) →
      (s.presence b = .absent ∨ r.missCount < 15 →
        exec (.replySlotComplete l signal) s = .next (slotDone s l b r') ∧ exec (.berthDropped l signal) s = .next s) ∧
      (s.presence b = .present → 15 ≤ r.missCount →
        ∃ t, exec (.replySlotComplete l signal) s = .next t ∧ exec (.berthDropped l signal) s = .next t ∧
          t = { slotDone s l b r' with berths := t.berths, lanes := t.lanes, mix := t.mix, ann := t.ann, lines := t.lines,
                                       events := { s.events with flags := s.events.flags ||| eventMask .berthPresence } } ∧
          LeftPresent s t b .absent ∧ LanesReleased (slotDone s l b r') t b ∧ OnlyAudiences s t ∧
          (∀ m, t.line m = { (slotDone s l b r').line m with queues := (t.line m).queues }) ∧
          ∀ c, c ≠ b → t.berth c = { s.berth c with live := { s.live c with lane := (t.live c).lane } } ∧
            t.mixOf c = s.mixOf c)

/-- R41, R35: a COLLISION of a fitted ABSENT or PRESENT berth, and CONFLICT at a run of 3, which BERTH_CONFLICT is alone
(the model's choice where its cause has not come, log entry 18) and which has a PRESENT berth release what it held of the
lanes (R4, R72 to R74, R76); the slot of a CONFLICT berth or at or above the fitted count is not examined; with no slot open
nothing happens. -/
def Obligations.CollisionsAndSlotsNotExamined : Prop :=
  (∀ (s : State) (l : LineNo) (b : BerthNo), SlotOf s l b → LanesHold s →
    s.presence b = .absent ∨ s.presence b = .present →
    let r' := { s.linkOf b with collisionFlag := true, collision := min 65535 ((s.linkOf b).collision + 1),
                                collisionRun := min 3 ((s.linkOf b).collisionRun + 1) }
    ((s.linkOf b).collisionRun < 2 →
      exec (.replySlotComplete l .collision) s = .next (slotDone s l b r') ∧ exec (.berthConflict l) s = .next s) ∧
    (2 ≤ (s.linkOf b).collisionRun →
      ∃ t, exec (.replySlotComplete l .collision) s = .next t ∧ exec (.berthConflict l) s = .next t ∧
        t = { slotDone s l b r' with berths := t.berths, lanes := t.lanes, mix := t.mix, ann := t.ann, lines := t.lines,
                                     events := { s.events with flags := s.events.flags ||| eventMask .berthPresence } } ∧
        (s.presence b = .present → LeftPresent s t b .conflict ∧ LanesReleased (slotDone s l b r') t b) ∧
        (s.presence b = .absent →
          t = { slotDone s l b r' with
                berths := s.berths.set b { s.berth b with live := { s.live b with presence := .conflict } }
                events := { s.events with flags := s.events.flags ||| eventMask .berthPresence } }) ∧
        OnlyAudiences s t ∧ (∀ m, t.line m = { (slotDone s l b r').line m with queues := (t.line m).queues }) ∧
        ∀ c, c ≠ b → t.berth c = { s.berth c with live := { s.live c with lane := (t.live c).lane } } ∧
          t.mixOf c = s.mixOf c)) ∧
  (∀ (s : State) (l : LineNo) (signal : SlotSignal), Up s → (s.line l).slotOpen = true →
    (∀ b, SlotOf s l b → s.presence b = .conflict) →
    exec (.replySlotComplete l signal) s = .next { s with lines := s.lines.set l { s.line l with slotOpen := false } }) ∧
  ∀ (s : State) (l : LineNo) (signal : SlotSignal), Up s → (s.line l).slotOpen = false →
    exec (.replySlotComplete l signal) s = .next s ∧ exec (.berthDropped l signal) s = .next s ∧
      exec (.berthConflict l) s = .next s

/-- R38, R5, R71: a GOOD reply from an ABSENT berth makes it PRESENT with the reply's indications; its request is not taken,
whatever its kind. Where the berth wants a lane it joins the lane that carries its Programme, else takes the lowest FREE
lane, else waits at the back of its line's wait list. -/
def Obligations.GoodReplyFromAbsentBerth : Prop :=
  ∀ (s : State) (l : LineNo) (b : BerthNo) (k a f v : Byte), SlotOf s l b → LanesHold s → s.presence b = .absent →
    k + a + f + v = 0 →
    let r' := { s.linkOf b with missCount := 0, collisionRun := 0, good := min 65535 ((s.linkOf b).good + 1),
                                takenToggle := f.getLsbD 0 }
    let held := s.laneSet l
    ∃ t, exec (.replySlotComplete l (.sent [k, a, f, v])) s = .next t ∧
      t = { slotDone s l b r' with berths := t.berths, lanes := t.lanes, mix := t.mix,
                                   events := { s.events with flags := s.events.flags ||| eventMask .berthPresence } } ∧
      t.berth b = { s.berth b with live := { s.live b with
        presence := .present, attrs := ((s.live b).attrs &&& 0xFC) ||| ((f >>> 1) &&& 3), lane := (t.live b).lane } } ∧
      t.mixOf b = { s.mixOf b with floor := none, gate := 127, duck := 0, gateTarget := 127, duckTarget := 0 } ∧
      (∀ c, c ≠ b → t.berth c = s.berth c ∧ t.mixOf c = s.mixOf c) ∧ (∀ m, m ≠ l → t.laneSet m = s.laneSet m) ∧
      ((s.live b).picture = false ∨ (∀ p, (s.live b).programme = some p → (s.programme p).picture = false) →
        t.laneSet l = held ∧ (t.live b).lane = .none) ∧
      ∀ p, (s.live b).programme = some p → (s.live b).picture = true → (s.programme p).picture = true →
        (∀ n c, held.lanes.get n = .carrying p c →
          (t.live b).lane = .lane n ∧ t.laneSet l = { held with lanes := held.lanes.set n (.carrying p (c + 1)) }) ∧
        ((∀ n, ¬ Carries s l n p) → ∀ n, held.lanes.get n = .free → (∀ m, m < n → held.lanes.get m ≠ .free) →
          (t.live b).lane = .lane n ∧ t.laneSet l = { held with lanes := held.lanes.set n (.carrying p 1) }) ∧
        ((∀ n, ¬ Carries s l n p) → (∀ n, held.lanes.get n ≠ .free) →
          (t.live b).lane = .waiting ∧ t.laneSet l = { held with waits := held.waits ++ [b] })

/-- R39, R22, R162: a GOOD reply from a PRESENT berth whose request is NONE, repeated, of a kind not listed, of a locked
berth, or a CALL or CALL CANCEL: the link record, the indications, and the call queue with the capture stamp. -/
def Obligations.GoodReplyFromPresentBerth : Prop :=
  ∀ (s : State) (l : LineNo) (b : BerthNo) (k a f v : Byte), SlotOf s l b → s.presence b = .present →
    k + a + f + v = 0 →
    let r' := { s.linkOf b with missCount := 0, collisionRun := 0, good := min 65535 ((s.linkOf b).good + 1),
                                takenToggle := f.getLsbD 0 }
    let base := { slotDone s l b r' with
      berths := s.berths.set b { s.berth b with live := { s.live b with
        attrs := ((s.live b).attrs &&& 0xFC) ||| ((f >>> 1) &&& 3) } } }
    let sent := exec (.replySlotComplete l (.sent [k, a, f, v])) s
    (k = 0 ∨ f.getLsbD 0 = (s.linkOf b).takenToggle ∨ 12 ≤ k.toNat → sent = .next base) ∧
    (k.toNat ≤ 9 → hasAttr (s.live b).attrs attrLock = true → sent = .next base) ∧
    (k = 10 → f.getLsbD 0 ≠ (s.linkOf b).takenToggle →
      (s.coach.calls.any (fun c => c.berth == b) = true → sent = .next base) ∧
      (s.coach.calls.any (fun c => c.berth == b) = false → sent = .next { base with
        coach := { s.coach with calls := s.coach.calls ++ [⟨b, s.blockCount, .call⟩] }
        events := { s.events with flags := s.events.flags ||| eventMask .call } })) ∧
    (k = 11 → f.getLsbD 0 ≠ (s.linkOf b).takenToggle →
      sent = .next { base with coach := { s.coach with calls := s.coach.calls.filter fun c => c.berth ≠ b } })

/-- R23, R24, R25 (and R22): what a taken berth request other than CALL and CALL CANCEL does to the live record of a berth
that is not locked; BERTH_CHANGED exactly when a live field changed. A change of Programme or Picture is a route change, a
release and then an acquisition (R75, R71 to R74); without one nothing of the lanes moves. -/
def Obligations.BerthRequestsChangeLiveRecord : Prop :=
  ∀ (s : State) (l : LineNo) (b : BerthNo) (k a f v : Byte), SlotOf s l b → s.presence b = .present →
    k + a + f + v = 0 → f.getLsbD 0 ≠ (s.linkOf b).takenToggle → 1 ≤ k.toNat → k.toNat ≤ 9 →
    hasAttr (s.live b).attrs attrLock = false →
    let r' := { s.linkOf b with missCount := 0, collisionRun := 0, good := min 65535 ((s.linkOf b).good + 1),
                                takenToggle := f.getLsbD 0 }
    let r := { s.live b with attrs := ((s.live b).attrs &&& 0xFC) ||| ((f >>> 1) &&& 3) }
    let new : LiveRecord :=
      match k.toNat with
      | 1 => if h : a.toNat < 8 then
          { r with programme := some ⟨a.toNat, h⟩,
                   track := if (s.programme ⟨a.toNat, h⟩).trackCount = 2 then r.language else 0 } else r
      | 2 => { r with programme := none }
      | 3 => if h : a.toNat < 2 ∧ r.programme.any (fun p => a.toNat < (s.programme p).trackCount) = true then
          { r with track := ⟨a.toNat, h.1⟩ } else r
      | 4 => { r with picture := true }
      | 5 => { r with picture := false }
      | 6 => { r with volume := r.volume - 4 }
      | 7 => { r with volume := min 96 (r.volume + 4) }
      | 8 => { r with attrs := r.attrs ||| 0x04 }
      | 9 => { r with attrs := r.attrs &&& 0xFB }
      | _ => r
    ∃ t, exec (.replySlotComplete l (.sent [k, a, f, v])) s = .next t ∧
      t = { slotDone s l b r' with
            berths := t.berths, lanes := t.lanes, lines := t.lines, events := { s.events with flags := t.events.flags } } ∧
      { t.live b with lane := r.lane } = new ∧ t.staged b = s.staged b ∧
      (∀ e, t.flag e = (s.flag e || (decide (e = .berthChanged) && decide (new ≠ r)))) ∧
      (∀ m, t.line m = { (slotDone s l b r').line m with queues := (t.line m).queues } ∧
        (t.laneSet m).drops = (s.laneSet m).drops) ∧
      (∀ c, c ≠ b → t.berth c = { s.berth c with live := { s.live c with lane := (t.live c).lane } }) ∧
      (new.programme ≠ r.programme ∨ new.picture ≠ r.picture →
        ∃ u v, Released { slotDone s l b r' with berths := s.berths.set b { s.berth b with live := new } } u b ∧
          Acquired u v b ∧ t = { v with events := { s.events with flags := t.events.flags } }) ∧
      (new.programme = r.programme → new.picture = r.picture →
        t = { slotDone s l b r' with berths := s.berths.set b { s.berth b with live := new },
                                     events := { s.events with flags := t.events.flags } })

/-- R72, R73, R74: what a release does, from a lane (which goes on, is handed over to the oldest waiter's programme, or
becomes FREE with its send queue emptied) and from the wait list; and PICTURE OFF of a PRESENT berth that is not locked,
whose route change is that release alone. -/
def Obligations.ReleasesAndHandOvers : Prop :=
  (∀ (s : State) (b : BerthNo), Released s (releaseRoute b s) b) ∧
  ∀ (s : State) (l : LineNo) (b : BerthNo) (a f v : Byte), SlotOf s l b → s.presence b = .present →
    5 + a + f + v = 0 → f.getLsbD 0 ≠ (s.linkOf b).takenToggle → hasAttr (s.live b).attrs attrLock = false →
    (s.live b).picture = true →
    let r' := { s.linkOf b with missCount := 0, collisionRun := 0, good := min 65535 ((s.linkOf b).good + 1),
                                takenToggle := f.getLsbD 0 }
    let off := { slotDone s l b r' with berths := s.berths.set b { s.berth b with live := { s.live b with
      picture := false, attrs := ((s.live b).attrs &&& 0xFC) ||| ((f >>> 1) &&& 3) } } }
    ∃ u, Released off u b ∧ exec (.replySlotComplete l (.sent [5, a, f, v])) s =
      .next { u with events := { s.events with flags := s.events.flags ||| eventMask .berthChanged } }

/-! ## Media Ingress (chapter 3) -/

/-- R52, R6: PROGRAMME SETUP's tests in their order, the whole record replaced with the trims clamped, track 1 out of
use when the count falls from 2 to 1, and the Track of every berth on a one-track programme clamped. R53: PROGRAMME
TRIM, whose DONE or CLAMPED without a body is the model's choice (log entry 8). -/
def Obligations.ProgrammeSetupAndTrim : Prop :=
  (∀ (s : State) (p pic n t0 t1 card : Byte), Ready s →
    let sent := exec (.programmeSetup p pic n t0 t1 card) s
    (s.device = .run → sent = .next (answered 0x0C .wrongState [] s)) ∧
    (s.device = .config → 8 ≤ p.toNat ∨ (n ≠ 1 ∧ n ≠ 2) ∨ 63 < card.toNat →
      sent = .next (answered 0x0C .badField [] s)) ∧
    ∀ q : ProgrammeNo, s.device = .config → p.toNat = q.val → n = 1 ∨ n = 2 → card.toNat ≤ 63 →
      ∃ t, sent = .next (answered 0x0C (if 63 < t0.toNat ∨ 63 < t1.toNat then .clamped else .done) [p] t) ∧
        t = { s with media := { s.media with programmes := t.media.programmes }, berths := t.berths } ∧
        (∀ r, r ≠ q → t.programme r = s.programme r) ∧
        t.programme q = { s.programme q with
          picture := decide (pic ≠ 0), trackCount := n.toNat, trim0 := min 63 t0.toNat, trim1 := min 63 t1.toNat,
          stillCard := card.toNat, tracks := (t.programme q).tracks } ∧
        t.track q 0 = s.track q 0 ∧
        t.track q 1 = (if (s.programme q).trackCount = 2 ∧ n = 1 then
          { s.track q 1 with state := .idle, expected := 0, slots := .fill jitterSlots none, lastGood := none,
                             concealUsed := false, missRun := 0 } else s.track q 1) ∧
        ∀ b, t.berth b = if n = 1 ∧ (s.live b).programme = some q ∧ (s.live b).track = 1 then
          { s.berth b with live := { s.live b with track := 0 } } else s.berth b) ∧
  ∀ (s : State) (p : Byte) (x : TrimBody), Ready s →
    (8 ≤ p.toNat ∨ x.undefinedBit = true ∨ (∃ v, x.stillCard = some v ∧ 63 < v.toNat) →
      exec (.programmeTrim p x) s = .next (answered 0x0D .badField [] s)) ∧
    ∀ q : ProgrammeNo, p.toNat = q.val → x.undefinedBit = false → (∀ v, x.stillCard = some v → v.toNat ≤ 63) →
      exec (.programmeTrim p x) s = .next (answered 0x0D
        (if (x.trim0.any fun v => decide (63 < v.toNat)) || x.trim1.any (fun v => decide (63 < v.toNat)) then .clamped
          else .done) []
        { s with media := { s.media with programmes := s.media.programmes.set q { s.programme q with
          trim0 := (x.trim0.map fun v => min 63 v.toNat).getD (s.programme q).trim0
          trim1 := (x.trim1.map fun v => min 63 v.toNat).getD (s.programme q).trim1
          stillCard := (x.stillCard.map (·.toNat)).getD (s.programme q).stillCard } } })

/-- R49, R50 (R183): damaged and foreign frames are counted alone; a media frame that fails a test is discarded whole, the
counter of the first test it fails rises, and MEDIA_ERROR is raised. -/
def Obligations.MediaFramesDiscarded : Prop :=
  ∀ (s : State) (f : EthernetFrame), Up s →
    let port := s.media.port
    (f.checkGood = false → exec (.mediaFrame f) s =
      .next { s with media := { s.media with port := { port with damaged := min 65535 (port.damaged + 1) } } }) ∧
    (f.checkGood = true → f.etherType ≠ 0x8C51 → exec (.mediaFrame f) s =
      .next { s with media := { s.media with port := { port with foreign := min 65535 (port.foreign + 1) } } }) ∧
    ∀ (k name trk seq fl hi lo : Byte) (held : List Byte), f.checkGood = true → f.etherType = 0x8C51 →
      f.bytes = k :: name :: trk :: seq :: fl :: hi :: lo :: held →
      let len := 256 * hi.toNat + lo.toNat
      let badLength := held.length < len ∨ (k = 2 ∧ (len = 0 ∨ 1400 < len)) ∨ (k ≠ 2 ∧ len ≠ 96)
      let discarded : PortCounters → Prop := fun counters => exec (.mediaFrame f) s = .next { s with
        media := { s.media with port := counters }
        events := { s.events with flags := s.events.flags ||| eventMask .mediaError } }
      (k ≠ 1 → k ≠ 2 → k ≠ 3 → discarded { port with kind := min 65535 (port.kind + 1) }) ∧
      (k = 1 ∨ k = 2 ∨ k = 3 → badLength → discarded { port with length := min 65535 (port.length + 1) }) ∧
      (k = 1 ∨ k = 2 → ¬ badLength → 8 ≤ name.toNat →
        discarded { port with programme := min 65535 (port.programme + 1) }) ∧
      (∀ p : ProgrammeNo, k = 1 → ¬ badLength → name.toNat = p.val →
        2 ≤ trk.toNat ∨ (s.programme p).trackCount ≤ trk.toNat →
        discarded { port with track := min 65535 (port.track + 1) }) ∧
      ∀ p : ProgrammeNo, k = 2 → ¬ badLength → name.toNat = p.val → (s.programme p).picture = false →
        discarded { port with picture := min 65535 (port.picture + 1) }

/-- R56, R57: an AUDIO frame that passes the tests, at a track that is IDLE or STARVED, and at a FLOWING track by its
distance from the expected sequence. Its payload is 48 samples, each most significant byte first (R50). -/
def Obligations.AudioArrivals : Prop :=
  ∀ (s : State) (f : EthernetFrame) (name trk seq fl : Byte) (held : List Byte) (p : ProgrammeNo) (k : TrackNo), Up s →
    f.checkGood = true → f.etherType = 0x8C51 → f.bytes = 1 :: name :: trk :: seq :: fl :: 0 :: 96 :: held →
    96 ≤ held.length → name.toNat = p.val → trk.toNat = k.val → k.val < (s.programme p).trackCount →
    let x := s.track p k
    let d := (seq - x.expected).toNat
    ∃ (blk : Block) (y : Track),
      (∀ i : Fin 48, some (blk.get i) =
        held[2 * i.val]?.bind fun hi => held[2 * i.val + 1]?.map fun lo => halfOf hi lo) ∧
      exec (.mediaFrame f) s = .next { s with media := { s.media with
        programmes := s.media.programmes.set p { s.programme p with tracks := (s.programme p).tracks.set k y } } } ∧
      (x.state ≠ .flowing →
        y = { x with state := .flowing, expected := seq, slots := y.slots, missRun := 0, concealUsed := false,
                     accepted := x.accepted + 1 } ∧
        ∀ i, y.slots.get i = if i = 0 then some blk else none) ∧
      (x.state = .flowing →
        (d ≤ 3 → y = { x with slots := y.slots, accepted := x.accepted + 1 } ∧
          ∀ i, y.slots.get i = if i.val = d then some blk else x.slots.get i) ∧
        (4 ≤ d → d ≤ 127 →
          y = { x with slots := y.slots, expected := seq - 3, skipped := min 65535 (x.skipped + (d - 3)),
                       accepted := x.accepted + 1 } ∧
          ∀ i : Fin jitterSlots, y.slots.get i = if i.val = 3 then some blk
            else if h : i.val + (d - 3) < jitterSlots then x.slots.get ⟨i.val + (d - 3), h⟩ else none) ∧
        (128 ≤ d → y = { x with late := min 65535 (x.late + 1) }))

/-- R58, R59, R60: what each track plays at a block start, where the window moves on, and when it becomes STARVED; and
TRACK_STARVED, which takes that one step of the next block start and does nothing without its cause (log entry 3). -/
def Obligations.TracksPlayAndStarve : Prop :=
  (∀ (s : State) (micD micC : Block) (first : List BerthNo), Up s → s.boundary.opened = false →
    ∃ t, exec (.blockStart micD micC first) s = .next t ∧ ∀ (p : ProgrammeNo) (k : TrackNo),
      let x := s.track p k
      let y := t.track p k
      (x.state ≠ .flowing → y = { x with played := Block.silence, due := false }) ∧
      (∀ blk, x.state = .flowing → x.slots.get 0 = some blk →
        SlotsMoved 1 x.slots y.slots ∧
        y = { x with played := blk, lastGood := some blk, missRun := 0, concealUsed := false, expected := x.expected + 1,
                     slots := y.slots, due := false }) ∧
      (x.state = .flowing → x.slots.get 0 = none → x.missRun < 249 →
        MissPlayed x y ∧ SlotsMoved 1 x.slots y.slots ∧
        y = { x with played := y.played, concealed := y.concealed, silent := y.silent, missRun := x.missRun + 1,
                     concealUsed := x.concealUsed || x.lastGood.isSome, expected := x.expected + 1, slots := y.slots,
                     due := false }) ∧
      (x.state = .flowing → x.slots.get 0 = none → 249 ≤ x.missRun → StarvedFrom x y ∧ t.flag .starved = true)) ∧
  ∀ (s : State) (p : ProgrammeNo) (k : TrackNo), Up s →
    let o := openBoundary s
    let x := o.track p k
    (x.due = true → x.state = .flowing → x.slots.get 0 = none → 249 ≤ x.missRun →
      ∃ y, StarvedFrom x y ∧ exec (.trackStarved p k) s = .next { o with
        media := { o.media with
          programmes := o.media.programmes.set p { o.programme p with tracks := (o.programme p).tracks.set k y } }
        events := { o.events with flags := o.events.flags ||| eventMask .starved } }) ∧
    (x.due = false ∨ x.state ≠ .flowing ∨ x.slots.get 0 ≠ none ∨ x.missRun < 249 →
      exec (.trackStarved p k) s = .next s)

/-- R61: a PICTURE frame that passes the tests is offered to the lane that carries its programme on each RUNNING line, and
counted as unplaced when there is none. R64: a RECORDED frame is appended, dropped at a full buffer, or a stray. -/
def Obligations.PictureAndRecordedArrivals : Prop :=
  (∀ (s : State) (f : EthernetFrame) (name trk seq fl hi lo : Byte) (held : List Byte) (p : ProgrammeNo), Up s →
    f.checkGood = true → f.etherType = 0x8C51 → f.bytes = 2 :: name :: trk :: seq :: fl :: hi :: lo :: held →
    let len := 256 * hi.toNat + lo.toNat
    let pk := held.take len
    1 ≤ len → len ≤ 1400 → len ≤ held.length → name.toNat = p.val → (s.programme p).picture = true →
    let takes := fun l : LineNo => (s.line l).state = .running ∧ ∃ n, Carries s l n p
    ∃ (t : State) (unplaced : Half), exec (.mediaFrame f) s = .next t ∧
      t = { s with
        lines := t.lines
        lanes := t.lanes
        media := { s.media with programmes := s.media.programmes.set p { s.programme p with
          received := (s.programme p).received + 1, unplaced := unplaced } } } ∧
      ((∃ l, takes l) → unplaced = (s.programme p).unplaced) ∧
      ((∀ l, ¬ takes l) → unplaced = (s.programme p).unplaced + 1) ∧
      ∀ l, (¬ takes l → t.line l = s.line l ∧ t.laneSet l = s.laneSet l) ∧
        ∀ n, (s.line l).state = .running → Carries s l n p → (∀ m, m < n → ¬ Carries s l m p) →
          let q := (s.line l).queues.get n
          (q.length < 8 → t.line l = { s.line l with queues := (s.line l).queues.set n (q ++ [pk]) } ∧
            t.laneSet l = s.laneSet l) ∧
          (8 ≤ q.length → t.line l = s.line l ∧ t.laneSet l = { s.laneSet l with
            drops := (s.laneSet l).drops.set n (min 65535 ((s.laneSet l).drops.get n + 1)) })) ∧
  ∀ (s : State) (f : EthernetFrame) (h trk seq fl : Byte) (held : List Byte), Up s →
    f.checkGood = true → f.etherType = 0x8C51 → f.bytes = 3 :: h :: trk :: seq :: fl :: 0 :: 96 :: held →
    96 ≤ held.length →
    let r := s.media.recorded
    ∃ blk : Block,
      (∀ i : Fin 48, some (blk.get i) =
        held[2 * i.val]?.bind fun hi => held[2 * i.val + 1]?.map fun lo => halfOf hi lo) ∧
      (r.target = some h → r.blocks.length < 64 → exec (.mediaFrame f) s = .next { s with media := { s.media with
        recorded := { r with blocks := r.blocks ++ [⟨blk, fl.getLsbD 0⟩], appended := r.appended + 1 } } }) ∧
      (r.target = some h → 64 ≤ r.blocks.length → exec (.mediaFrame f) s = .next { s with
        media := { s.media with recorded := { r with full := min 65535 (r.full + 1) } }
        events := { s.events with flags := s.events.flags ||| eventMask .mediaError } }) ∧
      (r.target ≠ some h → exec (.mediaFrame f) s =
        .next { s with media := { s.media with recorded := { r with stray := min 65535 (r.stray + 1) } } })

/-! ## Announcement admission (chapter 5) -/

/-- R92 with R93 and R94 for an idle recorded source: the tests in their order; an accepted ANNOUNCE that finds no recorded
entry active admits its entry in LEAD, opens the recorded buffer for it and raises RECORDED_GO. -/
def Obligations.AnnounceTestsAndIdleSource : Prop :=
  ∀ (s : State) (x : AnnounceBody) (deadline : Half), Ready s → AnnouncementsHold s →
    let sent := exec (.announce x deadline) s
    (s.device = .config → sent = .next (answered 0x10 .wrongState [] s)) ∧
    (s.device = .run → RefusedFields x → sent = .next (answered 0x10 .badField [] s)) ∧
    (s.device = .run → ¬ RefusedFields x → 14 ≤ entriesOf s .r → sent = .next (answered 0x10 .full [] s)) ∧
    (s.device = .run → ¬ RefusedFields x → entriesOf s .r < 14 → (∀ e ∈ s.ann.entries, activeRecorded e = false) →
      ∃ p h, StoredFrom x p ∧ IssuedHandle s h ∧
        sent = .next (answered 0x10 (storeStatus x) [h, 0] { s with
          ann := { s.ann with
            entries := s.ann.entries ++ [admitted s .r h p deadline.toNat .lead p.lead]
            handleCounter := nextHandle h
            admissionCounter := s.ann.admissionCounter + 1 }
          media := { s.media with recorded := flushedTo (some h) s.media.recorded }
          events := { s.events with flags := s.events.flags ||| eventMask .recordedGo } }))

/-- R91, R94, R95 for a recorded source that is busy: the new entry is QUEUED behind every entry that ranks at least as high
and ahead of every other, or a class 3 entry removes the active entry of a lower class with no tail and takes its place. -/
def Obligations.AnnounceQueuesOrPreempts : Prop :=
  ∀ (s : State) (x : AnnounceBody) (deadline : Half) (a : Entry), Ready s → AnnouncementsHold s → s.device = .run →
    ¬ RefusedFields x → entriesOf s .r < 14 → a ∈ s.ann.entries → activeRecorded a = true →
    let sent := exec (.announce x deadline) s
    ∃ p h, StoredFrom x p ∧ IssuedHandle s h ∧
      (p.cls < 3 ∨ a.params.cls = 3 →
        ∃ before after, s.ann.queue = before ++ after ∧
          (∀ g ∈ before, ∀ e ∈ s.ann.entries, e.handle = g →
            p.cls < e.params.cls ∨ p.cls = e.params.cls ∧ e.admission ≤ s.ann.admissionCounter + 1) ∧
          (∀ g ∈ after, ∀ e ∈ s.ann.entries, e.handle = g →
            e.params.cls < p.cls ∨ p.cls = e.params.cls ∧ s.ann.admissionCounter + 1 < e.admission) ∧
          sent = .next (answered 0x10 (storeStatus x) [h, BitVec.ofNat 8 (before.length + 1)] { s with
            ann := { s.ann with
              entries := s.ann.entries ++ [admitted s .r h p deadline.toNat .queued deadline.toNat]
              queue := before ++ h :: after
              handleCounter := nextHandle h
              admissionCounter := s.ann.admissionCounter + 1 } })) ∧
      (p.cls = 3 → a.params.cls < 3 →
        ∃ t, sent = .next (answered 0x10 (storeStatus x) [h, 0] t) ∧
          let c := { s with ann := { s.ann with handleCounter := nextHandle h,
                                                admissionCounter := s.ann.admissionCounter + 1 } }
          RemovedEntry c t a .preempted ∧ t.ann.queue = s.ann.queue ∧
          t.ann.entries = (s.ann.entries.filter fun e => e.handle ≠ a.handle) ++
            [admitted s .r h p deadline.toNat .lead p.lead] ∧
          t.media.recorded = flushedTo (some h) s.media.recorded ∧
          t.events.flags = s.events.flags ||| eventMask .annFinished ||| eventMask .recordedGo)

/-- R100, R99: PTT PROFILE SET's tests, and the profile replaced by the fields carried after clamping; the reply carries
it as stored, one field after the other (the model's reading of the layout, log entry 8). -/
def Obligations.PttProfileSetStoresProfile : Prop :=
  ∀ (s : State) (profile : Byte) (x : AnnounceBody), Ready s →
    let sent := exec (.pttProfileSet profile x) s
    (1 < profile.toNat ∨ RefusedFields x → sent = .next (answered 0x12 .badField [] s)) ∧
    (profile.toNat ≤ 1 → ¬ RefusedFields x →
      ∃ p, StoredFrom x p ∧
        sent = .next (answered 0x12 (storeStatus x)
          ([BitVec.ofNat 8 p.cls, p.zones, p.attrMask, BitVec.ofNat 8 (codeMode p.mode),
            BitVec.ofNat 8 ((p.chime.map (·.val)).getD 255), BitVec.ofNat 8 p.duck, BitVec.ofNat 8 p.attack,
            BitVec.ofNat 8 p.release, BitVec.ofNat 8 p.level, BitVec.ofNat 8 p.card] ++ byte2 p.lead ++ byte2 p.tail ++
            byte2 p.maxLive)
          { s with ann := if profile = 0 then { s.ann with driver := p } else { s.ann with crew := p } }))

/-- R97, R98, R113: an edge of a push-to-talk contact that is a press. It is ignored in CONFIG; in RUN it admits an entry of
the profile, of class 3 for the driver under the alarm latch, or acts on the source's entry by its phase. With the filtered
state already ACTIVE there is no edge (R156; the model's choice of what the command then does, log entry 6). -/
def Obligations.PttPressAdmitsOrReturns : Prop :=
  ∀ (s : State) (m : Mic), Up s → AnnouncementsHold s →
    let src : Source := match m with
      | .d => .d
      | .c => .c
    let contact : Contact := match m with
      | .d => .pttD
      | .c => .pttC
    let profile := match m with
      | .d => s.ann.driver
      | .c => s.ann.crew
    let edge := { s with coach := match m with
      | .d => { s.coach with pttD := ⟨true, 0⟩ }
      | .c => { s.coach with pttC := ⟨true, 0⟩ } }
    let pressed := exec (.pttPress m) s
    ((s.filter contact).active = true → pressed = .next s) ∧
    ((s.filter contact).active = false → s.device = .config → pressed = .next edge) ∧
    ((s.filter contact).active = false → s.device = .run → (∀ e ∈ s.ann.entries, e.source ≠ src) →
      ∃ h, IssuedHandle s h ∧
        let p := if m = .d ∧ s.coach.latch = true then { profile with cls := 3 } else profile
        pressed = .next { edge with ann := { s.ann with
          entries := s.ann.entries ++ [admitted s src h p 0 .lead p.lead]
          handleCounter := nextHandle h
          admissionCounter := s.ann.admissionCounter + 1 } }) ∧
    ((s.filter contact).active = false → s.device = .run → ∀ e ∈ s.ann.entries, e.source = src →
      (e.phase = .lead ∨ e.phase = .live → pressed = .next edge) ∧
      (e.phase = .chime → pressed = .next { edge with ann := { s.ann with
        entries := s.ann.entries.map fun x => if x.handle = e.handle then { x with earlyRelease := false } else x } }) ∧
      (e.phase = .tail → pressed = .next { edge with ann := { s.ann with
        entries := s.ann.entries.map fun x => if x.handle = e.handle then
          { x with phase := .live, timer := 0, endReason := none } else x } }))

/-- R112: an edge of a push-to-talk contact that is a release, by the phase of the source's entry. With the filtered state
already INACTIVE there is no edge (R156; the model's choice of what the command then does, log entry 6). -/
def Obligations.PttReleaseByPhase : Prop :=
  ∀ (s : State) (m : Mic), Up s → AnnouncementsHold s →
    let src : Source := match m with
      | .d => .d
      | .c => .c
    let contact : Contact := match m with
      | .d => .pttD
      | .c => .pttC
    let edge := { s with coach := match m with
      | .d => { s.coach with pttD := ⟨false, 0⟩ }
      | .c => { s.coach with pttC := ⟨false, 0⟩ } }
    let released := exec (.pttRelease m) s
    ((s.filter contact).active = false → released = .next s) ∧
    ((s.filter contact).active = true → s.device = .config ∨ (∀ e ∈ s.ann.entries, e.source ≠ src) →
      released = .next edge) ∧
    ((s.filter contact).active = true → s.device = .run → ∀ e ∈ s.ann.entries, e.source = src →
      (e.phase = .lead → ∃ t, released = .next t ∧ EnteredTail edge t e .short) ∧
      (e.phase = .chime → released = .next { edge with ann := { s.ann with
        entries := s.ann.entries.map fun x => if x.handle = e.handle then { x with earlyRelease := true } else x } }) ∧
      (e.phase = .live → ∃ t, released = .next t ∧ EnteredTail edge t e .completed) ∧
      (e.phase = .tail → released = .next edge))

/-! ## Announcement phases (chapter 6) -/

/-- R115, R116, R118, R105, R129: CUT's tests in their order, and what it does by phase and mode. -/
def Obligations.CutByPhaseAndMode : Prop :=
  ∀ (s : State) (h mode : Byte), Ready s → AnnouncementsHold s →
    let sent := exec (.cut h mode) s
    (s.device = .config → sent = .next (answered 0x13 .wrongState [] s)) ∧
    (s.device = .run → h = 0 ∨ 1 < mode.toNat → sent = .next (answered 0x13 .badField [] s)) ∧
    (s.device = .run → h ≠ 0 → mode.toNat ≤ 1 → (∀ e ∈ s.ann.entries, e.handle ≠ h) →
      sent = .next (answered 0x13 .notFound [] s)) ∧
    ∀ e ∈ s.ann.entries, e.handle = h → s.device = .run → mode.toNat ≤ 1 →
      ∃ t, sent = .next (answered 0x13 .done [h, BitVec.ofNat 8 (codePhase e.phase)] t) ∧
        (e.phase = .queued → RemovedEntry s t e .cut ∧ LeftTable s t e s.media.recorded) ∧
        (mode = 0 → e.phase = .tail → t = s) ∧
        (mode = 0 → e.phase ≠ .queued → e.phase ≠ .tail → EnteredTail s t e .cut) ∧
        (mode = 1 → e.phase ≠ .queued → RemovedEntry s t e .cut) ∧
        (mode = 1 → e.phase ≠ .queued → e.source ≠ .r ∨ s.ann.queue = [] →
          LeftTable s t e (if e.phase = .tail then s.media.recorded else closedFor e.source s.media.recorded)) ∧
        ∀ g rest, mode = 1 → e.phase ≠ .queued → e.source = .r → s.ann.queue = g :: rest → HandedOn s t e g rest

/-- R104, R111 with R116, R118, R105 and R129: QUEUE_DEADLINE_EXPIRY and TAIL_END, each the advance of one entry at the block
start that opens or is open (log entry 3), and nothing without its cause. The entry that a tail's end makes active takes its
first LEAD advance at once. At a BLOCK_START the timers of QUEUED and TAIL with time left count down by one (R103). -/
def Obligations.DeadlineExpiryAndTailEnd : Prop :=
  (∀ (s : State) (h : Byte), Up s → AnnouncementsHold (openBoundary s) →
    let o := openBoundary s
    ((∀ e ∈ o.ann.entries, e.handle = h → e.due = false ∨ e.phase ≠ .queued ∨ e.deadline = 0 ∨ 1 < e.timer) →
      exec (.queueDeadlineExpiry h) s = .next s) ∧
    ((∀ e ∈ o.ann.entries, e.handle = h → e.due = false ∨ e.phase ≠ .tail ∨ e.timer ≠ 0) →
      exec (.tailEnd h) s = .next s) ∧
    ∀ e ∈ o.ann.entries, e.handle = h → e.due = true →
      (e.phase = .queued → e.deadline ≠ 0 → e.timer ≤ 1 →
        ∃ t, exec (.queueDeadlineExpiry h) s = .next t ∧ RemovedEntry o t e .stale ∧
          LeftTable o t e o.media.recorded) ∧
      (e.phase = .tail → e.timer = 0 → e.source ≠ .r ∨ o.ann.queue = [] →
        ∃ t, exec (.tailEnd h) s = .next t ∧ RemovedEntry o t e .completed ∧ LeftTable o t e o.media.recorded) ∧
      ∀ g rest, e.phase = .tail → e.timer = 0 → e.source = .r → o.ann.queue = g :: rest →
        (∀ x ∈ o.ann.entries, x.handle = g → 1 ≤ x.params.lead) →
        ∃ t u, exec (.tailEnd h) s = .next t ∧ RemovedEntry o u e .completed ∧ HandedOn o u e g rest ∧
          t = { u with ann := { u.ann with entries := u.ann.entries.map fun x =>
            if x.handle = g then { x with timer := x.timer - 1, blockPhase := some .lead, due := false } else x } }) ∧
  ∀ (s : State) (micD micC : Block) (first : List BerthNo), Up s → s.boundary.opened = false → AnnouncementsHold s →
    ∃ t, exec (.blockStart micD micC first) s = .next t ∧ ∀ e ∈ s.ann.entries,
      (e.phase = .queued → e.deadline = 0 ∨ 2 ≤ e.timer → ActiveStays s → ∃ f ∈ t.ann.entries, SameButAudience
        { e with timer := if e.deadline = 0 then e.timer else e.timer - 1, recorded := none, blockPhase := some .queued,
                 due := false } f) ∧
      (e.phase = .tail → 1 ≤ e.timer → ∃ f ∈ t.ann.entries, SameButAudience
        { e with timer := e.timer - 1, recorded := none, blockPhase := some .tail, due := false } f)

/-- R106, R138: LEAD_END, the advance of an entry whose LEAD timer stands at 0 at the block start that opens or is open
(log entry 3; a REST's sample phase: log entry 9). With a chime pattern it enters CHIME and its source's voice plays the
first block of the first note; with none it enters LIVE and takes its LIVE advance at once. At a BLOCK_START a LEAD timer
with time left counts down by one (R103). -/
def Obligations.LeadEndStartsChimeOrLive : Prop :=
  (∀ (s : State) (h : Byte), Up s → AnnouncementsHold (openBoundary s) →
    let o := openBoundary s
    ((∀ e ∈ o.ann.entries, e.handle = h → e.due = false ∨ e.phase ≠ .lead ∨ e.timer ≠ 0) →
      exec (.leadEnd h) s = .next s) ∧
    ∀ e ∈ o.ann.entries, e.handle = h → e.due = true → e.phase = .lead → e.timer = 0 →
      (∀ p n rest, e.params.chime = some p → o.chimes.patterns.get p = n :: rest →
        ∃ t, exec (.leadEnd h) s = .next t ∧
          t = { o with ann := withEntry o.ann h { e with phase := .chime, blockPhase := some .chime, due := false },
                       chimes := t.chimes } ∧
          OnlyVoice o t e.source ∧ StartsNote (t.voice e.source) h p 0 n) ∧
      (e.params.chime = none → StaysLive o e →
        ∃ t, exec (.leadEnd h) s = .next t ∧ TookLiveAdvance o t e)) ∧
  ∀ (s : State) (micD micC : Block) (first : List BerthNo), Up s → s.boundary.opened = false → AnnouncementsHold s →
    ∃ t, exec (.blockStart micD micC first) s = .next t ∧ ∀ e ∈ s.ann.entries, e.phase = .lead → 1 ≤ e.timer →
      ∃ f ∈ t.ann.entries, SameButAudience
        { e with timer := e.timer - 1, recorded := none, blockPhase := some .lead, due := false } f

/-- R108, R110, R111: MAXIMUM_LIVE_REACHED and STARVATION_RUN_LIMIT, each the LIVE advance that ends an entry's LIVE at the
block start that opens or is open (log entry 3), followed at once by its first TAIL advance. At a BLOCK_START: the LIVE
advance of an entry that stays in LIVE, and the end marker taken, which brings a recorded entry to TAIL COMPLETED with the
block it took and its buffer closed (R65, R66). -/
def Obligations.LiveEndsByMaximumOrStarvation : Prop :=
  (∀ (s : State) (h : Byte), Up s → AnnouncementsHold (openBoundary s) →
    let o := openBoundary s
    let full := fun e : Entry => e.params.maxLive ≠ 0 ∧ e.liveCount = e.params.maxLive
    ((∀ e ∈ o.ann.entries, e.handle = h → e.due = false ∨ e.phase ≠ .live ∨ ¬ full e) →
      exec (.maximumLiveReached h) s = .next s) ∧
    ((∀ e ∈ o.ann.entries, e.handle = h → e.due = false ∨ e.phase ≠ .live ∨ e.source ≠ .r ∨ full e ∨
        o.media.recorded.blocks ≠ [] ∨ e.starvation < 499) →
      exec (.starvationRunLimit h) s = .next s) ∧
    ∀ e ∈ o.ann.entries, e.handle = h → e.due = true → e.phase = .live →
      (full e → ∃ t, exec (.maximumLiveReached h) s = .next t ∧
        EndedAtBlockStart o t e .timedOut e.liveCount e.starvation none) ∧
      (¬ full e → e.source = .r → o.media.recorded.blocks = [] → 499 ≤ e.starvation →
        ∃ t, exec (.starvationRunLimit h) s = .next t ∧
          EndedAtBlockStart o t e .starved (min 65535 (e.liveCount + 1)) 500 none)) ∧
  ∀ (s : State) (micD micC : Block) (first : List BerthNo), Up s → s.boundary.opened = false → AnnouncementsHold s →
    ∃ t, exec (.blockStart micD micC first) s = .next t ∧ ∀ e ∈ s.ann.entries, e.phase = .live →
      (StaysLive s e → (∃ f ∈ t.ann.entries, SameButAudience (afterLiveAdvance s.media.recorded.blocks e) f) ∧
        (e.source = .r → t.media.recorded = bufferAfterLive .r s.media.recorded)) ∧
      ∀ b rest, e.source = .r → (e.params.maxLive = 0 ∨ e.liveCount ≠ e.params.maxLive) →
        s.media.recorded.blocks = b :: rest → b.endMarker = true →
        (1 ≤ e.params.tail → t.media.recorded = flushedTo none (bufferAfterLive .r s.media.recorded) ∧
          ∃ f ∈ t.ann.entries, SameButAudience
            (afterEnd e .completed (min 65535 (e.liveCount + 1)) 0 (some b.samples)) f) ∧
        (e.params.tail = 0 → t.flag .annFinished = true ∧ ∀ f ∈ t.ann.entries, f.handle ≠ e.handle)

/-! ## Chime voices (chapter 8) -/

/-- R141: CHIME LOAD's tests in their order, the notes as stored after clamping, and its reply. -/
def Obligations.ChimeLoadStoresNotes : Prop :=
  ∀ (s : State) (pattern : Byte) (notes : List NoteBody), Ready s →
    let sent := exec (.chimeLoad pattern notes) s
    let noTone := ∃ n ∈ notes, 8 ≤ n.tone.toNat ∧ n.tone ≠ 0xFF
    (4 ≤ pattern.toNat ∨ notes = [] ∨ 4 < notes.length ∨ noTone → sent = .next (answered 0x15 .badField [] s)) ∧
    ∀ p : PatternNo, pattern.toNat = p.val → notes ≠ [] → notes.length ≤ 4 → ¬ noTone →
      let busy := ∃ v q, (s.voice v).playing = some q ∧ q.pattern = p
      (busy → sent = .next (answered 0x15 .busy [] s)) ∧
      (¬ busy → ∃ stored : List Note,
        sent = .next (answered 0x15
          (if notes.any fun n => decide (n.duty.toNat = 0 ∨ 4 < n.duty.toNat ∨ n.duration.toNat = 0 ∨
              2000 < n.duration.toNat ∨ 126 < n.a0.toNat) then .clamped else .done)
          [pattern, BitVec.ofNat 8 notes.length]
          { s with chimes := { s.chimes with patterns := s.chimes.patterns.set p stored } }) ∧
        stored.length = notes.length ∧
        ∀ (i : Nat) (m : Note) (n : NoteBody), stored[i]? = some m → notes[i]? = some n →
          (m.tone = none → n.tone = 0xFF) ∧ (∀ k, m.tone = some k → n.tone.toNat = k.val) ∧
          m.duty = max 1 (min 4 n.duty.toNat) ∧ m.duration = max 1 (min 2000 n.duration.toNat) ∧
          m.a0 = min 126 n.a0.toNat ∧ m.decay = n.decay.toNat)

/-- R136, R139, R107: the advance of a voice at the block start that opens or is open (log entries 3 and 9), where it
raises env by one step, goes on to the next note, or ends its pattern and gives its entry the chime end. At a BLOCK_START
a voice stays in its note, with or without a decay step, or goes on to the next. -/
def Obligations.VoiceAdvances : Prop :=
  (∀ (s : State) (v : Source), Up s → AnnouncementsHold (openBoundary s) →
    let o := openBoundary s
    ((o.voice v).due = false ∨ (o.voice v).playing = none →
      exec (.envelopeDecayStep v) s = .next s ∧ exec (.chimeNoteEnd v) s = .next s ∧ exec (.chimeEnd v) s = .next s) ∧
    ∀ q n, (o.voice v).due = true → (o.voice v).playing = some q →
      (o.chimes.patterns.get q.pattern)[q.noteIndex]? = some n →
      let next := (o.chimes.patterns.get q.pattern)[q.noteIndex + 1]?
      (n.duration ≤ q.blocksInto + 1 ∨ n.tone = none ∨ n.decay = 0 ∨ q.decayCounter + 1 < n.decay →
        exec (.envelopeDecayStep v) s = .next s) ∧
      (q.blocksInto + 1 < n.duration → n.tone ≠ none → n.decay ≠ 0 → n.decay ≤ q.decayCounter + 1 →
        ∃ t, exec (.envelopeDecayStep v) s = .next t ∧ t = { o with chimes := t.chimes } ∧ OnlyVoice o t v ∧
          StaysInNote (t.voice v) q n) ∧
      (q.blocksInto + 1 < n.duration ∨ next = none → exec (.chimeNoteEnd v) s = .next s) ∧
      (∀ m, n.duration ≤ q.blocksInto + 1 → next = some m →
        exec (.chimeEnd v) s = .next s ∧
        ∃ t, exec (.chimeNoteEnd v) s = .next t ∧ t = { o with chimes := t.chimes } ∧ OnlyVoice o t v ∧
          StartsNote (t.voice v) q.entry q.pattern (q.noteIndex + 1) m) ∧
      (q.blocksInto + 1 < n.duration → exec (.chimeEnd v) s = .next s) ∧
      (n.duration ≤ q.blocksInto + 1 → next = none → ∀ e ∈ o.ann.entries, e.handle = q.entry →
        let i := o.modVoice v fun _ => ⟨none, none, false⟩
        (e.earlyRelease = true → ∃ t, exec (.chimeEnd v) s = .next t ∧
          EndedAtBlockStart i t e .short e.liveCount e.starvation e.recorded) ∧
        (e.earlyRelease = false → StaysLive i e →
          ∃ t, exec (.chimeEnd v) s = .next t ∧ TookLiveAdvance i t e))) ∧
  ∀ (s : State) (micD micC : Block) (first : List BerthNo), Up s → s.boundary.opened = false → AnnouncementsHold s →
    ∃ t, exec (.blockStart micD micC first) s = .next t ∧ ∀ v q n, (s.voice v).playing = some q →
      (s.chimes.patterns.get q.pattern)[q.noteIndex]? = some n →
      (q.blocksInto + 1 < n.duration → StaysInNote (t.voice v) q n) ∧
      ∀ m, n.duration ≤ q.blocksInto + 1 → (s.chimes.patterns.get q.pattern)[q.noteIndex + 1]? = some m →
        StartsNote (t.voice v) q.entry q.pattern (q.noteIndex + 1) m

/-! ## Floors and the mix (chapters 7 and 9) -/

/-- R124, R126, R127, R128, R131, R147: each berth's floor, targets and steps after the evaluation of a block start, and
its duck and gate after the ramp; a berth that is not PRESENT is not evaluated. Each entry's audience follows the floors that
it gains and loses, and its peak the audience. The entries stand as their advances have left them (the order is the model's
choice, log entry 4) and are read in their phases for the block (R103; before a first advance, log entry 20). -/
def Obligations.FloorsAfterBlockStart : Prop :=
  ∀ (s : State) (micD micC : Block) (first : List BerthNo), Up s → AnnouncementsHold (afterAdvances s) →
    let o := afterAdvances s
    ∃ t, exec (.blockStart micD micC first) s = .next t ∧
      (∀ e ∈ o.ann.entries, ∃ f ∈ t.ann.entries, SameButAudience e f ∧
        let gains := allBerths.countP fun b =>
          decide ((t.mixOf b).floor = some e.handle ∧ (o.mixOf b).floor ≠ some e.handle)
        let losses := allBerths.countP fun b =>
          decide ((o.mixOf b).floor = some e.handle ∧ (t.mixOf b).floor ≠ some e.handle)
        f.audience + losses = e.audience + gains ∧ max e.peak f.audience ≤ f.peak ∧
        f.peak ≤ max e.peak (e.audience + gains) ∧ (gains = 0 → f.peak = e.peak) ∧
        (losses = 0 → f.peak = max e.peak f.audience)) ∧
      ∀ b,
      let m := o.mixOf b
      let n := t.mixOf b
      (o.presence b ≠ .present → n = m) ∧
      (o.presence b = .present →
        (∀ e, IsBest o b e →
          n.floor = some e.handle ∧ n.duckTarget = e.params.duck ∧ n.duckStep = e.params.attack ∧
          n.gateStep = e.params.attack ∧ n.gateTarget = (if phaseRead e = .lead then 127 else 0) ∧
          RampedTo n.duckTarget n.duckStep m.duck n.duck ∧
          RampedTo n.gateTarget n.gateStep (if m.floor = none ∨ m.floor = some e.handle then m.gate else 127) n.gate) ∧
        ((∀ e, ¬ IsCandidate o b e) → m.floor = none →
          n.floor = none ∧ n.duckTarget = m.duckTarget ∧ n.gateTarget = m.gateTarget ∧ n.duckStep = m.duckStep ∧
          n.gateStep = m.gateStep ∧ RampedTo m.duckTarget m.duckStep m.duck n.duck ∧
          RampedTo m.gateTarget m.gateStep m.gate n.gate) ∧
        ((∀ e, ¬ IsCandidate o b e) → ∀ e ∈ o.ann.entries, m.floor = some e.handle →
          n.floor = (if phaseRead e = .tail then some e.handle else none) ∧ n.duckTarget = 0 ∧ n.gateTarget = 127 ∧
          n.duckStep = e.params.release ∧ n.gateStep = e.params.release ∧
          RampedTo 0 e.params.release m.duck n.duck ∧
          RampedTo 127 e.params.release (if phaseRead e = .tail then m.gate else 127) n.gate))

/-- R148, R149, R150, R151, R152: the arithmetic of a term, and the attenuations, samples, clip flag and clip count of
each PRESENT berth after a block start, made from the values that stand for the block, whose advances come first (the
model's choice, log entry 4), with entries read in their phases for the block (R103, log entry 20). CLIP is raised exactly
when some berth's block was limited. -/
def Obligations.MixAfterBlockStart : Prop :=
  (∀ (x : Sample) (a : Nat), (a = 127 → term x.toInt a = 0) ∧
    (a ≤ 126 →
      let d : Int := 2 ^ (15 + a / 8)
      let product : Int := x.toInt * [32768, 30048, 27554, 25268, 23170, 21247, 19484, 17867].getD (a % 8) 0
      d * term x.toInt a ≤ product + 2 ^ (14 + a / 8) ∧ product + 2 ^ (14 + a / 8) < d * (term x.toInt a + 1))) ∧
  ∀ (s : State) (micD micC : Block) (first : List BerthNo), Up s →
    ∃ t, exec (.blockStart micD micC first) s = .next t ∧
      t.flag .clip = (s.flag .clip || allBerths.any fun b =>
        decide ((afterAdvances s).presence b = .present) && (t.mixOf b).clipFlag) ∧
      ∀ b, (afterAdvances s).presence b = .present →
      let n := t.mixOf b
      let r := t.live b
      let ve := max r.volume t.coach.limit
      let trim := match r.programme with
        | none => 0
        | some p => if r.track = 0 then (t.programme p).trim0 else (t.programme p).trim1
      let programme := match r.programme with
        | none => Block.silence
        | some p => (t.track p r.track).played
      let announcement := match t.floorEntry? b with
        | none => Block.silence
        | some e => if phaseRead e = Phase.live ∨ phaseRead e = Phase.tail then
            match e.source with
            | .d => micD
            | .c => micC
            | .r => e.recorded.getD Block.silence
          else Block.silence
      let chime := match t.floorEntry? b with
        | none => (Block.silence, 127)
        | some e => if phaseRead e = Phase.chime then (t.voice e.source).output.getD (Block.silence, 127)
          else (Block.silence, 127)
      let sum := fun i : Fin 48 => term (programme.get i).toInt n.lastAp + term (announcement.get i).toInt n.lastAa +
        term (chime.1.get i).toInt n.lastAc
      n.lastAp = (if t.coach.latch = true ∨ r.programme = none then 127 else min 127 (ve + trim + n.duck)) ∧
      (t.floorEntry? b = none → n.lastAa = 127 ∧ n.lastAc = 127) ∧
      (∀ e, t.floorEntry? b = some e →
        let part := if e.params.cls = 3 then 0 else min ve 24
        n.lastAa = min 127 (e.params.level + part + n.gate) ∧
        n.lastAc = min 127 (chime.2 + e.params.level + part + n.gate)) ∧
      (∃ out, n.delivered = some out ∧ ∀ i, (out.get i).toInt = limitTo16 (sum i)) ∧
      (n.clipFlag = true ↔ ∃ i, sum i ≠ limitTo16 (sum i)) ∧
      n.clipCount = (if n.clipFlag then min 65535 (((afterAdvances s).mixOf b).clipCount + 1)
        else ((afterAdvances s).mixOf b).clipCount)

/-- R31, R32, R33, R79, R80: the outbound frame of each RUNNING line, its control words and cards, the packets it takes from
the send queues, and the reply slot that follows (log entry 12); the bits of a control word (R181). -/
def Obligations.OutboundFrames : Prop :=
  (∀ w : ControlWord, w.card ≤ 63 → w.shownVolume ≤ 127 → w.lane ≤ 4 → w.floorClass.getD 0 ≤ 3 →
    ∃ b0 b1 b2 : Byte, controlWordBytes w = [b0, b1, b2] ∧
      b0.getLsbD 7 = w.acknowledged ∧ b0.getLsbD 6 = w.takenToggle ∧ b0.toNat % 64 = w.card ∧
      b1.getLsbD 7 = w.lockSet ∧ b1.toNat % 128 = w.shownVolume ∧
      b2.getLsbD 7 = w.callQueued ∧ b2.toNat / 16 % 8 = w.floorClass.getD 7 ∧ b2.toNat % 16 = w.lane) ∧
  ∀ (s : State) (micD micC : Block) (first : List BerthNo), Up s →
    ∃ t, exec (.blockStart micD micC first) s = .next t ∧ ∀ l,
      let o := afterMixes micD micC first s
      let x := o.line l
      (s.boundary.opened = false → x.frameDue = decide ((s.line l).state = .running) ∧ x.state = (s.line l).state) ∧
      (x.frameDue = false ∨ x.state ≠ .running → t.line l = { x with frameDue := false }) ∧
      (x.frameDue = true → x.state = .running →
        let word := fun b : BerthNo =>
          let r := t.live b
          let entry := t.floorEntry? b
          let card := (entry.map fun e => e.params.card).getD 0
          let cls := entry.map fun e => e.params.cls
          ({ lane := match r.lane with
               | .lane n => n.val + 1
               | .none => 0
               | .waiting => 0
             card :=
               if t.coach.latch = true ∧ cls = some 3 ∧ card ≠ 0 then card
               else if t.coach.latch = true then t.coach.alarmCard
               else if card ≠ 0 then card
               else if r.lane = .waiting then t.coach.busyCard
               else match r.programme with
                 | none => 0
                 | some p => if r.picture = true ∧ (t.programme p).picture = false then (t.programme p).stillCard else 0
             shownVolume := max r.volume t.coach.limit
             floorClass := cls
             lockSet := hasAttr r.attrs attrLock
             takenToggle := (t.linkOf b).takenToggle
             callQueued := t.coach.calls.any fun c => c.berth == b
             acknowledged := decide (r.presence = .present) } : ControlWord)
        ∃ f : OutboundFrame,
          (∃ queues, (∀ n, queues.get n = (x.queues.get n).tail) ∧
            t.line l = { x with frame := some f, framesSent := x.framesSent + 1, queues := queues, slotOpen := true,
                                frameDue := false }) ∧
          f.slotCalled = t.blockCount.toNat % 12 ∧ f.fitted = x.fitted ∧
          f.words = ((berthsOf l).filter fun b => (slotOf b).val < x.fitted).map word ∧
          f.audio = (((berthsOf l).filter fun b => t.presence b = .present).map fun b =>
            (t.mixOf b).delivered.getD Block.silence) ∧
          f.packets = ((List.finRange laneCount).filterMap fun n => (x.queues.get n).head?.map fun p => (n, p)))

/-- A reply slot still open when BLOCK_START begins the next block completes first, as SILENT, line by line (R35, R36; the
model's choice, log entry 5). What BLOCK_START leaves as it is when none is open (the order of its work is the model's
choice, log entry 4): the block count rises by one (Introduction 1.5.1.2); settings, profiles, patterns, counters of the ports, link
records and line states stay, and without a commit due the berth records and the lanes. -/
def Obligations.BlockStartFrame : Prop :=
  (∀ (s : State) (micD micC : Block) (first : List BerthNo), Up s → s.boundary.opened = false →
    ∃ s1 s2 s3 s4, exec (.replySlotComplete 0 .silent) s = .next s1 ∧ exec (.replySlotComplete 1 .silent) s1 = .next s2 ∧
      exec (.replySlotComplete 2 .silent) s2 = .next s3 ∧ exec (.replySlotComplete 3 .silent) s3 = .next s4 ∧
      (∀ l, (s4.line l).slotOpen = false) ∧
      exec (.blockStart micD micC first) s = exec (.blockStart micD micC first) s4) ∧
  ∀ (s : State) (micD micC : Block) (first : List BerthNo), Up s → s.boundary.opened = false →
    (∀ l, (s.line l).slotOpen = false) →
    ∃ t, exec (.blockStart micD micC first) s = .next t ∧ t.blockCount = s.blockCount + 1 ∧
      t.boundary = ⟨false, false, false⟩ ∧ t.device = s.device ∧ t.coach = s.coach ∧ t.resetLow = s.resetLow ∧
      t.events.enables = s.events.enables ∧ t.chimes.patterns = s.chimes.patterns ∧ t.media.port = s.media.port ∧
      (t.media.recorded.appended = s.media.recorded.appended ∧ t.media.recorded.full = s.media.recorded.full ∧
        t.media.recorded.stray = s.media.recorded.stray) ∧
      (∀ p, t.programme p = { s.programme p with tracks := (t.programme p).tracks }) ∧
      t.ann = { s.ann with entries := t.ann.entries, queue := t.ann.queue, finished := t.ann.finished } ∧
      t.link = { s.link with receive := t.link.receive, age := t.link.age, timeout := t.link.timeout } ∧
      (s.link.receive = .hunt → t.link = s.link) ∧
      (∀ l, t.line l = { s.line l with framesSent := (t.line l).framesSent, queues := (t.line l).queues,
                                       frame := (t.line l).frame, slotOpen := (t.line l).slotOpen, frameDue := false }) ∧
      (s.commitPending = false ∨ (s.blockCount + 1).toNat % 12 ≠ 0 →
        t.berths = s.berths ∧ t.lanes = s.lanes ∧ t.commitPending = s.commitPending)

/-! ## Coach inputs and calls (chapter 10) -/

/-- R160: COACH SET's tests, and the coach settings that an accepted one leaves and reports. -/
def Obligations.CoachSetStoresSettings : Prop :=
  ∀ (s : State) (x : CoachBody), Ready s →
    let unfit := x.undefinedBit = true ∨ (∃ v, x.alarmCard = some v ∧ 63 < v.toNat) ∨
      ∃ v, x.busyCard = some v ∧ 63 < v.toNat
    (unfit → exec (.coachSet x) s = .next (answered 0x18 .badField [] s)) ∧
    (¬ unfit →
      let quiet := x.quiet.elim s.coach.quiet fun v => min 3 v.toNat
      let limit := x.limit.elim s.coach.limit fun v => min 96 v.toNat
      let alarmCard := x.alarmCard.elim s.coach.alarmCard fun v => v.toNat
      let busyCard := x.busyCard.elim s.coach.busyCard fun v => v.toNat
      let clamped := (∃ v, x.quiet = some v ∧ 3 < v.toNat) ∨ ∃ v, x.limit = some v ∧ 96 < v.toNat
      ∃ st, (clamped → st = .clamped) ∧ (¬ clamped → st = .done) ∧
        exec (.coachSet x) s = .next (answered 0x18 st
          [BitVec.ofNat 8 quiet, BitVec.ofNat 8 limit, BitVec.ofNat 8 alarmCard, BitVec.ofNat 8 busyCard]
          { s with coach := { s.coach with quiet := quiet, limit := limit, alarmCard := alarmCard,
                                           busyCard := busyCard } }))

/-- ALARM RELEASE by device state, contact and latch (R158), and what the clearing of the latch does at once at every PRESENT
berth (R153). Every reply carries the latch, a refusal's too (the model's reading, log entry 8). -/
def Obligations.AlarmReleaseMutesProgrammes : Prop :=
  ∀ s : State, Ready s →
    (s.device = .config ∨ s.coach.alarmIn.active = true →
      exec .alarmRelease s = .next (answered 0x1A .wrongState [if s.coach.latch then 1 else 0] s)) ∧
    (s.device = .run → s.coach.alarmIn.active = false → s.coach.latch = false →
      exec .alarmRelease s = .next (answered 0x1A .done [0] s)) ∧
    (s.device = .run → s.coach.alarmIn.active = false → s.coach.latch = true →
      ∃ m, exec .alarmRelease s = .next (answered 0x1A .done [0]
          { s with coach := { s.coach with latch := false }, mix := m }) ∧
        ∀ b, (s.presence b ≠ .present → m.get b = s.mixOf b) ∧
          (s.presence b = .present → ∀ e, s.floorEntry? b = some e →
            m.get b = { s.mixOf b with duck := 127, duckStep := e.params.attack }) ∧
          (s.presence b = .present → (s.mixOf b).floor = none →
            m.get b = { s.mixOf b with duck := 127, duckTarget := 0, duckStep := 1 }))

/-- CALL TAKE and CALL CLEAR (R163, R164): the entry that leaves the call queue, its stamp and its wait modulo 2^32 (that
a reply to a queue not empty ends with its empty indication clear, and the code of the kind, are the model's readings, log
entry 8). -/
def Obligations.CallsLeaveTheQueue : Prop :=
  ∀ s : State, Ready s →
    (s.coach.calls = [] → exec .callTake s = .next (answered 0x1B .done [1] s)) ∧
    (∀ c rest, s.coach.calls = c :: rest →
      exec .callTake s = .next (answered 0x1B .done
        ([BitVec.ofNat 8 c.berth.val] ++ byte4 c.stamp.toNat ++ [10] ++ byte4 (s.blockCount - c.stamp).toNat ++
          [BitVec.ofNat 8 rest.length, 0])
        { s with coach := { s.coach with calls := rest } })) ∧
    ∀ n : Byte,
      (48 ≤ n.toNat → exec (.callClear n) s = .next (answered 0x1C .badField [] s)) ∧
      ∀ b : BerthNo, n.toNat = b.val →
        ((∀ c ∈ s.coach.calls, c.berth ≠ b) → exec (.callClear n) s = .next (answered 0x1C .notFound [] s)) ∧
        ∀ before c after, s.coach.calls = before ++ c :: after → c.berth = b → (∀ d ∈ before ++ after, d.berth ≠ b) →
          exec (.callClear n) s = .next (answered 0x1C .done
            (byte4 c.stamp.toNat ++ byte4 (s.blockCount - c.stamp).toNat)
            { s with coach := { s.coach with calls := before ++ after } })

/-- R155: what one sample does to the filter of its contact, the third differing sample in a row being the edge; R156,
R157: what the edges of ALARM_IN do. An edge to the state the filter already holds is none (R156; the model's choice of
what the command then does, log entry 6). -/
def Obligations.ContactFiltersAndAlarmEdges : Prop :=
  (∀ (s : State) (c : Contact) (active : Bool), Up s →
    ((s.filter c).active = active →
      exec (.contactSample c active) s = .next { s with coach := withFilter s.coach c ⟨active, 0⟩ }) ∧
    ((s.filter c).active ≠ active → (s.filter c).run < 2 →
      exec (.contactSample c active) s =
        .next { s with coach := withFilter s.coach c ⟨!active, (s.filter c).run + 1⟩ }) ∧
    ((s.filter c).active ≠ active → 2 ≤ (s.filter c).run →
      exec (.contactSample c active) s = exec (edgeCommand c active) s)) ∧
  ∀ s : State, Up s →
    let pressed := { s.coach with alarmIn := ⟨true, 0⟩ }
    (s.coach.alarmIn.active = true → exec .alarmInPress s = .next s) ∧
    (s.coach.alarmIn.active = false → s.device = .config ∨ s.coach.latch = true →
      exec .alarmInPress s = .next { s with coach := pressed }) ∧
    (s.coach.alarmIn.active = false → s.device = .run → s.coach.latch = false →
      exec .alarmInPress s = .next { s with
        coach := { pressed with latch := true }
        events := { s.events with flags := s.events.flags ||| eventMask .alarm } }) ∧
    (s.coach.alarmIn.active = false → exec .alarmInRelease s = .next s) ∧
    (s.coach.alarmIn.active = true →
      exec .alarmInRelease s = .next { s with coach := { s.coach with alarmIn := ⟨false, 0⟩ } })

/-! ## Device state, events and the control link (chapters 11 and 12) -/

/-- START by device state (R170, R29, R157), RESTART's reply and the device reset that its end brings, and the reset that
RESET_N brings by returning high (R171). Commands still waiting are not the part's (log entry 1), and that START and RESTART
answer DONE without a body is the model's choice (log entry 8). -/
def Obligations.StartAndDeviceResets : Prop :=
  (∀ s : State, Ready s →
    (s.device = .run → exec .start s = .next (answered 0x1D .wrongState [] s)) ∧
    (s.device = .config → ∃ lines, exec .start s = .next (answered 0x1D .done [] { s with
        device := .run
        lines := lines
        coach := { s.coach with latch := s.coach.latch || s.coach.alarmIn.active }
        events := { s.events with flags :=
          (if s.coach.alarmIn.active && !s.coach.latch then s.events.flags ||| eventMask .alarm
            else s.events.flags) } }) ∧
      ∀ l, lines.get l = if 1 ≤ (s.line l).fitted then { s.line l with state := .running } else s.line l) ∧
    exec .restart s = .next { s with link := { s.link with tx := .sending ⟨0x1E, 0x00, []⟩ true } }) ∧
  (∀ (s : State) (r : Reply), Up s → s.link.tx = .sending r true →
    exec .replySent s = .next { State.reset with pending := s.pending }) ∧
  ∀ s : State, (s.resetLow = true → exec .resetNHigh s = .next { State.reset with pending := s.pending }) ∧
    (s.resetLow = false → exec .resetNHigh s = .next s)

/-- EVENTS CLEAR and EVENTS ENABLE (R174, R175): the named flags cleared, or the 13 enables replaced, and the reply; a
position beyond the 13 is refused. ATTN and CTL_RTR follow flags, enables and the request buffer at once (R176, R167). Each
set as one two-byte value in the reply is the model's choice (log entry 8). -/
def Obligations.EventFlagsAndPins : Prop :=
  (∀ (s : State) (v : Half), Ready s →
    (8192 ≤ v.toNat → exec (.eventsClear v) s = .next (answered 0x20 .badField [] s) ∧
      exec (.eventsEnable v) s = .next (answered 0x21 .badField [] s)) ∧
    (v.toNat < 8192 →
      (∃ flags : BitVec 13, (∀ i, i < 13 → flags.getLsbD i = (s.events.flags.getLsbD i && !v.getLsbD i)) ∧
        exec (.eventsClear v) s = .next (answered 0x20 .done (byte2 flags.toNat ++ byte2 s.events.enables.toNat)
          { s with events := { s.events with flags := flags } })) ∧
      ∃ enables : BitVec 13, (∀ i, i < 13 → enables.getLsbD i = v.getLsbD i) ∧
        exec (.eventsEnable v) s = .next (answered 0x21 .done (byte2 s.events.flags.toNat ++ byte2 enables.toNat)
          { s with events := { s.events with enables := enables } }))) ∧
  ∀ s : State, Up s →
    (s.attn = true ↔ ∃ e, s.flag e = true ∧ s.events.enables.getLsbD (eventBit e) = true) ∧
    (s.ctlRtr = true ↔ s.link.buffer.length < 4)

/-- R165, R166, R167: what each byte received on CTL_RX does in each receive state, a frame being its bytes one after the
other, whatever they are; the discards with their counters and LINK_ERROR, the overrun, and the frame age of an incomplete
frame at block starts. A whole frame that completes with the transmitter SENDING waits in the buffer (R168); while RESTART's
reply is being sent it is discarded without count at a full buffer (R171; with room, log entry 21). FRAME_TIMEOUT opening the
next block, and doing nothing without its cause, is the model's choice (log entry 3); so is the frame age kept after a
discard or a completion (log entry 10). -/
def Obligations.BytesFormRecords : Prop :=
  (∀ (s : State) (x : RxByte), Up s →
    let k := s.link
    let received := exec (.ctlRxByte x) s
    (k.receive = .hunt → x = ⟨0xA5, true⟩ → received = .next { s with link := { k with receive := .length, age := 0 } }) ∧
    (k.receive = .hunt → x ≠ ⟨0xA5, true⟩ → received = .next s) ∧
    (k.receive ≠ .hunt → x.stopGood = false →
      received = .next (linkErrorWith s { k with receive := .hunt, stopBit := min 65535 (k.stopBit + 1) })) ∧
    (k.receive = .length → x.stopGood = true → 1 ≤ x.data.toNat → x.data.toNat ≤ 65 →
      received = .next { s with link := { k with receive := .counted x.data.toNat [] } }) ∧
    (k.receive = .length → x.stopGood = true → x.data.toNat = 0 ∨ 65 < x.data.toNat →
      received = .next (linkErrorWith s { k with receive := .hunt, badLength := min 65535 (k.badLength + 1) })) ∧
    (∀ n kept, k.receive = .counted n kept → x.stopGood = true →
      received = .next { s with link := { k with
        receive := (if kept.length + 1 < n then .counted n (kept ++ [x.data]) else .check n (kept ++ [x.data])) } }) ∧
    (∀ n kept, k.receive = .check n kept → x.stopGood = true →
      (k.buffer.length < 4 → k.tx ≠ .free →
        received = .next { s with link := { k with
          receive := .hunt
          buffer := k.buffer ++ [⟨kept, decide ((BitVec.ofNat 8 n :: kept ++ [x.data]).sum = 0)⟩] } }) ∧
      (4 ≤ k.buffer.length → (∀ r, k.tx ≠ .sending r true) →
        received = .next (linkErrorWith s { k with receive := .hunt, overrun := min 65535 (k.overrun + 1) })) ∧
      (4 ≤ k.buffer.length → ∀ r, k.tx = .sending r true →
        received = .next { s with link := { k with receive := .hunt } }))) ∧
  (∀ (s : State) (bytes : List RxByte), ∃ t, exec (.controlFrameReceived bytes) s = .next t ∧ Received bytes s t) ∧
  (∀ (s : State) (counted : List Byte) (check : Byte), Up s → s.link.receive = .hunt → 1 ≤ counted.length →
    counted.length ≤ 65 →
    let k := s.link
    let arrived := exec (.controlFrameReceived (frameOf counted check)) s
    (k.buffer.length < 4 → k.tx ≠ .free → arrived = .next { s with link := { k with
      age := 0, buffer := k.buffer ++ [⟨counted, decide (frameSum counted check = 0)⟩] } }) ∧
    (4 ≤ k.buffer.length → (∀ r, k.tx ≠ .sending r true) →
      arrived = .next (linkErrorWith s { k with age := 0, overrun := min 65535 (k.overrun + 1) })) ∧
    (4 ≤ k.buffer.length → ∀ r, k.tx = .sending r true → arrived = .next { s with link := { k with age := 0 } })) ∧
  (∀ s : State, Up s →
    let o := openBoundary s
    let expires := o.boundary.ageDue = true ∧ o.link.receive ≠ .hunt ∧ 19 ≤ o.link.age
    (¬ expires → exec .frameTimeout s = .next s) ∧
    (expires → exec .frameTimeout s = .next { linkErrorWith o
      { o.link with receive := .hunt, age := o.link.age + 1, timeout := min 65535 (o.link.timeout + 1) } with
        boundary := { o.boundary with ageDue := false } })) ∧
  ∀ (s : State) (micD micC : Block) (first : List BerthNo), Up s → s.boundary.opened = false →
    ∃ t, exec (.blockStart micD micC first) s = .next t ∧
      (s.link.receive = .hunt → t.link = s.link) ∧
      (s.link.receive ≠ .hunt → s.link.age < 19 → t.link = { s.link with age := s.link.age + 1 }) ∧
      (s.link.receive ≠ .hunt → 19 ≤ s.link.age → t.flag .linkError = true ∧
        t.link = { s.link with receive := .hunt, age := s.link.age + 1, timeout := min 65535 (s.link.timeout + 1) })

/-- Every record of a host request, sent as a frame (R177, R178), is carried out as that request when the transmitter is FREE
(R168); a record that waits is carried out when the reply before it has been sent. The byte order in the bodies of BERTH
EDIT, LINE SETUP, PROGRAMME SETUP, CUT and MIX READ, of which 12.2.1 gives the length alone, is the model's choice (log entry
19). So are how a command stands for a record (log entry 2) and the frame age kept after the frame (log entry 10). -/
def Obligations.RequestFramesAreTheirCommands : Prop :=
  (∀ (c : Instr) (counted : List Byte) (check : Byte) (s : State), requestBytes c = some counted → c.wellFormed = true →
    frameSum counted check = 0 → Ready s → s.link.receive = .hunt → s.link.buffer = [] →
    exec (.controlFrameReceived (frameOf counted check)) s = exec c { s with link := { s.link with age := 0 } }) ∧
  (∀ s : State, Up s → s.link.tx = .free → exec .replySent s = .next s) ∧
  ∀ (s : State) (sent : Reply), Up s → s.link.tx = .sending sent false →
    (s.link.buffer = [] → exec .replySent s = .next { s with link := { s.link with tx := .free } }) ∧
    ∀ (c : Instr) (counted : List Byte) (rest : List Record), requestBytes c = some counted → c.wellFormed = true →
      s.link.buffer = ⟨counted, true⟩ :: rest →
      exec .replySent s = exec c { s with link := { s.link with tx := .free, buffer := rest } }

/-- R169: the three tests of a taken record in their order, with the counter and the reply of each refusal; a record with a
bad check that arrives as a frame is refused so. A record that passes is no link refusal, and then this command does
nothing (the model's choice, log entry 2). -/
def Obligations.LinkRefusesRecords : Prop :=
  (∀ (s : State) (counted : List Byte), Ready s →
    exec (.requestTakenLinkRefusal counted false) s = .next (answered 0x00 .check []
      { s with link := { s.link with check := min 65535 (s.link.check + 1) } }) ∧
    ∀ kind body, counted = kind :: body →
      (kind = 0 ∨ 0x21 < kind.toNat →
        exec (.requestTakenLinkRefusal counted true) s = .next (answered kind .unknownKind [] s)) ∧
      (kind ≠ 0 → kind.toNat ≤ 0x21 → ¬ BodyFits kind body →
        exec (.requestTakenLinkRefusal counted true) s = .next (answered kind .length [] s)) ∧
      (kind ≠ 0 → kind.toNat ≤ 0x21 → BodyFits kind body →
        exec (.requestTakenLinkRefusal counted true) s = .next s)) ∧
  ∀ (s : State) (kind : Byte) (body : List Byte) (check : Byte), Ready s → s.link.receive = .hunt → s.link.buffer = [] →
    body.length ≤ 64 →
    let s' := { s with link := { s.link with age := 0 } }
    let arrived := exec (.controlFrameReceived (frameOf (kind :: body) check)) s
    (frameSum (kind :: body) check ≠ 0 → arrived = exec (.requestTakenLinkRefusal (kind :: body) false) s') ∧
    (frameSum (kind :: body) check = 0 → kind = 0 ∨ 0x21 < kind.toNat ∨ ¬ BodyFits kind body →
      arrived = exec (.requestTakenLinkRefusal (kind :: body) true) s')
end

