-- ==== Sys2Proof/Laws/State.lean ====
section
/-! SUPPORT. One lemma for each field after each named update of State: the field updated reads as given, every other as
before. -/

namespace Sys2Proof.Machine.State

variable (s : State)

@[simp] theorem setDevice_device (d : DeviceState) : (s.setDevice d).device = d := rfl
@[simp] theorem setDevice_blockCount (d : DeviceState) : (s.setDevice d).blockCount = s.blockCount := rfl
@[simp] theorem setDevice_link (d : DeviceState) : (s.setDevice d).link = s.link := rfl
@[simp] theorem setDevice_events (d : DeviceState) : (s.setDevice d).events = s.events := rfl
@[simp] theorem setDevice_berths (d : DeviceState) : (s.setDevice d).berths = s.berths := rfl
@[simp] theorem setDevice_commitPending (d : DeviceState) : (s.setDevice d).commitPending = s.commitPending := rfl
@[simp] theorem setDevice_lines (d : DeviceState) : (s.setDevice d).lines = s.lines := rfl
@[simp] theorem setDevice_lanes (d : DeviceState) : (s.setDevice d).lanes = s.lanes := rfl
@[simp] theorem setDevice_media (d : DeviceState) : (s.setDevice d).media = s.media := rfl
@[simp] theorem setDevice_ann (d : DeviceState) : (s.setDevice d).ann = s.ann := rfl
@[simp] theorem setDevice_chimes (d : DeviceState) : (s.setDevice d).chimes = s.chimes := rfl
@[simp] theorem setDevice_mix (d : DeviceState) : (s.setDevice d).mix = s.mix := rfl
@[simp] theorem setDevice_coach (d : DeviceState) : (s.setDevice d).coach = s.coach := rfl
@[simp] theorem setDevice_resetLow (d : DeviceState) : (s.setDevice d).resetLow = s.resetLow := rfl
@[simp] theorem setDevice_boundary (d : DeviceState) : (s.setDevice d).boundary = s.boundary := rfl
@[simp] theorem setDevice_pending (d : DeviceState) : (s.setDevice d).pending = s.pending := rfl

@[simp] theorem setBlockCount_device (c : Long) : (s.setBlockCount c).device = s.device := rfl
@[simp] theorem setBlockCount_blockCount (c : Long) : (s.setBlockCount c).blockCount = c := rfl
@[simp] theorem setBlockCount_link (c : Long) : (s.setBlockCount c).link = s.link := rfl
@[simp] theorem setBlockCount_events (c : Long) : (s.setBlockCount c).events = s.events := rfl
@[simp] theorem setBlockCount_berths (c : Long) : (s.setBlockCount c).berths = s.berths := rfl
@[simp] theorem setBlockCount_commitPending (c : Long) : (s.setBlockCount c).commitPending = s.commitPending := rfl
@[simp] theorem setBlockCount_lines (c : Long) : (s.setBlockCount c).lines = s.lines := rfl
@[simp] theorem setBlockCount_lanes (c : Long) : (s.setBlockCount c).lanes = s.lanes := rfl
@[simp] theorem setBlockCount_media (c : Long) : (s.setBlockCount c).media = s.media := rfl
@[simp] theorem setBlockCount_ann (c : Long) : (s.setBlockCount c).ann = s.ann := rfl
@[simp] theorem setBlockCount_chimes (c : Long) : (s.setBlockCount c).chimes = s.chimes := rfl
@[simp] theorem setBlockCount_mix (c : Long) : (s.setBlockCount c).mix = s.mix := rfl
@[simp] theorem setBlockCount_coach (c : Long) : (s.setBlockCount c).coach = s.coach := rfl
@[simp] theorem setBlockCount_resetLow (c : Long) : (s.setBlockCount c).resetLow = s.resetLow := rfl
@[simp] theorem setBlockCount_boundary (c : Long) : (s.setBlockCount c).boundary = s.boundary := rfl
@[simp] theorem setBlockCount_pending (c : Long) : (s.setBlockCount c).pending = s.pending := rfl

@[simp] theorem modLink_device (f : ControlLink → ControlLink) : (s.modLink f).device = s.device := rfl
@[simp] theorem modLink_blockCount (f : ControlLink → ControlLink) : (s.modLink f).blockCount = s.blockCount := rfl
@[simp] theorem modLink_link (f : ControlLink → ControlLink) : (s.modLink f).link = f s.link := rfl
@[simp] theorem modLink_events (f : ControlLink → ControlLink) : (s.modLink f).events = s.events := rfl
@[simp] theorem modLink_berths (f : ControlLink → ControlLink) : (s.modLink f).berths = s.berths := rfl
@[simp] theorem modLink_commitPending (f : ControlLink → ControlLink) : (s.modLink f).commitPending = s.commitPending := rfl
@[simp] theorem modLink_lines (f : ControlLink → ControlLink) : (s.modLink f).lines = s.lines := rfl
@[simp] theorem modLink_lanes (f : ControlLink → ControlLink) : (s.modLink f).lanes = s.lanes := rfl
@[simp] theorem modLink_media (f : ControlLink → ControlLink) : (s.modLink f).media = s.media := rfl
@[simp] theorem modLink_ann (f : ControlLink → ControlLink) : (s.modLink f).ann = s.ann := rfl
@[simp] theorem modLink_chimes (f : ControlLink → ControlLink) : (s.modLink f).chimes = s.chimes := rfl
@[simp] theorem modLink_mix (f : ControlLink → ControlLink) : (s.modLink f).mix = s.mix := rfl
@[simp] theorem modLink_coach (f : ControlLink → ControlLink) : (s.modLink f).coach = s.coach := rfl
@[simp] theorem modLink_resetLow (f : ControlLink → ControlLink) : (s.modLink f).resetLow = s.resetLow := rfl
@[simp] theorem modLink_boundary (f : ControlLink → ControlLink) : (s.modLink f).boundary = s.boundary := rfl
@[simp] theorem modLink_pending (f : ControlLink → ControlLink) : (s.modLink f).pending = s.pending := rfl

@[simp] theorem modEvents_device (f : Events → Events) : (s.modEvents f).device = s.device := rfl
@[simp] theorem modEvents_blockCount (f : Events → Events) : (s.modEvents f).blockCount = s.blockCount := rfl
@[simp] theorem modEvents_link (f : Events → Events) : (s.modEvents f).link = s.link := rfl
@[simp] theorem modEvents_events (f : Events → Events) : (s.modEvents f).events = f s.events := rfl
@[simp] theorem modEvents_berths (f : Events → Events) : (s.modEvents f).berths = s.berths := rfl
@[simp] theorem modEvents_commitPending (f : Events → Events) : (s.modEvents f).commitPending = s.commitPending := rfl
@[simp] theorem modEvents_lines (f : Events → Events) : (s.modEvents f).lines = s.lines := rfl
@[simp] theorem modEvents_lanes (f : Events → Events) : (s.modEvents f).lanes = s.lanes := rfl
@[simp] theorem modEvents_media (f : Events → Events) : (s.modEvents f).media = s.media := rfl
@[simp] theorem modEvents_ann (f : Events → Events) : (s.modEvents f).ann = s.ann := rfl
@[simp] theorem modEvents_chimes (f : Events → Events) : (s.modEvents f).chimes = s.chimes := rfl
@[simp] theorem modEvents_mix (f : Events → Events) : (s.modEvents f).mix = s.mix := rfl
@[simp] theorem modEvents_coach (f : Events → Events) : (s.modEvents f).coach = s.coach := rfl
@[simp] theorem modEvents_resetLow (f : Events → Events) : (s.modEvents f).resetLow = s.resetLow := rfl
@[simp] theorem modEvents_boundary (f : Events → Events) : (s.modEvents f).boundary = s.boundary := rfl
@[simp] theorem modEvents_pending (f : Events → Events) : (s.modEvents f).pending = s.pending := rfl

@[simp] theorem setBerths_device (t : Table Berth berthCount) : (s.setBerths t).device = s.device := rfl
@[simp] theorem setBerths_blockCount (t : Table Berth berthCount) : (s.setBerths t).blockCount = s.blockCount := rfl
@[simp] theorem setBerths_link (t : Table Berth berthCount) : (s.setBerths t).link = s.link := rfl
@[simp] theorem setBerths_events (t : Table Berth berthCount) : (s.setBerths t).events = s.events := rfl
@[simp] theorem setBerths_berths (t : Table Berth berthCount) : (s.setBerths t).berths = t := rfl
@[simp] theorem setBerths_commitPending (t : Table Berth berthCount) : (s.setBerths t).commitPending = s.commitPending := rfl
@[simp] theorem setBerths_lines (t : Table Berth berthCount) : (s.setBerths t).lines = s.lines := rfl
@[simp] theorem setBerths_lanes (t : Table Berth berthCount) : (s.setBerths t).lanes = s.lanes := rfl
@[simp] theorem setBerths_media (t : Table Berth berthCount) : (s.setBerths t).media = s.media := rfl
@[simp] theorem setBerths_ann (t : Table Berth berthCount) : (s.setBerths t).ann = s.ann := rfl
@[simp] theorem setBerths_chimes (t : Table Berth berthCount) : (s.setBerths t).chimes = s.chimes := rfl
@[simp] theorem setBerths_mix (t : Table Berth berthCount) : (s.setBerths t).mix = s.mix := rfl
@[simp] theorem setBerths_coach (t : Table Berth berthCount) : (s.setBerths t).coach = s.coach := rfl
@[simp] theorem setBerths_resetLow (t : Table Berth berthCount) : (s.setBerths t).resetLow = s.resetLow := rfl
@[simp] theorem setBerths_boundary (t : Table Berth berthCount) : (s.setBerths t).boundary = s.boundary := rfl
@[simp] theorem setBerths_pending (t : Table Berth berthCount) : (s.setBerths t).pending = s.pending := rfl

@[simp] theorem setCommitPending_device (b : Bool) : (s.setCommitPending b).device = s.device := rfl
@[simp] theorem setCommitPending_blockCount (b : Bool) : (s.setCommitPending b).blockCount = s.blockCount := rfl
@[simp] theorem setCommitPending_link (b : Bool) : (s.setCommitPending b).link = s.link := rfl
@[simp] theorem setCommitPending_events (b : Bool) : (s.setCommitPending b).events = s.events := rfl
@[simp] theorem setCommitPending_berths (b : Bool) : (s.setCommitPending b).berths = s.berths := rfl
@[simp] theorem setCommitPending_commitPending (b : Bool) : (s.setCommitPending b).commitPending = b := rfl
@[simp] theorem setCommitPending_lines (b : Bool) : (s.setCommitPending b).lines = s.lines := rfl
@[simp] theorem setCommitPending_lanes (b : Bool) : (s.setCommitPending b).lanes = s.lanes := rfl
@[simp] theorem setCommitPending_media (b : Bool) : (s.setCommitPending b).media = s.media := rfl
@[simp] theorem setCommitPending_ann (b : Bool) : (s.setCommitPending b).ann = s.ann := rfl
@[simp] theorem setCommitPending_chimes (b : Bool) : (s.setCommitPending b).chimes = s.chimes := rfl
@[simp] theorem setCommitPending_mix (b : Bool) : (s.setCommitPending b).mix = s.mix := rfl
@[simp] theorem setCommitPending_coach (b : Bool) : (s.setCommitPending b).coach = s.coach := rfl
@[simp] theorem setCommitPending_resetLow (b : Bool) : (s.setCommitPending b).resetLow = s.resetLow := rfl
@[simp] theorem setCommitPending_boundary (b : Bool) : (s.setCommitPending b).boundary = s.boundary := rfl
@[simp] theorem setCommitPending_pending (b : Bool) : (s.setCommitPending b).pending = s.pending := rfl

@[simp] theorem setLines_device (t : Table Line lineCount) : (s.setLines t).device = s.device := rfl
@[simp] theorem setLines_blockCount (t : Table Line lineCount) : (s.setLines t).blockCount = s.blockCount := rfl
@[simp] theorem setLines_link (t : Table Line lineCount) : (s.setLines t).link = s.link := rfl
@[simp] theorem setLines_events (t : Table Line lineCount) : (s.setLines t).events = s.events := rfl
@[simp] theorem setLines_berths (t : Table Line lineCount) : (s.setLines t).berths = s.berths := rfl
@[simp] theorem setLines_commitPending (t : Table Line lineCount) : (s.setLines t).commitPending = s.commitPending := rfl
@[simp] theorem setLines_lines (t : Table Line lineCount) : (s.setLines t).lines = t := rfl
@[simp] theorem setLines_lanes (t : Table Line lineCount) : (s.setLines t).lanes = s.lanes := rfl
@[simp] theorem setLines_media (t : Table Line lineCount) : (s.setLines t).media = s.media := rfl
@[simp] theorem setLines_ann (t : Table Line lineCount) : (s.setLines t).ann = s.ann := rfl
@[simp] theorem setLines_chimes (t : Table Line lineCount) : (s.setLines t).chimes = s.chimes := rfl
@[simp] theorem setLines_mix (t : Table Line lineCount) : (s.setLines t).mix = s.mix := rfl
@[simp] theorem setLines_coach (t : Table Line lineCount) : (s.setLines t).coach = s.coach := rfl
@[simp] theorem setLines_resetLow (t : Table Line lineCount) : (s.setLines t).resetLow = s.resetLow := rfl
@[simp] theorem setLines_boundary (t : Table Line lineCount) : (s.setLines t).boundary = s.boundary := rfl
@[simp] theorem setLines_pending (t : Table Line lineCount) : (s.setLines t).pending = s.pending := rfl

@[simp] theorem setLanes_device (t : Table LaneSet lineCount) : (s.setLanes t).device = s.device := rfl
@[simp] theorem setLanes_blockCount (t : Table LaneSet lineCount) : (s.setLanes t).blockCount = s.blockCount := rfl
@[simp] theorem setLanes_link (t : Table LaneSet lineCount) : (s.setLanes t).link = s.link := rfl
@[simp] theorem setLanes_events (t : Table LaneSet lineCount) : (s.setLanes t).events = s.events := rfl
@[simp] theorem setLanes_berths (t : Table LaneSet lineCount) : (s.setLanes t).berths = s.berths := rfl
@[simp] theorem setLanes_commitPending (t : Table LaneSet lineCount) : (s.setLanes t).commitPending = s.commitPending := rfl
@[simp] theorem setLanes_lines (t : Table LaneSet lineCount) : (s.setLanes t).lines = s.lines := rfl
@[simp] theorem setLanes_lanes (t : Table LaneSet lineCount) : (s.setLanes t).lanes = t := rfl
@[simp] theorem setLanes_media (t : Table LaneSet lineCount) : (s.setLanes t).media = s.media := rfl
@[simp] theorem setLanes_ann (t : Table LaneSet lineCount) : (s.setLanes t).ann = s.ann := rfl
@[simp] theorem setLanes_chimes (t : Table LaneSet lineCount) : (s.setLanes t).chimes = s.chimes := rfl
@[simp] theorem setLanes_mix (t : Table LaneSet lineCount) : (s.setLanes t).mix = s.mix := rfl
@[simp] theorem setLanes_coach (t : Table LaneSet lineCount) : (s.setLanes t).coach = s.coach := rfl
@[simp] theorem setLanes_resetLow (t : Table LaneSet lineCount) : (s.setLanes t).resetLow = s.resetLow := rfl
@[simp] theorem setLanes_boundary (t : Table LaneSet lineCount) : (s.setLanes t).boundary = s.boundary := rfl
@[simp] theorem setLanes_pending (t : Table LaneSet lineCount) : (s.setLanes t).pending = s.pending := rfl

@[simp] theorem modMedia_device (f : Media → Media) : (s.modMedia f).device = s.device := rfl
@[simp] theorem modMedia_blockCount (f : Media → Media) : (s.modMedia f).blockCount = s.blockCount := rfl
@[simp] theorem modMedia_link (f : Media → Media) : (s.modMedia f).link = s.link := rfl
@[simp] theorem modMedia_events (f : Media → Media) : (s.modMedia f).events = s.events := rfl
@[simp] theorem modMedia_berths (f : Media → Media) : (s.modMedia f).berths = s.berths := rfl
@[simp] theorem modMedia_commitPending (f : Media → Media) : (s.modMedia f).commitPending = s.commitPending := rfl
@[simp] theorem modMedia_lines (f : Media → Media) : (s.modMedia f).lines = s.lines := rfl
@[simp] theorem modMedia_lanes (f : Media → Media) : (s.modMedia f).lanes = s.lanes := rfl
@[simp] theorem modMedia_media (f : Media → Media) : (s.modMedia f).media = f s.media := rfl
@[simp] theorem modMedia_ann (f : Media → Media) : (s.modMedia f).ann = s.ann := rfl
@[simp] theorem modMedia_chimes (f : Media → Media) : (s.modMedia f).chimes = s.chimes := rfl
@[simp] theorem modMedia_mix (f : Media → Media) : (s.modMedia f).mix = s.mix := rfl
@[simp] theorem modMedia_coach (f : Media → Media) : (s.modMedia f).coach = s.coach := rfl
@[simp] theorem modMedia_resetLow (f : Media → Media) : (s.modMedia f).resetLow = s.resetLow := rfl
@[simp] theorem modMedia_boundary (f : Media → Media) : (s.modMedia f).boundary = s.boundary := rfl
@[simp] theorem modMedia_pending (f : Media → Media) : (s.modMedia f).pending = s.pending := rfl

@[simp] theorem modAnn_device (f : Announcer → Announcer) : (s.modAnn f).device = s.device := rfl
@[simp] theorem modAnn_blockCount (f : Announcer → Announcer) : (s.modAnn f).blockCount = s.blockCount := rfl
@[simp] theorem modAnn_link (f : Announcer → Announcer) : (s.modAnn f).link = s.link := rfl
@[simp] theorem modAnn_events (f : Announcer → Announcer) : (s.modAnn f).events = s.events := rfl
@[simp] theorem modAnn_berths (f : Announcer → Announcer) : (s.modAnn f).berths = s.berths := rfl
@[simp] theorem modAnn_commitPending (f : Announcer → Announcer) : (s.modAnn f).commitPending = s.commitPending := rfl
@[simp] theorem modAnn_lines (f : Announcer → Announcer) : (s.modAnn f).lines = s.lines := rfl
@[simp] theorem modAnn_lanes (f : Announcer → Announcer) : (s.modAnn f).lanes = s.lanes := rfl
@[simp] theorem modAnn_media (f : Announcer → Announcer) : (s.modAnn f).media = s.media := rfl
@[simp] theorem modAnn_ann (f : Announcer → Announcer) : (s.modAnn f).ann = f s.ann := rfl
@[simp] theorem modAnn_chimes (f : Announcer → Announcer) : (s.modAnn f).chimes = s.chimes := rfl
@[simp] theorem modAnn_mix (f : Announcer → Announcer) : (s.modAnn f).mix = s.mix := rfl
@[simp] theorem modAnn_coach (f : Announcer → Announcer) : (s.modAnn f).coach = s.coach := rfl
@[simp] theorem modAnn_resetLow (f : Announcer → Announcer) : (s.modAnn f).resetLow = s.resetLow := rfl
@[simp] theorem modAnn_boundary (f : Announcer → Announcer) : (s.modAnn f).boundary = s.boundary := rfl
@[simp] theorem modAnn_pending (f : Announcer → Announcer) : (s.modAnn f).pending = s.pending := rfl

@[simp] theorem modChimes_device (f : Chimes → Chimes) : (s.modChimes f).device = s.device := rfl
@[simp] theorem modChimes_blockCount (f : Chimes → Chimes) : (s.modChimes f).blockCount = s.blockCount := rfl
@[simp] theorem modChimes_link (f : Chimes → Chimes) : (s.modChimes f).link = s.link := rfl
@[simp] theorem modChimes_events (f : Chimes → Chimes) : (s.modChimes f).events = s.events := rfl
@[simp] theorem modChimes_berths (f : Chimes → Chimes) : (s.modChimes f).berths = s.berths := rfl
@[simp] theorem modChimes_commitPending (f : Chimes → Chimes) : (s.modChimes f).commitPending = s.commitPending := rfl
@[simp] theorem modChimes_lines (f : Chimes → Chimes) : (s.modChimes f).lines = s.lines := rfl
@[simp] theorem modChimes_lanes (f : Chimes → Chimes) : (s.modChimes f).lanes = s.lanes := rfl
@[simp] theorem modChimes_media (f : Chimes → Chimes) : (s.modChimes f).media = s.media := rfl
@[simp] theorem modChimes_ann (f : Chimes → Chimes) : (s.modChimes f).ann = s.ann := rfl
@[simp] theorem modChimes_chimes (f : Chimes → Chimes) : (s.modChimes f).chimes = f s.chimes := rfl
@[simp] theorem modChimes_mix (f : Chimes → Chimes) : (s.modChimes f).mix = s.mix := rfl
@[simp] theorem modChimes_coach (f : Chimes → Chimes) : (s.modChimes f).coach = s.coach := rfl
@[simp] theorem modChimes_resetLow (f : Chimes → Chimes) : (s.modChimes f).resetLow = s.resetLow := rfl
@[simp] theorem modChimes_boundary (f : Chimes → Chimes) : (s.modChimes f).boundary = s.boundary := rfl
@[simp] theorem modChimes_pending (f : Chimes → Chimes) : (s.modChimes f).pending = s.pending := rfl

@[simp] theorem setMix_device (t : Table MixState berthCount) : (s.setMix t).device = s.device := rfl
@[simp] theorem setMix_blockCount (t : Table MixState berthCount) : (s.setMix t).blockCount = s.blockCount := rfl
@[simp] theorem setMix_link (t : Table MixState berthCount) : (s.setMix t).link = s.link := rfl
@[simp] theorem setMix_events (t : Table MixState berthCount) : (s.setMix t).events = s.events := rfl
@[simp] theorem setMix_berths (t : Table MixState berthCount) : (s.setMix t).berths = s.berths := rfl
@[simp] theorem setMix_commitPending (t : Table MixState berthCount) : (s.setMix t).commitPending = s.commitPending := rfl
@[simp] theorem setMix_lines (t : Table MixState berthCount) : (s.setMix t).lines = s.lines := rfl
@[simp] theorem setMix_lanes (t : Table MixState berthCount) : (s.setMix t).lanes = s.lanes := rfl
@[simp] theorem setMix_media (t : Table MixState berthCount) : (s.setMix t).media = s.media := rfl
@[simp] theorem setMix_ann (t : Table MixState berthCount) : (s.setMix t).ann = s.ann := rfl
@[simp] theorem setMix_chimes (t : Table MixState berthCount) : (s.setMix t).chimes = s.chimes := rfl
@[simp] theorem setMix_mix (t : Table MixState berthCount) : (s.setMix t).mix = t := rfl
@[simp] theorem setMix_coach (t : Table MixState berthCount) : (s.setMix t).coach = s.coach := rfl
@[simp] theorem setMix_resetLow (t : Table MixState berthCount) : (s.setMix t).resetLow = s.resetLow := rfl
@[simp] theorem setMix_boundary (t : Table MixState berthCount) : (s.setMix t).boundary = s.boundary := rfl
@[simp] theorem setMix_pending (t : Table MixState berthCount) : (s.setMix t).pending = s.pending := rfl

@[simp] theorem modCoach_device (f : Coach → Coach) : (s.modCoach f).device = s.device := rfl
@[simp] theorem modCoach_blockCount (f : Coach → Coach) : (s.modCoach f).blockCount = s.blockCount := rfl
@[simp] theorem modCoach_link (f : Coach → Coach) : (s.modCoach f).link = s.link := rfl
@[simp] theorem modCoach_events (f : Coach → Coach) : (s.modCoach f).events = s.events := rfl
@[simp] theorem modCoach_berths (f : Coach → Coach) : (s.modCoach f).berths = s.berths := rfl
@[simp] theorem modCoach_commitPending (f : Coach → Coach) : (s.modCoach f).commitPending = s.commitPending := rfl
@[simp] theorem modCoach_lines (f : Coach → Coach) : (s.modCoach f).lines = s.lines := rfl
@[simp] theorem modCoach_lanes (f : Coach → Coach) : (s.modCoach f).lanes = s.lanes := rfl
@[simp] theorem modCoach_media (f : Coach → Coach) : (s.modCoach f).media = s.media := rfl
@[simp] theorem modCoach_ann (f : Coach → Coach) : (s.modCoach f).ann = s.ann := rfl
@[simp] theorem modCoach_chimes (f : Coach → Coach) : (s.modCoach f).chimes = s.chimes := rfl
@[simp] theorem modCoach_mix (f : Coach → Coach) : (s.modCoach f).mix = s.mix := rfl
@[simp] theorem modCoach_coach (f : Coach → Coach) : (s.modCoach f).coach = f s.coach := rfl
@[simp] theorem modCoach_resetLow (f : Coach → Coach) : (s.modCoach f).resetLow = s.resetLow := rfl
@[simp] theorem modCoach_boundary (f : Coach → Coach) : (s.modCoach f).boundary = s.boundary := rfl
@[simp] theorem modCoach_pending (f : Coach → Coach) : (s.modCoach f).pending = s.pending := rfl

@[simp] theorem setResetLow_device (b : Bool) : (s.setResetLow b).device = s.device := rfl
@[simp] theorem setResetLow_blockCount (b : Bool) : (s.setResetLow b).blockCount = s.blockCount := rfl
@[simp] theorem setResetLow_link (b : Bool) : (s.setResetLow b).link = s.link := rfl
@[simp] theorem setResetLow_events (b : Bool) : (s.setResetLow b).events = s.events := rfl
@[simp] theorem setResetLow_berths (b : Bool) : (s.setResetLow b).berths = s.berths := rfl
@[simp] theorem setResetLow_commitPending (b : Bool) : (s.setResetLow b).commitPending = s.commitPending := rfl
@[simp] theorem setResetLow_lines (b : Bool) : (s.setResetLow b).lines = s.lines := rfl
@[simp] theorem setResetLow_lanes (b : Bool) : (s.setResetLow b).lanes = s.lanes := rfl
@[simp] theorem setResetLow_media (b : Bool) : (s.setResetLow b).media = s.media := rfl
@[simp] theorem setResetLow_ann (b : Bool) : (s.setResetLow b).ann = s.ann := rfl
@[simp] theorem setResetLow_chimes (b : Bool) : (s.setResetLow b).chimes = s.chimes := rfl
@[simp] theorem setResetLow_mix (b : Bool) : (s.setResetLow b).mix = s.mix := rfl
@[simp] theorem setResetLow_coach (b : Bool) : (s.setResetLow b).coach = s.coach := rfl
@[simp] theorem setResetLow_resetLow (b : Bool) : (s.setResetLow b).resetLow = b := rfl
@[simp] theorem setResetLow_boundary (b : Bool) : (s.setResetLow b).boundary = s.boundary := rfl
@[simp] theorem setResetLow_pending (b : Bool) : (s.setResetLow b).pending = s.pending := rfl

@[simp] theorem modBoundary_device (f : Boundary → Boundary) : (s.modBoundary f).device = s.device := rfl
@[simp] theorem modBoundary_blockCount (f : Boundary → Boundary) : (s.modBoundary f).blockCount = s.blockCount := rfl
@[simp] theorem modBoundary_link (f : Boundary → Boundary) : (s.modBoundary f).link = s.link := rfl
@[simp] theorem modBoundary_events (f : Boundary → Boundary) : (s.modBoundary f).events = s.events := rfl
@[simp] theorem modBoundary_berths (f : Boundary → Boundary) : (s.modBoundary f).berths = s.berths := rfl
@[simp] theorem modBoundary_commitPending (f : Boundary → Boundary) : (s.modBoundary f).commitPending = s.commitPending := rfl
@[simp] theorem modBoundary_lines (f : Boundary → Boundary) : (s.modBoundary f).lines = s.lines := rfl
@[simp] theorem modBoundary_lanes (f : Boundary → Boundary) : (s.modBoundary f).lanes = s.lanes := rfl
@[simp] theorem modBoundary_media (f : Boundary → Boundary) : (s.modBoundary f).media = s.media := rfl
@[simp] theorem modBoundary_ann (f : Boundary → Boundary) : (s.modBoundary f).ann = s.ann := rfl
@[simp] theorem modBoundary_chimes (f : Boundary → Boundary) : (s.modBoundary f).chimes = s.chimes := rfl
@[simp] theorem modBoundary_mix (f : Boundary → Boundary) : (s.modBoundary f).mix = s.mix := rfl
@[simp] theorem modBoundary_coach (f : Boundary → Boundary) : (s.modBoundary f).coach = s.coach := rfl
@[simp] theorem modBoundary_resetLow (f : Boundary → Boundary) : (s.modBoundary f).resetLow = s.resetLow := rfl
@[simp] theorem modBoundary_boundary (f : Boundary → Boundary) : (s.modBoundary f).boundary = f s.boundary := rfl
@[simp] theorem modBoundary_pending (f : Boundary → Boundary) : (s.modBoundary f).pending = s.pending := rfl

@[simp] theorem setPending_device (q : List Instr) : (s.setPending q).device = s.device := rfl
@[simp] theorem setPending_blockCount (q : List Instr) : (s.setPending q).blockCount = s.blockCount := rfl
@[simp] theorem setPending_link (q : List Instr) : (s.setPending q).link = s.link := rfl
@[simp] theorem setPending_events (q : List Instr) : (s.setPending q).events = s.events := rfl
@[simp] theorem setPending_berths (q : List Instr) : (s.setPending q).berths = s.berths := rfl
@[simp] theorem setPending_commitPending (q : List Instr) : (s.setPending q).commitPending = s.commitPending := rfl
@[simp] theorem setPending_lines (q : List Instr) : (s.setPending q).lines = s.lines := rfl
@[simp] theorem setPending_lanes (q : List Instr) : (s.setPending q).lanes = s.lanes := rfl
@[simp] theorem setPending_media (q : List Instr) : (s.setPending q).media = s.media := rfl
@[simp] theorem setPending_ann (q : List Instr) : (s.setPending q).ann = s.ann := rfl
@[simp] theorem setPending_chimes (q : List Instr) : (s.setPending q).chimes = s.chimes := rfl
@[simp] theorem setPending_mix (q : List Instr) : (s.setPending q).mix = s.mix := rfl
@[simp] theorem setPending_coach (q : List Instr) : (s.setPending q).coach = s.coach := rfl
@[simp] theorem setPending_resetLow (q : List Instr) : (s.setPending q).resetLow = s.resetLow := rfl
@[simp] theorem setPending_boundary (q : List Instr) : (s.setPending q).boundary = s.boundary := rfl
@[simp] theorem setPending_pending (q : List Instr) : (s.setPending q).pending = q := rfl

@[simp] theorem modLive_device (b : BerthNo) (f : LiveRecord → LiveRecord) : (s.modLive b f).device = s.device := rfl
@[simp] theorem modLive_blockCount (b : BerthNo) (f : LiveRecord → LiveRecord) : (s.modLive b f).blockCount = s.blockCount := rfl
@[simp] theorem modLive_link (b : BerthNo) (f : LiveRecord → LiveRecord) : (s.modLive b f).link = s.link := rfl
@[simp] theorem modLive_events (b : BerthNo) (f : LiveRecord → LiveRecord) : (s.modLive b f).events = s.events := rfl
@[simp] theorem modLive_commitPending (b : BerthNo) (f : LiveRecord → LiveRecord) : (s.modLive b f).commitPending = s.commitPending := rfl
@[simp] theorem modLive_lines (b : BerthNo) (f : LiveRecord → LiveRecord) : (s.modLive b f).lines = s.lines := rfl
@[simp] theorem modLive_lanes (b : BerthNo) (f : LiveRecord → LiveRecord) : (s.modLive b f).lanes = s.lanes := rfl
@[simp] theorem modLive_media (b : BerthNo) (f : LiveRecord → LiveRecord) : (s.modLive b f).media = s.media := rfl
@[simp] theorem modLive_ann (b : BerthNo) (f : LiveRecord → LiveRecord) : (s.modLive b f).ann = s.ann := rfl
@[simp] theorem modLive_chimes (b : BerthNo) (f : LiveRecord → LiveRecord) : (s.modLive b f).chimes = s.chimes := rfl
@[simp] theorem modLive_mix (b : BerthNo) (f : LiveRecord → LiveRecord) : (s.modLive b f).mix = s.mix := rfl
@[simp] theorem modLive_coach (b : BerthNo) (f : LiveRecord → LiveRecord) : (s.modLive b f).coach = s.coach := rfl
@[simp] theorem modLive_resetLow (b : BerthNo) (f : LiveRecord → LiveRecord) : (s.modLive b f).resetLow = s.resetLow := rfl
@[simp] theorem modLive_boundary (b : BerthNo) (f : LiveRecord → LiveRecord) : (s.modLive b f).boundary = s.boundary := rfl
@[simp] theorem modLive_pending (b : BerthNo) (f : LiveRecord → LiveRecord) : (s.modLive b f).pending = s.pending := rfl

@[simp] theorem modStaged_device (b : BerthNo) (f : StagedRecord → StagedRecord) : (s.modStaged b f).device = s.device := rfl
@[simp] theorem modStaged_blockCount (b : BerthNo) (f : StagedRecord → StagedRecord) : (s.modStaged b f).blockCount = s.blockCount := rfl
@[simp] theorem modStaged_link (b : BerthNo) (f : StagedRecord → StagedRecord) : (s.modStaged b f).link = s.link := rfl
@[simp] theorem modStaged_events (b : BerthNo) (f : StagedRecord → StagedRecord) : (s.modStaged b f).events = s.events := rfl
@[simp] theorem modStaged_commitPending (b : BerthNo) (f : StagedRecord → StagedRecord) : (s.modStaged b f).commitPending = s.commitPending := rfl
@[simp] theorem modStaged_lines (b : BerthNo) (f : StagedRecord → StagedRecord) : (s.modStaged b f).lines = s.lines := rfl
@[simp] theorem modStaged_lanes (b : BerthNo) (f : StagedRecord → StagedRecord) : (s.modStaged b f).lanes = s.lanes := rfl
@[simp] theorem modStaged_media (b : BerthNo) (f : StagedRecord → StagedRecord) : (s.modStaged b f).media = s.media := rfl
@[simp] theorem modStaged_ann (b : BerthNo) (f : StagedRecord → StagedRecord) : (s.modStaged b f).ann = s.ann := rfl
@[simp] theorem modStaged_chimes (b : BerthNo) (f : StagedRecord → StagedRecord) : (s.modStaged b f).chimes = s.chimes := rfl
@[simp] theorem modStaged_mix (b : BerthNo) (f : StagedRecord → StagedRecord) : (s.modStaged b f).mix = s.mix := rfl
@[simp] theorem modStaged_coach (b : BerthNo) (f : StagedRecord → StagedRecord) : (s.modStaged b f).coach = s.coach := rfl
@[simp] theorem modStaged_resetLow (b : BerthNo) (f : StagedRecord → StagedRecord) : (s.modStaged b f).resetLow = s.resetLow := rfl
@[simp] theorem modStaged_boundary (b : BerthNo) (f : StagedRecord → StagedRecord) : (s.modStaged b f).boundary = s.boundary := rfl
@[simp] theorem modStaged_pending (b : BerthNo) (f : StagedRecord → StagedRecord) : (s.modStaged b f).pending = s.pending := rfl

@[simp] theorem modLine_device (l : LineNo) (f : Line → Line) : (s.modLine l f).device = s.device := rfl
@[simp] theorem modLine_blockCount (l : LineNo) (f : Line → Line) : (s.modLine l f).blockCount = s.blockCount := rfl
@[simp] theorem modLine_link (l : LineNo) (f : Line → Line) : (s.modLine l f).link = s.link := rfl
@[simp] theorem modLine_events (l : LineNo) (f : Line → Line) : (s.modLine l f).events = s.events := rfl
@[simp] theorem modLine_berths (l : LineNo) (f : Line → Line) : (s.modLine l f).berths = s.berths := rfl
@[simp] theorem modLine_commitPending (l : LineNo) (f : Line → Line) : (s.modLine l f).commitPending = s.commitPending := rfl
@[simp] theorem modLine_lanes (l : LineNo) (f : Line → Line) : (s.modLine l f).lanes = s.lanes := rfl
@[simp] theorem modLine_media (l : LineNo) (f : Line → Line) : (s.modLine l f).media = s.media := rfl
@[simp] theorem modLine_ann (l : LineNo) (f : Line → Line) : (s.modLine l f).ann = s.ann := rfl
@[simp] theorem modLine_chimes (l : LineNo) (f : Line → Line) : (s.modLine l f).chimes = s.chimes := rfl
@[simp] theorem modLine_mix (l : LineNo) (f : Line → Line) : (s.modLine l f).mix = s.mix := rfl
@[simp] theorem modLine_coach (l : LineNo) (f : Line → Line) : (s.modLine l f).coach = s.coach := rfl
@[simp] theorem modLine_resetLow (l : LineNo) (f : Line → Line) : (s.modLine l f).resetLow = s.resetLow := rfl
@[simp] theorem modLine_boundary (l : LineNo) (f : Line → Line) : (s.modLine l f).boundary = s.boundary := rfl
@[simp] theorem modLine_pending (l : LineNo) (f : Line → Line) : (s.modLine l f).pending = s.pending := rfl

@[simp] theorem modLinkOf_device (b : BerthNo) (f : LinkRecord → LinkRecord) : (s.modLinkOf b f).device = s.device := rfl
@[simp] theorem modLinkOf_blockCount (b : BerthNo) (f : LinkRecord → LinkRecord) : (s.modLinkOf b f).blockCount = s.blockCount := rfl
@[simp] theorem modLinkOf_link (b : BerthNo) (f : LinkRecord → LinkRecord) : (s.modLinkOf b f).link = s.link := rfl
@[simp] theorem modLinkOf_events (b : BerthNo) (f : LinkRecord → LinkRecord) : (s.modLinkOf b f).events = s.events := rfl
@[simp] theorem modLinkOf_berths (b : BerthNo) (f : LinkRecord → LinkRecord) : (s.modLinkOf b f).berths = s.berths := rfl
@[simp] theorem modLinkOf_commitPending (b : BerthNo) (f : LinkRecord → LinkRecord) : (s.modLinkOf b f).commitPending = s.commitPending := rfl
@[simp] theorem modLinkOf_lanes (b : BerthNo) (f : LinkRecord → LinkRecord) : (s.modLinkOf b f).lanes = s.lanes := rfl
@[simp] theorem modLinkOf_media (b : BerthNo) (f : LinkRecord → LinkRecord) : (s.modLinkOf b f).media = s.media := rfl
@[simp] theorem modLinkOf_ann (b : BerthNo) (f : LinkRecord → LinkRecord) : (s.modLinkOf b f).ann = s.ann := rfl
@[simp] theorem modLinkOf_chimes (b : BerthNo) (f : LinkRecord → LinkRecord) : (s.modLinkOf b f).chimes = s.chimes := rfl
@[simp] theorem modLinkOf_mix (b : BerthNo) (f : LinkRecord → LinkRecord) : (s.modLinkOf b f).mix = s.mix := rfl
@[simp] theorem modLinkOf_coach (b : BerthNo) (f : LinkRecord → LinkRecord) : (s.modLinkOf b f).coach = s.coach := rfl
@[simp] theorem modLinkOf_resetLow (b : BerthNo) (f : LinkRecord → LinkRecord) : (s.modLinkOf b f).resetLow = s.resetLow := rfl
@[simp] theorem modLinkOf_boundary (b : BerthNo) (f : LinkRecord → LinkRecord) : (s.modLinkOf b f).boundary = s.boundary := rfl
@[simp] theorem modLinkOf_pending (b : BerthNo) (f : LinkRecord → LinkRecord) : (s.modLinkOf b f).pending = s.pending := rfl

@[simp] theorem modLaneSet_device (l : LineNo) (f : LaneSet → LaneSet) : (s.modLaneSet l f).device = s.device := rfl
@[simp] theorem modLaneSet_blockCount (l : LineNo) (f : LaneSet → LaneSet) : (s.modLaneSet l f).blockCount = s.blockCount := rfl
@[simp] theorem modLaneSet_link (l : LineNo) (f : LaneSet → LaneSet) : (s.modLaneSet l f).link = s.link := rfl
@[simp] theorem modLaneSet_events (l : LineNo) (f : LaneSet → LaneSet) : (s.modLaneSet l f).events = s.events := rfl
@[simp] theorem modLaneSet_berths (l : LineNo) (f : LaneSet → LaneSet) : (s.modLaneSet l f).berths = s.berths := rfl
@[simp] theorem modLaneSet_commitPending (l : LineNo) (f : LaneSet → LaneSet) : (s.modLaneSet l f).commitPending = s.commitPending := rfl
@[simp] theorem modLaneSet_lines (l : LineNo) (f : LaneSet → LaneSet) : (s.modLaneSet l f).lines = s.lines := rfl
@[simp] theorem modLaneSet_media (l : LineNo) (f : LaneSet → LaneSet) : (s.modLaneSet l f).media = s.media := rfl
@[simp] theorem modLaneSet_ann (l : LineNo) (f : LaneSet → LaneSet) : (s.modLaneSet l f).ann = s.ann := rfl
@[simp] theorem modLaneSet_chimes (l : LineNo) (f : LaneSet → LaneSet) : (s.modLaneSet l f).chimes = s.chimes := rfl
@[simp] theorem modLaneSet_mix (l : LineNo) (f : LaneSet → LaneSet) : (s.modLaneSet l f).mix = s.mix := rfl
@[simp] theorem modLaneSet_coach (l : LineNo) (f : LaneSet → LaneSet) : (s.modLaneSet l f).coach = s.coach := rfl
@[simp] theorem modLaneSet_resetLow (l : LineNo) (f : LaneSet → LaneSet) : (s.modLaneSet l f).resetLow = s.resetLow := rfl
@[simp] theorem modLaneSet_boundary (l : LineNo) (f : LaneSet → LaneSet) : (s.modLaneSet l f).boundary = s.boundary := rfl
@[simp] theorem modLaneSet_pending (l : LineNo) (f : LaneSet → LaneSet) : (s.modLaneSet l f).pending = s.pending := rfl

@[simp] theorem modProgramme_device (p : ProgrammeNo) (f : Programme → Programme) : (s.modProgramme p f).device = s.device := rfl
@[simp] theorem modProgramme_blockCount (p : ProgrammeNo) (f : Programme → Programme) : (s.modProgramme p f).blockCount = s.blockCount := rfl
@[simp] theorem modProgramme_link (p : ProgrammeNo) (f : Programme → Programme) : (s.modProgramme p f).link = s.link := rfl
@[simp] theorem modProgramme_events (p : ProgrammeNo) (f : Programme → Programme) : (s.modProgramme p f).events = s.events := rfl
@[simp] theorem modProgramme_berths (p : ProgrammeNo) (f : Programme → Programme) : (s.modProgramme p f).berths = s.berths := rfl
@[simp] theorem modProgramme_commitPending (p : ProgrammeNo) (f : Programme → Programme) : (s.modProgramme p f).commitPending = s.commitPending := rfl
@[simp] theorem modProgramme_lines (p : ProgrammeNo) (f : Programme → Programme) : (s.modProgramme p f).lines = s.lines := rfl
@[simp] theorem modProgramme_lanes (p : ProgrammeNo) (f : Programme → Programme) : (s.modProgramme p f).lanes = s.lanes := rfl
@[simp] theorem modProgramme_ann (p : ProgrammeNo) (f : Programme → Programme) : (s.modProgramme p f).ann = s.ann := rfl
@[simp] theorem modProgramme_chimes (p : ProgrammeNo) (f : Programme → Programme) : (s.modProgramme p f).chimes = s.chimes := rfl
@[simp] theorem modProgramme_mix (p : ProgrammeNo) (f : Programme → Programme) : (s.modProgramme p f).mix = s.mix := rfl
@[simp] theorem modProgramme_coach (p : ProgrammeNo) (f : Programme → Programme) : (s.modProgramme p f).coach = s.coach := rfl
@[simp] theorem modProgramme_resetLow (p : ProgrammeNo) (f : Programme → Programme) : (s.modProgramme p f).resetLow = s.resetLow := rfl
@[simp] theorem modProgramme_boundary (p : ProgrammeNo) (f : Programme → Programme) : (s.modProgramme p f).boundary = s.boundary := rfl
@[simp] theorem modProgramme_pending (p : ProgrammeNo) (f : Programme → Programme) : (s.modProgramme p f).pending = s.pending := rfl

@[simp] theorem modTrack_device (p : ProgrammeNo) (t : TrackNo) (f : Track → Track) : (s.modTrack p t f).device = s.device := rfl
@[simp] theorem modTrack_blockCount (p : ProgrammeNo) (t : TrackNo) (f : Track → Track) : (s.modTrack p t f).blockCount = s.blockCount := rfl
@[simp] theorem modTrack_link (p : ProgrammeNo) (t : TrackNo) (f : Track → Track) : (s.modTrack p t f).link = s.link := rfl
@[simp] theorem modTrack_events (p : ProgrammeNo) (t : TrackNo) (f : Track → Track) : (s.modTrack p t f).events = s.events := rfl
@[simp] theorem modTrack_berths (p : ProgrammeNo) (t : TrackNo) (f : Track → Track) : (s.modTrack p t f).berths = s.berths := rfl
@[simp] theorem modTrack_commitPending (p : ProgrammeNo) (t : TrackNo) (f : Track → Track) : (s.modTrack p t f).commitPending = s.commitPending := rfl
@[simp] theorem modTrack_lines (p : ProgrammeNo) (t : TrackNo) (f : Track → Track) : (s.modTrack p t f).lines = s.lines := rfl
@[simp] theorem modTrack_lanes (p : ProgrammeNo) (t : TrackNo) (f : Track → Track) : (s.modTrack p t f).lanes = s.lanes := rfl
@[simp] theorem modTrack_ann (p : ProgrammeNo) (t : TrackNo) (f : Track → Track) : (s.modTrack p t f).ann = s.ann := rfl
@[simp] theorem modTrack_chimes (p : ProgrammeNo) (t : TrackNo) (f : Track → Track) : (s.modTrack p t f).chimes = s.chimes := rfl
@[simp] theorem modTrack_mix (p : ProgrammeNo) (t : TrackNo) (f : Track → Track) : (s.modTrack p t f).mix = s.mix := rfl
@[simp] theorem modTrack_coach (p : ProgrammeNo) (t : TrackNo) (f : Track → Track) : (s.modTrack p t f).coach = s.coach := rfl
@[simp] theorem modTrack_resetLow (p : ProgrammeNo) (t : TrackNo) (f : Track → Track) : (s.modTrack p t f).resetLow = s.resetLow := rfl
@[simp] theorem modTrack_boundary (p : ProgrammeNo) (t : TrackNo) (f : Track → Track) : (s.modTrack p t f).boundary = s.boundary := rfl
@[simp] theorem modTrack_pending (p : ProgrammeNo) (t : TrackNo) (f : Track → Track) : (s.modTrack p t f).pending = s.pending := rfl

@[simp] theorem modRecorded_device (f : RecordedBuffer → RecordedBuffer) : (s.modRecorded f).device = s.device := rfl
@[simp] theorem modRecorded_blockCount (f : RecordedBuffer → RecordedBuffer) : (s.modRecorded f).blockCount = s.blockCount := rfl
@[simp] theorem modRecorded_link (f : RecordedBuffer → RecordedBuffer) : (s.modRecorded f).link = s.link := rfl
@[simp] theorem modRecorded_events (f : RecordedBuffer → RecordedBuffer) : (s.modRecorded f).events = s.events := rfl
@[simp] theorem modRecorded_berths (f : RecordedBuffer → RecordedBuffer) : (s.modRecorded f).berths = s.berths := rfl
@[simp] theorem modRecorded_commitPending (f : RecordedBuffer → RecordedBuffer) : (s.modRecorded f).commitPending = s.commitPending := rfl
@[simp] theorem modRecorded_lines (f : RecordedBuffer → RecordedBuffer) : (s.modRecorded f).lines = s.lines := rfl
@[simp] theorem modRecorded_lanes (f : RecordedBuffer → RecordedBuffer) : (s.modRecorded f).lanes = s.lanes := rfl
@[simp] theorem modRecorded_ann (f : RecordedBuffer → RecordedBuffer) : (s.modRecorded f).ann = s.ann := rfl
@[simp] theorem modRecorded_chimes (f : RecordedBuffer → RecordedBuffer) : (s.modRecorded f).chimes = s.chimes := rfl
@[simp] theorem modRecorded_mix (f : RecordedBuffer → RecordedBuffer) : (s.modRecorded f).mix = s.mix := rfl
@[simp] theorem modRecorded_coach (f : RecordedBuffer → RecordedBuffer) : (s.modRecorded f).coach = s.coach := rfl
@[simp] theorem modRecorded_resetLow (f : RecordedBuffer → RecordedBuffer) : (s.modRecorded f).resetLow = s.resetLow := rfl
@[simp] theorem modRecorded_boundary (f : RecordedBuffer → RecordedBuffer) : (s.modRecorded f).boundary = s.boundary := rfl
@[simp] theorem modRecorded_pending (f : RecordedBuffer → RecordedBuffer) : (s.modRecorded f).pending = s.pending := rfl

@[simp] theorem modPort_device (f : PortCounters → PortCounters) : (s.modPort f).device = s.device := rfl
@[simp] theorem modPort_blockCount (f : PortCounters → PortCounters) : (s.modPort f).blockCount = s.blockCount := rfl
@[simp] theorem modPort_link (f : PortCounters → PortCounters) : (s.modPort f).link = s.link := rfl
@[simp] theorem modPort_events (f : PortCounters → PortCounters) : (s.modPort f).events = s.events := rfl
@[simp] theorem modPort_berths (f : PortCounters → PortCounters) : (s.modPort f).berths = s.berths := rfl
@[simp] theorem modPort_commitPending (f : PortCounters → PortCounters) : (s.modPort f).commitPending = s.commitPending := rfl
@[simp] theorem modPort_lines (f : PortCounters → PortCounters) : (s.modPort f).lines = s.lines := rfl
@[simp] theorem modPort_lanes (f : PortCounters → PortCounters) : (s.modPort f).lanes = s.lanes := rfl
@[simp] theorem modPort_ann (f : PortCounters → PortCounters) : (s.modPort f).ann = s.ann := rfl
@[simp] theorem modPort_chimes (f : PortCounters → PortCounters) : (s.modPort f).chimes = s.chimes := rfl
@[simp] theorem modPort_mix (f : PortCounters → PortCounters) : (s.modPort f).mix = s.mix := rfl
@[simp] theorem modPort_coach (f : PortCounters → PortCounters) : (s.modPort f).coach = s.coach := rfl
@[simp] theorem modPort_resetLow (f : PortCounters → PortCounters) : (s.modPort f).resetLow = s.resetLow := rfl
@[simp] theorem modPort_boundary (f : PortCounters → PortCounters) : (s.modPort f).boundary = s.boundary := rfl
@[simp] theorem modPort_pending (f : PortCounters → PortCounters) : (s.modPort f).pending = s.pending := rfl

@[simp] theorem modMix_device (b : BerthNo) (f : MixState → MixState) : (s.modMix b f).device = s.device := rfl
@[simp] theorem modMix_blockCount (b : BerthNo) (f : MixState → MixState) : (s.modMix b f).blockCount = s.blockCount := rfl
@[simp] theorem modMix_link (b : BerthNo) (f : MixState → MixState) : (s.modMix b f).link = s.link := rfl
@[simp] theorem modMix_events (b : BerthNo) (f : MixState → MixState) : (s.modMix b f).events = s.events := rfl
@[simp] theorem modMix_berths (b : BerthNo) (f : MixState → MixState) : (s.modMix b f).berths = s.berths := rfl
@[simp] theorem modMix_commitPending (b : BerthNo) (f : MixState → MixState) : (s.modMix b f).commitPending = s.commitPending := rfl
@[simp] theorem modMix_lines (b : BerthNo) (f : MixState → MixState) : (s.modMix b f).lines = s.lines := rfl
@[simp] theorem modMix_lanes (b : BerthNo) (f : MixState → MixState) : (s.modMix b f).lanes = s.lanes := rfl
@[simp] theorem modMix_media (b : BerthNo) (f : MixState → MixState) : (s.modMix b f).media = s.media := rfl
@[simp] theorem modMix_ann (b : BerthNo) (f : MixState → MixState) : (s.modMix b f).ann = s.ann := rfl
@[simp] theorem modMix_chimes (b : BerthNo) (f : MixState → MixState) : (s.modMix b f).chimes = s.chimes := rfl
@[simp] theorem modMix_coach (b : BerthNo) (f : MixState → MixState) : (s.modMix b f).coach = s.coach := rfl
@[simp] theorem modMix_resetLow (b : BerthNo) (f : MixState → MixState) : (s.modMix b f).resetLow = s.resetLow := rfl
@[simp] theorem modMix_boundary (b : BerthNo) (f : MixState → MixState) : (s.modMix b f).boundary = s.boundary := rfl
@[simp] theorem modMix_pending (b : BerthNo) (f : MixState → MixState) : (s.modMix b f).pending = s.pending := rfl

@[simp] theorem modVoice_device (v : Source) (f : Voice → Voice) : (s.modVoice v f).device = s.device := rfl
@[simp] theorem modVoice_blockCount (v : Source) (f : Voice → Voice) : (s.modVoice v f).blockCount = s.blockCount := rfl
@[simp] theorem modVoice_link (v : Source) (f : Voice → Voice) : (s.modVoice v f).link = s.link := rfl
@[simp] theorem modVoice_events (v : Source) (f : Voice → Voice) : (s.modVoice v f).events = s.events := rfl
@[simp] theorem modVoice_berths (v : Source) (f : Voice → Voice) : (s.modVoice v f).berths = s.berths := rfl
@[simp] theorem modVoice_commitPending (v : Source) (f : Voice → Voice) : (s.modVoice v f).commitPending = s.commitPending := rfl
@[simp] theorem modVoice_lines (v : Source) (f : Voice → Voice) : (s.modVoice v f).lines = s.lines := rfl
@[simp] theorem modVoice_lanes (v : Source) (f : Voice → Voice) : (s.modVoice v f).lanes = s.lanes := rfl
@[simp] theorem modVoice_media (v : Source) (f : Voice → Voice) : (s.modVoice v f).media = s.media := rfl
@[simp] theorem modVoice_ann (v : Source) (f : Voice → Voice) : (s.modVoice v f).ann = s.ann := rfl
@[simp] theorem modVoice_mix (v : Source) (f : Voice → Voice) : (s.modVoice v f).mix = s.mix := rfl
@[simp] theorem modVoice_coach (v : Source) (f : Voice → Voice) : (s.modVoice v f).coach = s.coach := rfl
@[simp] theorem modVoice_resetLow (v : Source) (f : Voice → Voice) : (s.modVoice v f).resetLow = s.resetLow := rfl
@[simp] theorem modVoice_boundary (v : Source) (f : Voice → Voice) : (s.modVoice v f).boundary = s.boundary := rfl
@[simp] theorem modVoice_pending (v : Source) (f : Voice → Voice) : (s.modVoice v f).pending = s.pending := rfl

@[simp] theorem setFilter_device (c : Contact) (f : Filter) : (s.setFilter c f).device = s.device := rfl
@[simp] theorem setFilter_blockCount (c : Contact) (f : Filter) : (s.setFilter c f).blockCount = s.blockCount := rfl
@[simp] theorem setFilter_link (c : Contact) (f : Filter) : (s.setFilter c f).link = s.link := rfl
@[simp] theorem setFilter_events (c : Contact) (f : Filter) : (s.setFilter c f).events = s.events := rfl
@[simp] theorem setFilter_berths (c : Contact) (f : Filter) : (s.setFilter c f).berths = s.berths := rfl
@[simp] theorem setFilter_commitPending (c : Contact) (f : Filter) : (s.setFilter c f).commitPending = s.commitPending := rfl
@[simp] theorem setFilter_lines (c : Contact) (f : Filter) : (s.setFilter c f).lines = s.lines := rfl
@[simp] theorem setFilter_lanes (c : Contact) (f : Filter) : (s.setFilter c f).lanes = s.lanes := rfl
@[simp] theorem setFilter_media (c : Contact) (f : Filter) : (s.setFilter c f).media = s.media := rfl
@[simp] theorem setFilter_ann (c : Contact) (f : Filter) : (s.setFilter c f).ann = s.ann := rfl
@[simp] theorem setFilter_chimes (c : Contact) (f : Filter) : (s.setFilter c f).chimes = s.chimes := rfl
@[simp] theorem setFilter_mix (c : Contact) (f : Filter) : (s.setFilter c f).mix = s.mix := rfl
@[simp] theorem setFilter_resetLow (c : Contact) (f : Filter) : (s.setFilter c f).resetLow = s.resetLow := rfl
@[simp] theorem setFilter_boundary (c : Contact) (f : Filter) : (s.setFilter c f).boundary = s.boundary := rfl
@[simp] theorem setFilter_pending (c : Contact) (f : Filter) : (s.setFilter c f).pending = s.pending := rfl

@[simp] theorem modEntry_device (h : Byte) (f : Entry → Entry) : (s.modEntry h f).device = s.device := rfl
@[simp] theorem modEntry_blockCount (h : Byte) (f : Entry → Entry) : (s.modEntry h f).blockCount = s.blockCount := rfl
@[simp] theorem modEntry_link (h : Byte) (f : Entry → Entry) : (s.modEntry h f).link = s.link := rfl
@[simp] theorem modEntry_events (h : Byte) (f : Entry → Entry) : (s.modEntry h f).events = s.events := rfl
@[simp] theorem modEntry_berths (h : Byte) (f : Entry → Entry) : (s.modEntry h f).berths = s.berths := rfl
@[simp] theorem modEntry_commitPending (h : Byte) (f : Entry → Entry) : (s.modEntry h f).commitPending = s.commitPending := rfl
@[simp] theorem modEntry_lines (h : Byte) (f : Entry → Entry) : (s.modEntry h f).lines = s.lines := rfl
@[simp] theorem modEntry_lanes (h : Byte) (f : Entry → Entry) : (s.modEntry h f).lanes = s.lanes := rfl
@[simp] theorem modEntry_media (h : Byte) (f : Entry → Entry) : (s.modEntry h f).media = s.media := rfl
@[simp] theorem modEntry_chimes (h : Byte) (f : Entry → Entry) : (s.modEntry h f).chimes = s.chimes := rfl
@[simp] theorem modEntry_mix (h : Byte) (f : Entry → Entry) : (s.modEntry h f).mix = s.mix := rfl
@[simp] theorem modEntry_coach (h : Byte) (f : Entry → Entry) : (s.modEntry h f).coach = s.coach := rfl
@[simp] theorem modEntry_resetLow (h : Byte) (f : Entry → Entry) : (s.modEntry h f).resetLow = s.resetLow := rfl
@[simp] theorem modEntry_boundary (h : Byte) (f : Entry → Entry) : (s.modEntry h f).boundary = s.boundary := rfl
@[simp] theorem modEntry_pending (h : Byte) (f : Entry → Entry) : (s.modEntry h f).pending = s.pending := rfl

end Sys2Proof.Machine.State
end

