-- ==== Sys2Proof/Laws/Table.lean ====
section
/-! SUPPORT. Reading a table after an update: the cell written reads as written, every other cell as before. -/

namespace Sys2Proof

variable {α β : Type} {n : Nat}

theorem Table.get_eq_getElem (t : Table α n) (i : Fin n) :
    t.get i = t.cells[i.val]'(by rw [t.size]; exact i.isLt) := rfl

theorem Table.get_set (t : Table α n) (i j : Fin n) (v : α) :
    (t.set i v).get j = if i = j then v else t.get j := by
  simp only [Table.get_eq_getElem, Table.set, List.getElem_set, Fin.ext_iff]

@[simp] theorem Table.get_set_same (t : Table α n) (i : Fin n) (v : α) : (t.set i v).get i = v := by
  rw [Table.get_set, if_pos rfl]

theorem Table.get_set_ne (t : Table α n) {i j : Fin n} (h : i ≠ j) (v : α) : (t.set i v).get j = t.get j := by
  rw [Table.get_set, if_neg h]

theorem Table.get_modify (t : Table α n) (i j : Fin n) (f : α → α) :
    (t.modify i f).get j = if i = j then f (t.get j) else t.get j := by
  unfold Table.modify
  rw [Table.get_set]
  split
  · subst_vars; rfl
  · rfl

@[simp] theorem Table.get_modify_same (t : Table α n) (i : Fin n) (f : α → α) :
    (t.modify i f).get i = f (t.get i) := by
  rw [Table.get_modify, if_pos rfl]

theorem Table.get_modify_ne (t : Table α n) {i j : Fin n} (h : i ≠ j) (f : α → α) :
    (t.modify i f).get j = t.get j := by
  rw [Table.get_modify, if_neg h]

@[simp] theorem Table.get_ofFn (f : Fin n → α) (i : Fin n) : (Table.ofFn f).get i = f i := by
  simp [Table.get_eq_getElem, Table.ofFn]

@[simp] theorem Table.get_fill (v : α) (i : Fin n) : (Table.fill n v).get i = v := by
  simp [Table.get_eq_getElem, Table.fill]

@[simp] theorem Table.get_map (t : Table α n) (f : α → β) (i : Fin n) : (t.map f).get i = f (t.get i) := by
  simp [Table.get_eq_getElem, Table.map]

/-- Two tables that read the same are the same. -/
theorem Table.ext_get {t u : Table α n} (h : ∀ i, t.get i = u.get i) : t = u := by
  obtain ⟨a, ha⟩ := t
  obtain ⟨b, hb⟩ := u
  have : a = b := by
    apply List.ext_getElem (by rw [ha, hb])
    intro i h1 h2
    exact h ⟨i, ha ▸ h1⟩
  subst this
  rfl

/-- The cells of a table, in order. -/
theorem Table.cells_eq (t : Table α n) : t.cells = (List.finRange n).map t.get := by
  apply List.ext_getElem
  · rw [t.size, List.length_map, List.length_finRange]
  · intro i h1 h2
    rw [List.getElem_map, List.getElem_finRange]
    rfl

/-- A value stands in a table exactly if some cell reads it. -/
theorem Table.mem_cells (t : Table α n) (v : α) : v ∈ t.cells ↔ ∃ i, t.get i = v := by
  rw [t.cells_eq, List.mem_map]
  exact ⟨fun ⟨i, _, h⟩ => ⟨i, h⟩, fun ⟨i, h⟩ => ⟨i, List.mem_finRange i, h⟩⟩

/-- Counting over the cells is counting over the numbers. -/
theorem Table.countP_cells (t : Table α n) (p : α → Bool) :
    t.cells.countP p = (List.finRange n).countP fun i => p (t.get i) := by
  rw [t.cells_eq, List.countP_map]
  rfl

@[simp] theorem Table.modify_id (t : Table α n) (i : Fin n) : (t.modify i fun x => x) = t := by
  apply Table.ext_get
  intro j
  rw [Table.get_modify]
  split <;> rfl

end Sys2Proof
end

