-- ==== Sys2Proof/Laws/Access.lean ====
section
/-! SUPPORT. Reading one berth, line, lane set, programme, track, voice, filter or entry after a named update of State. -/

namespace Sys2Proof.Machine

/-! ## A berth is its line and its slot -/

@[simp] theorem lineOf_berthAt (l : LineNo) (k : SlotNo) : lineOf (berthAt l k) = l := by
  have := l.isLt; have := k.isLt
  simp only [lineOf, berthAt, slotCount, lineCount, Fin.ext_iff] at *
  omega

@[simp] theorem slotOf_berthAt (l : LineNo) (k : SlotNo) : slotOf (berthAt l k) = k := by
  have := k.isLt
  simp only [slotOf, berthAt, slotCount, Fin.ext_iff] at *
  omega

@[simp] theorem berthAt_lineOf_slotOf (b : BerthNo) : berthAt (lineOf b) (slotOf b) = b := by
  simp only [berthAt, lineOf, slotOf, Fin.ext_iff, slotCount]
  omega

/-- Berths of the same line and slot are the same berth (Introduction 1.5.1.5). -/
theorem berth_ext {b c : BerthNo} (hl : lineOf b = lineOf c) (hk : slotOf b = slotOf c) : b = c := by
  rw [← berthAt_lineOf_slotOf b, ← berthAt_lineOf_slotOf c, hl, hk]

theorem mem_berthsOf (l : LineNo) (b : BerthNo) : b ∈ berthsOf l ↔ lineOf b = l := by
  simp only [berthsOf, List.mem_map, List.mem_finRange, true_and]
  constructor
  · rintro ⟨k, rfl⟩
    exact lineOf_berthAt l k
  · rintro rfl
    exact ⟨slotOf b, berthAt_lineOf_slotOf b⟩

namespace State

variable (s : State)

/-! ## The part updated -/

theorem berth_modLive (b c : BerthNo) (f : LiveRecord → LiveRecord) :
    (s.modLive b f).berth c = if b = c then { s.berth c with live := f (s.live c) } else s.berth c := by
  simp only [berth, modLive, setBerths, Table.get_modify, live]

theorem live_modLive (b c : BerthNo) (f : LiveRecord → LiveRecord) :
    (s.modLive b f).live c = if b = c then f (s.live c) else s.live c := by
  simp only [live, modLive, setBerths, Table.get_modify]
  split <;> rfl

@[simp] theorem live_modLive_same (b : BerthNo) (f : LiveRecord → LiveRecord) :
    (s.modLive b f).live b = f (s.live b) := by
  rw [live_modLive, if_pos rfl]

@[simp] theorem staged_modLive (b c : BerthNo) (f : LiveRecord → LiveRecord) :
    (s.modLive b f).staged c = s.staged c := by
  simp only [staged, modLive, setBerths, Table.get_modify]
  split <;> rfl

theorem staged_modStaged (b c : BerthNo) (f : StagedRecord → StagedRecord) :
    (s.modStaged b f).staged c = if b = c then f (s.staged c) else s.staged c := by
  simp only [staged, modStaged, setBerths, Table.get_modify]
  split <;> rfl

@[simp] theorem live_modStaged (b c : BerthNo) (f : StagedRecord → StagedRecord) :
    (s.modStaged b f).live c = s.live c := by
  simp only [live, modStaged, setBerths, Table.get_modify]
  split <;> rfl

@[simp] theorem presence_modStaged (b c : BerthNo) (f : StagedRecord → StagedRecord) :
    (s.modStaged b f).presence c = s.presence c := by
  simp only [presence, live_modStaged]

theorem line_modLine (l m : LineNo) (f : Line → Line) :
    (s.modLine l f).line m = if l = m then f (s.line m) else s.line m := by
  simp only [line, modLine, setLines, Table.get_modify]

@[simp] theorem line_modLine_same (l : LineNo) (f : Line → Line) : (s.modLine l f).line l = f (s.line l) := by
  rw [line_modLine, if_pos rfl]

theorem linkOf_modLinkOf (b c : BerthNo) (f : LinkRecord → LinkRecord) :
    (s.modLinkOf b f).linkOf c = if b = c then f (s.linkOf c) else s.linkOf c := by
  unfold linkOf modLinkOf
  rw [line_modLine]
  by_cases hl : lineOf b = lineOf c
  · rw [if_pos hl]
    simp only [Table.get_modify]
    by_cases hk : slotOf b = slotOf c
    · rw [if_pos hk, if_pos (berth_ext hl hk)]
    · rw [if_neg hk, if_neg (fun h : b = c => hk (by rw [h]))]
  · rw [if_neg hl, if_neg (fun h : b = c => hl (by rw [h]))]

@[simp] theorem linkOf_modLinkOf_same (b : BerthNo) (f : LinkRecord → LinkRecord) :
    (s.modLinkOf b f).linkOf b = f (s.linkOf b) := by
  rw [linkOf_modLinkOf, if_pos rfl]

theorem laneSet_modLaneSet (l m : LineNo) (f : LaneSet → LaneSet) :
    (s.modLaneSet l f).laneSet m = if l = m then f (s.laneSet m) else s.laneSet m := by
  simp only [laneSet, modLaneSet, setLanes, Table.get_modify]

@[simp] theorem laneSet_modLaneSet_same (l : LineNo) (f : LaneSet → LaneSet) :
    (s.modLaneSet l f).laneSet l = f (s.laneSet l) := by
  rw [laneSet_modLaneSet, if_pos rfl]

theorem programme_modProgramme (p q : ProgrammeNo) (f : Programme → Programme) :
    (s.modProgramme p f).programme q = if p = q then f (s.programme q) else s.programme q := by
  simp only [programme, modProgramme, modMedia, Table.get_modify]

theorem track_modTrack (p q : ProgrammeNo) (t k : TrackNo) (f : Track → Track) :
    (s.modTrack p t f).track q k = if p = q ∧ t = k then f (s.track q k) else s.track q k := by
  unfold track modTrack
  rw [programme_modProgramme]
  by_cases hp : p = q
  · rw [if_pos hp]
    simp only [Table.get_modify, hp, true_and]
  · rw [if_neg hp, if_neg (fun h => hp h.1)]

theorem mixOf_modMix (b c : BerthNo) (f : MixState → MixState) :
    (s.modMix b f).mixOf c = if b = c then f (s.mixOf c) else s.mixOf c := by
  simp only [mixOf, modMix, setMix, Table.get_modify]

@[simp] theorem mixOf_modMix_same (b : BerthNo) (f : MixState → MixState) :
    (s.modMix b f).mixOf b = f (s.mixOf b) := by
  rw [mixOf_modMix, if_pos rfl]

theorem voice_modVoice (v w : Source) (f : Voice → Voice) :
    (s.modVoice v f).voice w = if v = w then f (s.voice w) else s.voice w := by
  cases v <;> cases w <;> rfl

theorem filter_setFilter (c d : Contact) (v : Filter) :
    (s.setFilter c v).filter d = if c = d then v else s.filter d := by
  cases c <;> cases d <;> rfl

/-- An entry changed in place is found as changed, as long as the change keeps its handle. -/
theorem entry?_modEntry (h k : Byte) (f : Entry → Entry) (hf : ∀ e, (f e).handle = e.handle) :
    (s.modEntry h f).entry? k = (s.entry? k).map fun e => if e.handle = h then f e else e := by
  unfold entry? modEntry modAnn
  simp only [List.find?_map]
  congr 1
  apply congrArg (fun p => List.find? p s.ann.entries)
  funext e
  simp only [Function.comp]
  split
  · rw [hf]
  · rfl

/-- The handle of the entry found is the handle asked for. -/
theorem entry?_handle {h : Byte} {e : Entry} (he : s.entry? h = some e) : e.handle = h := by
  simpa using List.find?_some he

/-- The entry found stands in the table. -/
theorem entry?_mem {h : Byte} {e : Entry} (he : s.entry? h = some e) : e ∈ s.ann.entries :=
  List.mem_of_find?_eq_some he

/-! ## The parts not updated -/

@[simp] theorem berth_modLine (l : LineNo) (f : Line → Line) (c' : BerthNo) :
    (s.modLine l f).berth c' = s.berth c' := rfl
@[simp] theorem berth_modLinkOf (b : BerthNo) (f : LinkRecord → LinkRecord) (c' : BerthNo) :
    (s.modLinkOf b f).berth c' = s.berth c' := rfl
@[simp] theorem berth_modLaneSet (l : LineNo) (f : LaneSet → LaneSet) (c' : BerthNo) :
    (s.modLaneSet l f).berth c' = s.berth c' := rfl
@[simp] theorem berth_modProgramme (p : ProgrammeNo) (f : Programme → Programme) (c' : BerthNo) :
    (s.modProgramme p f).berth c' = s.berth c' := rfl
@[simp] theorem berth_modTrack (p : ProgrammeNo) (t : TrackNo) (f : Track → Track) (c' : BerthNo) :
    (s.modTrack p t f).berth c' = s.berth c' := rfl
@[simp] theorem berth_modRecorded (f : RecordedBuffer → RecordedBuffer) (c' : BerthNo) :
    (s.modRecorded f).berth c' = s.berth c' := rfl
@[simp] theorem berth_modPort (f : PortCounters → PortCounters) (c' : BerthNo) :
    (s.modPort f).berth c' = s.berth c' := rfl
@[simp] theorem berth_modMix (b : BerthNo) (f : MixState → MixState) (c' : BerthNo) :
    (s.modMix b f).berth c' = s.berth c' := rfl
@[simp] theorem berth_modVoice (v : Source) (f : Voice → Voice) (c' : BerthNo) :
    (s.modVoice v f).berth c' = s.berth c' := rfl
@[simp] theorem berth_setFilter (c : Contact) (f : Filter) (c' : BerthNo) :
    (s.setFilter c f).berth c' = s.berth c' := rfl
@[simp] theorem berth_modEntry (h : Byte) (f : Entry → Entry) (c' : BerthNo) :
    (s.modEntry h f).berth c' = s.berth c' := rfl

@[simp] theorem live_modLine (l : LineNo) (f : Line → Line) (c' : BerthNo) :
    (s.modLine l f).live c' = s.live c' := rfl
@[simp] theorem live_modLinkOf (b : BerthNo) (f : LinkRecord → LinkRecord) (c' : BerthNo) :
    (s.modLinkOf b f).live c' = s.live c' := rfl
@[simp] theorem live_modLaneSet (l : LineNo) (f : LaneSet → LaneSet) (c' : BerthNo) :
    (s.modLaneSet l f).live c' = s.live c' := rfl
@[simp] theorem live_modProgramme (p : ProgrammeNo) (f : Programme → Programme) (c' : BerthNo) :
    (s.modProgramme p f).live c' = s.live c' := rfl
@[simp] theorem live_modTrack (p : ProgrammeNo) (t : TrackNo) (f : Track → Track) (c' : BerthNo) :
    (s.modTrack p t f).live c' = s.live c' := rfl
@[simp] theorem live_modRecorded (f : RecordedBuffer → RecordedBuffer) (c' : BerthNo) :
    (s.modRecorded f).live c' = s.live c' := rfl
@[simp] theorem live_modPort (f : PortCounters → PortCounters) (c' : BerthNo) :
    (s.modPort f).live c' = s.live c' := rfl
@[simp] theorem live_modMix (b : BerthNo) (f : MixState → MixState) (c' : BerthNo) :
    (s.modMix b f).live c' = s.live c' := rfl
@[simp] theorem live_modVoice (v : Source) (f : Voice → Voice) (c' : BerthNo) :
    (s.modVoice v f).live c' = s.live c' := rfl
@[simp] theorem live_setFilter (c : Contact) (f : Filter) (c' : BerthNo) :
    (s.setFilter c f).live c' = s.live c' := rfl
@[simp] theorem live_modEntry (h : Byte) (f : Entry → Entry) (c' : BerthNo) :
    (s.modEntry h f).live c' = s.live c' := rfl

@[simp] theorem staged_modLine (l : LineNo) (f : Line → Line) (c' : BerthNo) :
    (s.modLine l f).staged c' = s.staged c' := rfl
@[simp] theorem staged_modLinkOf (b : BerthNo) (f : LinkRecord → LinkRecord) (c' : BerthNo) :
    (s.modLinkOf b f).staged c' = s.staged c' := rfl
@[simp] theorem staged_modLaneSet (l : LineNo) (f : LaneSet → LaneSet) (c' : BerthNo) :
    (s.modLaneSet l f).staged c' = s.staged c' := rfl
@[simp] theorem staged_modProgramme (p : ProgrammeNo) (f : Programme → Programme) (c' : BerthNo) :
    (s.modProgramme p f).staged c' = s.staged c' := rfl
@[simp] theorem staged_modTrack (p : ProgrammeNo) (t : TrackNo) (f : Track → Track) (c' : BerthNo) :
    (s.modTrack p t f).staged c' = s.staged c' := rfl
@[simp] theorem staged_modRecorded (f : RecordedBuffer → RecordedBuffer) (c' : BerthNo) :
    (s.modRecorded f).staged c' = s.staged c' := rfl
@[simp] theorem staged_modPort (f : PortCounters → PortCounters) (c' : BerthNo) :
    (s.modPort f).staged c' = s.staged c' := rfl
@[simp] theorem staged_modMix (b : BerthNo) (f : MixState → MixState) (c' : BerthNo) :
    (s.modMix b f).staged c' = s.staged c' := rfl
@[simp] theorem staged_modVoice (v : Source) (f : Voice → Voice) (c' : BerthNo) :
    (s.modVoice v f).staged c' = s.staged c' := rfl
@[simp] theorem staged_setFilter (c : Contact) (f : Filter) (c' : BerthNo) :
    (s.setFilter c f).staged c' = s.staged c' := rfl
@[simp] theorem staged_modEntry (h : Byte) (f : Entry → Entry) (c' : BerthNo) :
    (s.modEntry h f).staged c' = s.staged c' := rfl

@[simp] theorem presence_modLine (l : LineNo) (f : Line → Line) (c' : BerthNo) :
    (s.modLine l f).presence c' = s.presence c' := rfl
@[simp] theorem presence_modLinkOf (b : BerthNo) (f : LinkRecord → LinkRecord) (c' : BerthNo) :
    (s.modLinkOf b f).presence c' = s.presence c' := rfl
@[simp] theorem presence_modLaneSet (l : LineNo) (f : LaneSet → LaneSet) (c' : BerthNo) :
    (s.modLaneSet l f).presence c' = s.presence c' := rfl
@[simp] theorem presence_modProgramme (p : ProgrammeNo) (f : Programme → Programme) (c' : BerthNo) :
    (s.modProgramme p f).presence c' = s.presence c' := rfl
@[simp] theorem presence_modTrack (p : ProgrammeNo) (t : TrackNo) (f : Track → Track) (c' : BerthNo) :
    (s.modTrack p t f).presence c' = s.presence c' := rfl
@[simp] theorem presence_modRecorded (f : RecordedBuffer → RecordedBuffer) (c' : BerthNo) :
    (s.modRecorded f).presence c' = s.presence c' := rfl
@[simp] theorem presence_modPort (f : PortCounters → PortCounters) (c' : BerthNo) :
    (s.modPort f).presence c' = s.presence c' := rfl
@[simp] theorem presence_modMix (b : BerthNo) (f : MixState → MixState) (c' : BerthNo) :
    (s.modMix b f).presence c' = s.presence c' := rfl
@[simp] theorem presence_modVoice (v : Source) (f : Voice → Voice) (c' : BerthNo) :
    (s.modVoice v f).presence c' = s.presence c' := rfl
@[simp] theorem presence_setFilter (c : Contact) (f : Filter) (c' : BerthNo) :
    (s.setFilter c f).presence c' = s.presence c' := rfl
@[simp] theorem presence_modEntry (h : Byte) (f : Entry → Entry) (c' : BerthNo) :
    (s.modEntry h f).presence c' = s.presence c' := rfl

@[simp] theorem line_modLive (b : BerthNo) (f : LiveRecord → LiveRecord) (m' : LineNo) :
    (s.modLive b f).line m' = s.line m' := rfl
@[simp] theorem line_modStaged (b : BerthNo) (f : StagedRecord → StagedRecord) (m' : LineNo) :
    (s.modStaged b f).line m' = s.line m' := rfl
@[simp] theorem line_modLaneSet (l : LineNo) (f : LaneSet → LaneSet) (m' : LineNo) :
    (s.modLaneSet l f).line m' = s.line m' := rfl
@[simp] theorem line_modProgramme (p : ProgrammeNo) (f : Programme → Programme) (m' : LineNo) :
    (s.modProgramme p f).line m' = s.line m' := rfl
@[simp] theorem line_modTrack (p : ProgrammeNo) (t : TrackNo) (f : Track → Track) (m' : LineNo) :
    (s.modTrack p t f).line m' = s.line m' := rfl
@[simp] theorem line_modRecorded (f : RecordedBuffer → RecordedBuffer) (m' : LineNo) :
    (s.modRecorded f).line m' = s.line m' := rfl
@[simp] theorem line_modPort (f : PortCounters → PortCounters) (m' : LineNo) :
    (s.modPort f).line m' = s.line m' := rfl
@[simp] theorem line_modMix (b : BerthNo) (f : MixState → MixState) (m' : LineNo) :
    (s.modMix b f).line m' = s.line m' := rfl
@[simp] theorem line_modVoice (v : Source) (f : Voice → Voice) (m' : LineNo) :
    (s.modVoice v f).line m' = s.line m' := rfl
@[simp] theorem line_setFilter (c : Contact) (f : Filter) (m' : LineNo) : (s.setFilter c f).line m' = s.line m' := rfl
@[simp] theorem line_modEntry (h : Byte) (f : Entry → Entry) (m' : LineNo) :
    (s.modEntry h f).line m' = s.line m' := rfl

@[simp] theorem linkOf_modLive (b : BerthNo) (f : LiveRecord → LiveRecord) (c' : BerthNo) :
    (s.modLive b f).linkOf c' = s.linkOf c' := rfl
@[simp] theorem linkOf_modStaged (b : BerthNo) (f : StagedRecord → StagedRecord) (c' : BerthNo) :
    (s.modStaged b f).linkOf c' = s.linkOf c' := rfl
@[simp] theorem linkOf_modLaneSet (l : LineNo) (f : LaneSet → LaneSet) (c' : BerthNo) :
    (s.modLaneSet l f).linkOf c' = s.linkOf c' := rfl
@[simp] theorem linkOf_modProgramme (p : ProgrammeNo) (f : Programme → Programme) (c' : BerthNo) :
    (s.modProgramme p f).linkOf c' = s.linkOf c' := rfl
@[simp] theorem linkOf_modTrack (p : ProgrammeNo) (t : TrackNo) (f : Track → Track) (c' : BerthNo) :
    (s.modTrack p t f).linkOf c' = s.linkOf c' := rfl
@[simp] theorem linkOf_modRecorded (f : RecordedBuffer → RecordedBuffer) (c' : BerthNo) :
    (s.modRecorded f).linkOf c' = s.linkOf c' := rfl
@[simp] theorem linkOf_modPort (f : PortCounters → PortCounters) (c' : BerthNo) :
    (s.modPort f).linkOf c' = s.linkOf c' := rfl
@[simp] theorem linkOf_modMix (b : BerthNo) (f : MixState → MixState) (c' : BerthNo) :
    (s.modMix b f).linkOf c' = s.linkOf c' := rfl
@[simp] theorem linkOf_modVoice (v : Source) (f : Voice → Voice) (c' : BerthNo) :
    (s.modVoice v f).linkOf c' = s.linkOf c' := rfl
@[simp] theorem linkOf_setFilter (c : Contact) (f : Filter) (c' : BerthNo) :
    (s.setFilter c f).linkOf c' = s.linkOf c' := rfl
@[simp] theorem linkOf_modEntry (h : Byte) (f : Entry → Entry) (c' : BerthNo) :
    (s.modEntry h f).linkOf c' = s.linkOf c' := rfl

@[simp] theorem laneSet_modLive (b : BerthNo) (f : LiveRecord → LiveRecord) (m' : LineNo) :
    (s.modLive b f).laneSet m' = s.laneSet m' := rfl
@[simp] theorem laneSet_modStaged (b : BerthNo) (f : StagedRecord → StagedRecord) (m' : LineNo) :
    (s.modStaged b f).laneSet m' = s.laneSet m' := rfl
@[simp] theorem laneSet_modLine (l : LineNo) (f : Line → Line) (m' : LineNo) :
    (s.modLine l f).laneSet m' = s.laneSet m' := rfl
@[simp] theorem laneSet_modLinkOf (b : BerthNo) (f : LinkRecord → LinkRecord) (m' : LineNo) :
    (s.modLinkOf b f).laneSet m' = s.laneSet m' := rfl
@[simp] theorem laneSet_modProgramme (p : ProgrammeNo) (f : Programme → Programme) (m' : LineNo) :
    (s.modProgramme p f).laneSet m' = s.laneSet m' := rfl
@[simp] theorem laneSet_modTrack (p : ProgrammeNo) (t : TrackNo) (f : Track → Track) (m' : LineNo) :
    (s.modTrack p t f).laneSet m' = s.laneSet m' := rfl
@[simp] theorem laneSet_modRecorded (f : RecordedBuffer → RecordedBuffer) (m' : LineNo) :
    (s.modRecorded f).laneSet m' = s.laneSet m' := rfl
@[simp] theorem laneSet_modPort (f : PortCounters → PortCounters) (m' : LineNo) :
    (s.modPort f).laneSet m' = s.laneSet m' := rfl
@[simp] theorem laneSet_modMix (b : BerthNo) (f : MixState → MixState) (m' : LineNo) :
    (s.modMix b f).laneSet m' = s.laneSet m' := rfl
@[simp] theorem laneSet_modVoice (v : Source) (f : Voice → Voice) (m' : LineNo) :
    (s.modVoice v f).laneSet m' = s.laneSet m' := rfl
@[simp] theorem laneSet_setFilter (c : Contact) (f : Filter) (m' : LineNo) :
    (s.setFilter c f).laneSet m' = s.laneSet m' := rfl
@[simp] theorem laneSet_modEntry (h : Byte) (f : Entry → Entry) (m' : LineNo) :
    (s.modEntry h f).laneSet m' = s.laneSet m' := rfl

@[simp] theorem programme_modLive (b : BerthNo) (f : LiveRecord → LiveRecord) (q' : ProgrammeNo) :
    (s.modLive b f).programme q' = s.programme q' := rfl
@[simp] theorem programme_modStaged (b : BerthNo) (f : StagedRecord → StagedRecord) (q' : ProgrammeNo) :
    (s.modStaged b f).programme q' = s.programme q' := rfl
@[simp] theorem programme_modLine (l : LineNo) (f : Line → Line) (q' : ProgrammeNo) :
    (s.modLine l f).programme q' = s.programme q' := rfl
@[simp] theorem programme_modLinkOf (b : BerthNo) (f : LinkRecord → LinkRecord) (q' : ProgrammeNo) :
    (s.modLinkOf b f).programme q' = s.programme q' := rfl
@[simp] theorem programme_modLaneSet (l : LineNo) (f : LaneSet → LaneSet) (q' : ProgrammeNo) :
    (s.modLaneSet l f).programme q' = s.programme q' := rfl
@[simp] theorem programme_modMix (b : BerthNo) (f : MixState → MixState) (q' : ProgrammeNo) :
    (s.modMix b f).programme q' = s.programme q' := rfl
@[simp] theorem programme_modVoice (v : Source) (f : Voice → Voice) (q' : ProgrammeNo) :
    (s.modVoice v f).programme q' = s.programme q' := rfl
@[simp] theorem programme_setFilter (c : Contact) (f : Filter) (q' : ProgrammeNo) :
    (s.setFilter c f).programme q' = s.programme q' := rfl
@[simp] theorem programme_modEntry (h : Byte) (f : Entry → Entry) (q' : ProgrammeNo) :
    (s.modEntry h f).programme q' = s.programme q' := rfl

@[simp] theorem track_modLive (b : BerthNo) (f : LiveRecord → LiveRecord) (q' : ProgrammeNo) (k' : TrackNo) :
    (s.modLive b f).track q' k' = s.track q' k' := rfl
@[simp] theorem track_modStaged (b : BerthNo) (f : StagedRecord → StagedRecord) (q' : ProgrammeNo) (k' : TrackNo) :
    (s.modStaged b f).track q' k' = s.track q' k' := rfl
@[simp] theorem track_modLine (l : LineNo) (f : Line → Line) (q' : ProgrammeNo) (k' : TrackNo) :
    (s.modLine l f).track q' k' = s.track q' k' := rfl
@[simp] theorem track_modLinkOf (b : BerthNo) (f : LinkRecord → LinkRecord) (q' : ProgrammeNo) (k' : TrackNo) :
    (s.modLinkOf b f).track q' k' = s.track q' k' := rfl
@[simp] theorem track_modLaneSet (l : LineNo) (f : LaneSet → LaneSet) (q' : ProgrammeNo) (k' : TrackNo) :
    (s.modLaneSet l f).track q' k' = s.track q' k' := rfl
@[simp] theorem track_modMix (b : BerthNo) (f : MixState → MixState) (q' : ProgrammeNo) (k' : TrackNo) :
    (s.modMix b f).track q' k' = s.track q' k' := rfl
@[simp] theorem track_modVoice (v : Source) (f : Voice → Voice) (q' : ProgrammeNo) (k' : TrackNo) :
    (s.modVoice v f).track q' k' = s.track q' k' := rfl
@[simp] theorem track_setFilter (c : Contact) (f : Filter) (q' : ProgrammeNo) (k' : TrackNo) :
    (s.setFilter c f).track q' k' = s.track q' k' := rfl
@[simp] theorem track_modEntry (h : Byte) (f : Entry → Entry) (q' : ProgrammeNo) (k' : TrackNo) :
    (s.modEntry h f).track q' k' = s.track q' k' := rfl

@[simp] theorem mixOf_modLive (b : BerthNo) (f : LiveRecord → LiveRecord) (c' : BerthNo) :
    (s.modLive b f).mixOf c' = s.mixOf c' := rfl
@[simp] theorem mixOf_modStaged (b : BerthNo) (f : StagedRecord → StagedRecord) (c' : BerthNo) :
    (s.modStaged b f).mixOf c' = s.mixOf c' := rfl
@[simp] theorem mixOf_modLine (l : LineNo) (f : Line → Line) (c' : BerthNo) :
    (s.modLine l f).mixOf c' = s.mixOf c' := rfl
@[simp] theorem mixOf_modLinkOf (b : BerthNo) (f : LinkRecord → LinkRecord) (c' : BerthNo) :
    (s.modLinkOf b f).mixOf c' = s.mixOf c' := rfl
@[simp] theorem mixOf_modLaneSet (l : LineNo) (f : LaneSet → LaneSet) (c' : BerthNo) :
    (s.modLaneSet l f).mixOf c' = s.mixOf c' := rfl
@[simp] theorem mixOf_modProgramme (p : ProgrammeNo) (f : Programme → Programme) (c' : BerthNo) :
    (s.modProgramme p f).mixOf c' = s.mixOf c' := rfl
@[simp] theorem mixOf_modTrack (p : ProgrammeNo) (t : TrackNo) (f : Track → Track) (c' : BerthNo) :
    (s.modTrack p t f).mixOf c' = s.mixOf c' := rfl
@[simp] theorem mixOf_modRecorded (f : RecordedBuffer → RecordedBuffer) (c' : BerthNo) :
    (s.modRecorded f).mixOf c' = s.mixOf c' := rfl
@[simp] theorem mixOf_modPort (f : PortCounters → PortCounters) (c' : BerthNo) :
    (s.modPort f).mixOf c' = s.mixOf c' := rfl
@[simp] theorem mixOf_modVoice (v : Source) (f : Voice → Voice) (c' : BerthNo) :
    (s.modVoice v f).mixOf c' = s.mixOf c' := rfl
@[simp] theorem mixOf_setFilter (c : Contact) (f : Filter) (c' : BerthNo) :
    (s.setFilter c f).mixOf c' = s.mixOf c' := rfl
@[simp] theorem mixOf_modEntry (h : Byte) (f : Entry → Entry) (c' : BerthNo) :
    (s.modEntry h f).mixOf c' = s.mixOf c' := rfl

@[simp] theorem voice_modLive (b : BerthNo) (f : LiveRecord → LiveRecord) (w' : Source) :
    (s.modLive b f).voice w' = s.voice w' := rfl
@[simp] theorem voice_modStaged (b : BerthNo) (f : StagedRecord → StagedRecord) (w' : Source) :
    (s.modStaged b f).voice w' = s.voice w' := rfl
@[simp] theorem voice_modLine (l : LineNo) (f : Line → Line) (w' : Source) :
    (s.modLine l f).voice w' = s.voice w' := rfl
@[simp] theorem voice_modLinkOf (b : BerthNo) (f : LinkRecord → LinkRecord) (w' : Source) :
    (s.modLinkOf b f).voice w' = s.voice w' := rfl
@[simp] theorem voice_modLaneSet (l : LineNo) (f : LaneSet → LaneSet) (w' : Source) :
    (s.modLaneSet l f).voice w' = s.voice w' := rfl
@[simp] theorem voice_modProgramme (p : ProgrammeNo) (f : Programme → Programme) (w' : Source) :
    (s.modProgramme p f).voice w' = s.voice w' := rfl
@[simp] theorem voice_modTrack (p : ProgrammeNo) (t : TrackNo) (f : Track → Track) (w' : Source) :
    (s.modTrack p t f).voice w' = s.voice w' := rfl
@[simp] theorem voice_modRecorded (f : RecordedBuffer → RecordedBuffer) (w' : Source) :
    (s.modRecorded f).voice w' = s.voice w' := rfl
@[simp] theorem voice_modPort (f : PortCounters → PortCounters) (w' : Source) :
    (s.modPort f).voice w' = s.voice w' := rfl
@[simp] theorem voice_modMix (b : BerthNo) (f : MixState → MixState) (w' : Source) :
    (s.modMix b f).voice w' = s.voice w' := rfl
@[simp] theorem voice_setFilter (c : Contact) (f : Filter) (w' : Source) :
    (s.setFilter c f).voice w' = s.voice w' := rfl
@[simp] theorem voice_modEntry (h : Byte) (f : Entry → Entry) (w' : Source) :
    (s.modEntry h f).voice w' = s.voice w' := rfl

@[simp] theorem filter_modLive (b : BerthNo) (f : LiveRecord → LiveRecord) (w' : Contact) :
    (s.modLive b f).filter w' = s.filter w' := rfl
@[simp] theorem filter_modStaged (b : BerthNo) (f : StagedRecord → StagedRecord) (w' : Contact) :
    (s.modStaged b f).filter w' = s.filter w' := rfl
@[simp] theorem filter_modLine (l : LineNo) (f : Line → Line) (w' : Contact) :
    (s.modLine l f).filter w' = s.filter w' := rfl
@[simp] theorem filter_modLinkOf (b : BerthNo) (f : LinkRecord → LinkRecord) (w' : Contact) :
    (s.modLinkOf b f).filter w' = s.filter w' := rfl
@[simp] theorem filter_modLaneSet (l : LineNo) (f : LaneSet → LaneSet) (w' : Contact) :
    (s.modLaneSet l f).filter w' = s.filter w' := rfl
@[simp] theorem filter_modProgramme (p : ProgrammeNo) (f : Programme → Programme) (w' : Contact) :
    (s.modProgramme p f).filter w' = s.filter w' := rfl
@[simp] theorem filter_modTrack (p : ProgrammeNo) (t : TrackNo) (f : Track → Track) (w' : Contact) :
    (s.modTrack p t f).filter w' = s.filter w' := rfl
@[simp] theorem filter_modRecorded (f : RecordedBuffer → RecordedBuffer) (w' : Contact) :
    (s.modRecorded f).filter w' = s.filter w' := rfl
@[simp] theorem filter_modPort (f : PortCounters → PortCounters) (w' : Contact) :
    (s.modPort f).filter w' = s.filter w' := rfl
@[simp] theorem filter_modMix (b : BerthNo) (f : MixState → MixState) (w' : Contact) :
    (s.modMix b f).filter w' = s.filter w' := rfl
@[simp] theorem filter_modVoice (v : Source) (f : Voice → Voice) (w' : Contact) :
    (s.modVoice v f).filter w' = s.filter w' := rfl
@[simp] theorem filter_modEntry (h : Byte) (f : Entry → Entry) (w' : Contact) :
    (s.modEntry h f).filter w' = s.filter w' := rfl

@[simp] theorem entry?_modLive (b : BerthNo) (f : LiveRecord → LiveRecord) (k' : Byte) :
    (s.modLive b f).entry? k' = s.entry? k' := rfl
@[simp] theorem entry?_modStaged (b : BerthNo) (f : StagedRecord → StagedRecord) (k' : Byte) :
    (s.modStaged b f).entry? k' = s.entry? k' := rfl
@[simp] theorem entry?_modLine (l : LineNo) (f : Line → Line) (k' : Byte) :
    (s.modLine l f).entry? k' = s.entry? k' := rfl
@[simp] theorem entry?_modLinkOf (b : BerthNo) (f : LinkRecord → LinkRecord) (k' : Byte) :
    (s.modLinkOf b f).entry? k' = s.entry? k' := rfl
@[simp] theorem entry?_modLaneSet (l : LineNo) (f : LaneSet → LaneSet) (k' : Byte) :
    (s.modLaneSet l f).entry? k' = s.entry? k' := rfl
@[simp] theorem entry?_modProgramme (p : ProgrammeNo) (f : Programme → Programme) (k' : Byte) :
    (s.modProgramme p f).entry? k' = s.entry? k' := rfl
@[simp] theorem entry?_modTrack (p : ProgrammeNo) (t : TrackNo) (f : Track → Track) (k' : Byte) :
    (s.modTrack p t f).entry? k' = s.entry? k' := rfl
@[simp] theorem entry?_modRecorded (f : RecordedBuffer → RecordedBuffer) (k' : Byte) :
    (s.modRecorded f).entry? k' = s.entry? k' := rfl
@[simp] theorem entry?_modPort (f : PortCounters → PortCounters) (k' : Byte) :
    (s.modPort f).entry? k' = s.entry? k' := rfl
@[simp] theorem entry?_modMix (b : BerthNo) (f : MixState → MixState) (k' : Byte) :
    (s.modMix b f).entry? k' = s.entry? k' := rfl
@[simp] theorem entry?_modVoice (v : Source) (f : Voice → Voice) (k' : Byte) :
    (s.modVoice v f).entry? k' = s.entry? k' := rfl
@[simp] theorem entry?_setFilter (c : Contact) (f : Filter) (k' : Byte) :
    (s.setFilter c f).entry? k' = s.entry? k' := rfl

@[simp] theorem active?_modLive (b : BerthNo) (f : LiveRecord → LiveRecord) (w' : Source) :
    (s.modLive b f).active? w' = s.active? w' := rfl
@[simp] theorem active?_modStaged (b : BerthNo) (f : StagedRecord → StagedRecord) (w' : Source) :
    (s.modStaged b f).active? w' = s.active? w' := rfl
@[simp] theorem active?_modLine (l : LineNo) (f : Line → Line) (w' : Source) :
    (s.modLine l f).active? w' = s.active? w' := rfl
@[simp] theorem active?_modLinkOf (b : BerthNo) (f : LinkRecord → LinkRecord) (w' : Source) :
    (s.modLinkOf b f).active? w' = s.active? w' := rfl
@[simp] theorem active?_modLaneSet (l : LineNo) (f : LaneSet → LaneSet) (w' : Source) :
    (s.modLaneSet l f).active? w' = s.active? w' := rfl
@[simp] theorem active?_modProgramme (p : ProgrammeNo) (f : Programme → Programme) (w' : Source) :
    (s.modProgramme p f).active? w' = s.active? w' := rfl
@[simp] theorem active?_modTrack (p : ProgrammeNo) (t : TrackNo) (f : Track → Track) (w' : Source) :
    (s.modTrack p t f).active? w' = s.active? w' := rfl
@[simp] theorem active?_modRecorded (f : RecordedBuffer → RecordedBuffer) (w' : Source) :
    (s.modRecorded f).active? w' = s.active? w' := rfl
@[simp] theorem active?_modPort (f : PortCounters → PortCounters) (w' : Source) :
    (s.modPort f).active? w' = s.active? w' := rfl
@[simp] theorem active?_modMix (b : BerthNo) (f : MixState → MixState) (w' : Source) :
    (s.modMix b f).active? w' = s.active? w' := rfl
@[simp] theorem active?_modVoice (v : Source) (f : Voice → Voice) (w' : Source) :
    (s.modVoice v f).active? w' = s.active? w' := rfl
@[simp] theorem active?_setFilter (c : Contact) (f : Filter) (w' : Source) :
    (s.setFilter c f).active? w' = s.active? w' := rfl

@[simp] theorem floorEntry?_modLive (b : BerthNo) (f : LiveRecord → LiveRecord) (c' : BerthNo) :
    (s.modLive b f).floorEntry? c' = s.floorEntry? c' := rfl
@[simp] theorem floorEntry?_modStaged (b : BerthNo) (f : StagedRecord → StagedRecord) (c' : BerthNo) :
    (s.modStaged b f).floorEntry? c' = s.floorEntry? c' := rfl
@[simp] theorem floorEntry?_modLine (l : LineNo) (f : Line → Line) (c' : BerthNo) :
    (s.modLine l f).floorEntry? c' = s.floorEntry? c' := rfl
@[simp] theorem floorEntry?_modLinkOf (b : BerthNo) (f : LinkRecord → LinkRecord) (c' : BerthNo) :
    (s.modLinkOf b f).floorEntry? c' = s.floorEntry? c' := rfl
@[simp] theorem floorEntry?_modLaneSet (l : LineNo) (f : LaneSet → LaneSet) (c' : BerthNo) :
    (s.modLaneSet l f).floorEntry? c' = s.floorEntry? c' := rfl
@[simp] theorem floorEntry?_modProgramme (p : ProgrammeNo) (f : Programme → Programme) (c' : BerthNo) :
    (s.modProgramme p f).floorEntry? c' = s.floorEntry? c' := rfl
@[simp] theorem floorEntry?_modTrack (p : ProgrammeNo) (t : TrackNo) (f : Track → Track) (c' : BerthNo) :
    (s.modTrack p t f).floorEntry? c' = s.floorEntry? c' := rfl
@[simp] theorem floorEntry?_modRecorded (f : RecordedBuffer → RecordedBuffer) (c' : BerthNo) :
    (s.modRecorded f).floorEntry? c' = s.floorEntry? c' := rfl
@[simp] theorem floorEntry?_modPort (f : PortCounters → PortCounters) (c' : BerthNo) :
    (s.modPort f).floorEntry? c' = s.floorEntry? c' := rfl
@[simp] theorem floorEntry?_modVoice (v : Source) (f : Voice → Voice) (c' : BerthNo) :
    (s.modVoice v f).floorEntry? c' = s.floorEntry? c' := rfl
@[simp] theorem floorEntry?_setFilter (c : Contact) (f : Filter) (c' : BerthNo) :
    (s.setFilter c f).floorEntry? c' = s.floorEntry? c' := rfl

end State

end Sys2Proof.Machine
end

