-- ==== Sys2Proof/Laws/Checks.lean ====
section
/-! SUPPORT. Deciding two of the invariants on a given state: what a witness has to evaluate. -/

namespace Sys2Proof.Machine

/-! ## Lanes -/

/-- The programme a lane carries, if it carries one. -/
def carriedBy (s : State) (l : LineNo) (n : LaneNo) : Option ProgrammeNo :=
  match (s.laneSet l).lanes.get n with
  | .free => none
  | .carrying p _ => some p

theorem carries_iff (s : State) (l : LineNo) (n : LaneNo) (p : ProgrammeNo) :
    Carries s l n p ↔ carriedBy s l n = some p := by
  simp only [Carries, carriedBy]
  split <;> simp_all

/-- The picture lane field of a berth is right, decided. -/
def fieldCheck (s : State) (b : BerthNo) : Bool :=
  match (s.live b).lane with
  | .none => !wantsLane s b
  | .lane n => wantsLane s b && (s.live b).programme.isSome && carriedBy s (lineOf b) n == (s.live b).programme
  | .waiting => wantsLane s b && (s.laneSet (lineOf b)).waits.contains b

theorem laneFieldRight_of_check {s : State} {b : BerthNo} (h : fieldCheck s b = true) : LaneFieldRight s b := by
  unfold fieldCheck at h
  unfold LaneFieldRight
  cases hl : (s.live b).lane with
  | none => simp only [hl] at h ⊢; simpa using h
  | lane n =>
    simp only [hl, Bool.and_eq_true, beq_iff_eq, Option.isSome_iff_exists] at h ⊢
    obtain ⟨⟨hw, p, hp⟩, hc⟩ := h
    exact ⟨hw, p, hp, (carries_iff ..).2 (hc.trans hp)⟩
  | waiting => simp only [hl] at h ⊢; simpa using h

/-- A lane holds what it should, decided. -/
def laneCheck (s : State) (l : LineNo) (n : LaneNo) : Bool :=
  match (s.laneSet l).lanes.get n with
  | .free => (s.line l).queues.get n == []
  | .carrying p c =>
    decide (1 ≤ c) && c == holders s l n && (List.finRange laneCount).all fun m => m == n || carriedBy s l m != some p

theorem laneRight_of_check {s : State} {l : LineNo} {n : LaneNo} (h : laneCheck s l n = true) : LaneRight s l n := by
  unfold laneCheck at h
  unfold LaneRight
  cases hl : (s.laneSet l).lanes.get n with
  | free => simp only [hl] at h ⊢; simpa using h
  | carrying p c =>
    simp only [hl, Bool.and_eq_true, beq_iff_eq, decide_eq_true_eq, List.all_eq_true, Bool.or_eq_true, bne_iff_ne] at h ⊢
    obtain ⟨⟨h1, h2⟩, h3⟩ := h
    refine ⟨h1, h2, fun m hm hc => ?_⟩
    have := h3 m (List.mem_finRange m)
    rw [carries_iff] at hc
    exact this.elim hm fun g => g hc

/-- LanesHold, decided. -/
abbrev LanesCheck (s : State) : Prop :=
  (s.device = .config → ∀ l, (s.line l).state = .off) ∧
  (∀ l, (s.line l).slotOpen = true ∨ (s.line l).frameDue = true → (s.line l).state = .running) ∧
  (∀ b, (s.line (lineOf b)).state ≠ .running → s.presence b ≠ .present ∧ s.presence b ≠ .conflict) ∧
  (∀ b, s.presence b = .excluded ↔ (s.line (lineOf b)).fitted ≤ (slotOf b).val) ∧
  (∀ b, fieldCheck s b = true) ∧ (∀ l n, laneCheck s l n = true) ∧
  ∀ l, (s.laneSet l).waits.Nodup ∧
    (∀ b ∈ (s.laneSet l).waits, lineOf b = l ∧ (s.live b).lane = .waiting ∧
      ((s.live b).programme ≠ none → ∀ n, carriedBy s l n ≠ (s.live b).programme)) ∧
    ((s.laneSet l).waits ≠ [] → ∀ n, (carriedBy s l n).isSome = true)

theorem lanesHold_of_check {s : State} (h : LanesCheck s) : LanesHold s := by
  obtain ⟨h1, h2, h3, h4, h5, h6, h7⟩ := h
  refine ⟨h1, h2, h3, h4, fun b => laneFieldRight_of_check (h5 b), fun l n => laneRight_of_check (h6 l n), fun l => ?_⟩
  obtain ⟨ha, hb, hc⟩ := h7 l
  refine ⟨ha, fun b m => ⟨(hb b m).1, (hb b m).2.1⟩, fun b m n p k e => ?_, fun w n => ?_⟩
  · exact (hb b m).2.2 (by simp [e]) n (((carries_iff ..).1 k).trans e.symm)
  · obtain ⟨p, hp⟩ := Option.isSome_iff_exists.1 (hc w n)
    exact ⟨p, (carries_iff ..).2 hp⟩

/-! ## Announcements -/

/-- The three sources. -/
def allSources : List Source := [.d, .c, .r]

theorem mem_allSources (v : Source) : v ∈ allSources := by cases v <;> simp [allSources]

/-- A voice and its entry agree, decided. -/
def voiceCheck (s : State) (v : Source) : Bool :=
  match (s.voice v).playing with
  | none => true
  | some p =>
    decide (p.noteIndex < (s.chimes.patterns.get p.pattern).length) &&
      s.ann.entries.any fun e => e.handle == p.entry && e.source == v && e.phase == .chime

/-- An entry in CHIME has its voice, decided. -/
def chimeCheck (s : State) (e : Entry) : Bool :=
  e.phase != .chime ||
    match (s.voice e.source).playing with
    | none => false
    | some p => p.entry == e.handle

/-- A berth's floor is PRESENT and names an entry that is not QUEUED, decided. -/
def floorCheck (s : State) (b : BerthNo) : Bool :=
  match (s.mixOf b).floor with
  | none => true
  | some h => s.presence b == .present && s.ann.entries.any fun e => e.handle == h && e.phase != .queued

/-- The recorded buffer's target is the recorded entry in LEAD, CHIME or LIVE, decided. -/
def targetCheck (s : State) : Bool :=
  match s.media.recorded.target with
  | none => s.ann.entries.all (fun e => !(e.source == .r && candidatePhase e.phase)) && s.media.recorded.blocks.isEmpty
  | some h => s.ann.entries.all (fun e => !(e.source == .r && candidatePhase e.phase) || e.handle == h) &&
      s.ann.entries.any fun e => e.handle == h && (e.source == .r && candidatePhase e.phase)

/-- AnnouncementsHold, decided. -/
abbrev AnnouncementsCheck (s : State) : Prop :=
  (s.device = .config → s.ann.entries = []) ∧
  ((s.ann.entries.map fun e => e.handle).Nodup ∧ ∀ e ∈ s.ann.entries, e.handle ≠ 0) ∧
  s.ann.handleCounter ≠ 0 ∧
  (entriesOf s .d ≤ 1 ∧ entriesOf s .c ≤ 1 ∧ entriesOf s .r ≤ 14) ∧
  (∀ e ∈ s.ann.entries, e.phase = .queued → e.source = .r) ∧
  ((s.ann.entries.countP fun e => activeRecorded e) ≤ 1) ∧
  s.ann.queue.Nodup ∧
  ((∀ h ∈ s.ann.queue, ∃ e ∈ s.ann.entries, e.handle = h ∧ e.phase = .queued) ∧
    ∀ e ∈ s.ann.entries, e.phase = .queued → e.handle ∈ s.ann.queue) ∧
  (s.ann.queue.Pairwise fun g h => ∀ e ∈ s.ann.entries, ∀ f ∈ s.ann.entries,
    e.handle = g → f.handle = h → outranks f e = false) ∧
  (s.ann.queue ≠ [] → ∃ e ∈ s.ann.entries, activeRecorded e = true) ∧
  targetCheck s = true ∧
  (∀ p, s.chimes.patterns.get p ≠ []) ∧
  (∀ v ∈ allSources, voiceCheck s v = true) ∧
  (∀ e ∈ s.ann.entries, chimeCheck s e = true) ∧
  (∀ b, floorCheck s b = true) ∧
  (∀ e ∈ s.ann.entries, e.audience = floorsOn s e.handle ∧ e.audience ≤ e.peak ∧ e.peak ≤ 48) ∧
  (∀ r ∈ s.ann.finished, r.peak ≤ 48) ∧
  ∀ e ∈ s.ann.entries, e.phase = .queued → phaseRead e = .queued

theorem announcementsHold_of_check {s : State} (h : AnnouncementsCheck s) : AnnouncementsHold s := by
  obtain ⟨h1, h2, h3, h4, h5, h6, h7, ⟨h8, h9⟩, h10, h11, h12, h13, h14, h15, h16, h17, h18, h19⟩ := h
  have hv : ∀ v p, (s.voice v).playing = some p → p.noteIndex < (s.chimes.patterns.get p.pattern).length ∧
      ∃ e ∈ s.ann.entries, e.handle = p.entry ∧ e.source = v ∧ e.phase = .chime := fun v p hp => by
    have := h14 v (mem_allSources v)
    simpa [voiceCheck, hp, and_assoc] using this
  have ht : (∀ h, s.media.recorded.target = some h ↔
      ∃ e ∈ s.ann.entries, e.handle = h ∧ e.source = .r ∧ candidatePhase e.phase = true) ∧
      (s.media.recorded.target = none → s.media.recorded.blocks = []) := by
    simp only [targetCheck] at h12
    split at h12
    · rename_i hn
      simp only [Bool.and_eq_true, List.all_eq_true, List.isEmpty_iff] at h12
      refine ⟨fun h => ⟨fun e => by simp [hn] at e, fun ⟨e, he, _, hs, hc⟩ => ?_⟩, fun _ => h12.2⟩
      have := h12.1 e he
      simp [hs, hc] at this
    · rename_i g hg
      simp only [Bool.and_eq_true, List.all_eq_true, List.any_eq_true, Bool.or_eq_true, beq_iff_eq] at h12
      obtain ⟨ha, e, he, hh, hs, hc⟩ := h12
      refine ⟨fun h => ⟨fun q => ?_, fun ⟨e', he', hh', hs', hc'⟩ => ?_⟩, fun q => by simp [hg] at q⟩
      · rw [hg] at q; cases q; exact ⟨e, he, hh, hs, hc⟩
      · have := ha e' he'
        simp [hs', hc'] at this
        rw [hg, ← hh', this]
  exact {
    configEmpty := h1, handles := h2, counter := h3, quotas := h4, queuedRecorded := h5, oneActive := h6, queueOnce := h7
    queueRight := fun h => ⟨h8 h, fun ⟨e, he, hh, hp⟩ => hh ▸ h9 e he hp⟩
    queueOrder := h10, queueBusy := h11, target := ht.1, noTarget := ht.2, patterns := h13
    voices := fun v p hp => (hv v p hp).2
    notes := fun v p hp => (hv v p hp).1
    chimes := fun e he hc => by
      have := h15 e he
      simp only [chimeCheck, hc] at this
      split at this
      · simp at this
      · rename_i p hp; exact ⟨p, hp, by simpa using this⟩
    floors := fun b h hf => by
      have := h16 b
      simpa [floorCheck, hf] using this
    audience := h17, peaks := h18, readQueued := h19 }

end Sys2Proof.Machine
end

