-- ==== Sys2Proof/Laws/Footprints.lean ====
section
/-! SUPPORT. The footprint of each shared operation: one lemma that names every part of State the operation leaves as it
was. simp takes the clauses one by one. -/

namespace Sys2Proof.Machine

/-! ## Loops -/

/-- What every turn of a loop leaves, the loop leaves. -/
theorem forEach_keeps {α β : Type} (g : State → β) {f : State → α → State} (h : ∀ s x, g (f s x) = g s) (xs : List α)
    (s : State) : g (forEach xs f s) = g s := by
  induction xs generalizing s with
  | nil => rfl
  | cons x xs ih => exact (ih (f s x)).trans (h s x)

/-- What holds after every turn, given that it held before, holds after the loop. -/
theorem forEach_invariant {α : Type} (P : State → Prop) {f : State → α → State} (xs : List α)
    (h : ∀ s, ∀ x ∈ xs, P s → P (f s x)) {s : State} (hs : P s) : P (forEach xs f s) := by
  induction xs generalizing s with
  | nil => exact hs
  | cons x xs ih =>
    exact ih (fun t y hy => h t y (List.mem_cons_of_mem x hy)) (h s x List.mem_cons_self hs)

section
variable {α : Type} {f : State → α → State} (xs : List α) (s : State)
@[simp] theorem forEach_device (h : ∀ s x, (f s x).device = s.device) : (forEach xs f s).device = s.device :=
  forEach_keeps State.device h xs s
@[simp] theorem forEach_blockCount (h : ∀ s x, (f s x).blockCount = s.blockCount) : (forEach xs f s).blockCount = s.blockCount :=
  forEach_keeps State.blockCount h xs s
@[simp] theorem forEach_link (h : ∀ s x, (f s x).link = s.link) : (forEach xs f s).link = s.link :=
  forEach_keeps State.link h xs s
@[simp] theorem forEach_events (h : ∀ s x, (f s x).events = s.events) : (forEach xs f s).events = s.events :=
  forEach_keeps State.events h xs s
@[simp] theorem forEach_berths (h : ∀ s x, (f s x).berths = s.berths) : (forEach xs f s).berths = s.berths :=
  forEach_keeps State.berths h xs s
@[simp] theorem forEach_commitPending (h : ∀ s x, (f s x).commitPending = s.commitPending) : (forEach xs f s).commitPending = s.commitPending :=
  forEach_keeps State.commitPending h xs s
@[simp] theorem forEach_lines (h : ∀ s x, (f s x).lines = s.lines) : (forEach xs f s).lines = s.lines :=
  forEach_keeps State.lines h xs s
@[simp] theorem forEach_lanes (h : ∀ s x, (f s x).lanes = s.lanes) : (forEach xs f s).lanes = s.lanes :=
  forEach_keeps State.lanes h xs s
@[simp] theorem forEach_media (h : ∀ s x, (f s x).media = s.media) : (forEach xs f s).media = s.media :=
  forEach_keeps State.media h xs s
@[simp] theorem forEach_ann (h : ∀ s x, (f s x).ann = s.ann) : (forEach xs f s).ann = s.ann :=
  forEach_keeps State.ann h xs s
@[simp] theorem forEach_chimes (h : ∀ s x, (f s x).chimes = s.chimes) : (forEach xs f s).chimes = s.chimes :=
  forEach_keeps State.chimes h xs s
@[simp] theorem forEach_mix (h : ∀ s x, (f s x).mix = s.mix) : (forEach xs f s).mix = s.mix :=
  forEach_keeps State.mix h xs s
@[simp] theorem forEach_coach (h : ∀ s x, (f s x).coach = s.coach) : (forEach xs f s).coach = s.coach :=
  forEach_keeps State.coach h xs s
@[simp] theorem forEach_resetLow (h : ∀ s x, (f s x).resetLow = s.resetLow) : (forEach xs f s).resetLow = s.resetLow :=
  forEach_keeps State.resetLow h xs s
@[simp] theorem forEach_boundary (h : ∀ s x, (f s x).boundary = s.boundary) : (forEach xs f s).boundary = s.boundary :=
  forEach_keeps State.boundary h xs s
@[simp] theorem forEach_pending (h : ∀ s x, (f s x).pending = s.pending) : (forEach xs f s).pending = s.pending :=
  forEach_keeps State.pending h xs s
end

/-! ## Events, replies -/

@[simp] theorem raise_frame (e : Event) (s : State) :
    (raise e s).device = s.device ∧ (raise e s).blockCount = s.blockCount ∧ (raise e s).link = s.link ∧
    (raise e s).berths = s.berths ∧ (raise e s).commitPending = s.commitPending ∧ (raise e s).lines = s.lines ∧
    (raise e s).lanes = s.lanes ∧ (raise e s).media = s.media ∧ (raise e s).ann = s.ann ∧
    (raise e s).chimes = s.chimes ∧ (raise e s).mix = s.mix ∧ (raise e s).coach = s.coach ∧
    (raise e s).resetLow = s.resetLow ∧ (raise e s).boundary = s.boundary ∧ (raise e s).pending = s.pending := by
  simp [raise]

/-! ## The Lane Allocator (R71 to R76) -/

@[simp] theorem setLaneField_frame (b : BerthNo) (v : LaneField) (s : State) :
    (setLaneField b v s).device = s.device ∧ (setLaneField b v s).blockCount = s.blockCount ∧
    (setLaneField b v s).link = s.link ∧ (setLaneField b v s).events = s.events ∧
    (setLaneField b v s).commitPending = s.commitPending ∧ (setLaneField b v s).lines = s.lines ∧
    (setLaneField b v s).lanes = s.lanes ∧ (setLaneField b v s).media = s.media ∧ (setLaneField b v s).ann = s.ann ∧
    (setLaneField b v s).chimes = s.chimes ∧ (setLaneField b v s).mix = s.mix ∧ (setLaneField b v s).coach = s.coach ∧
    (setLaneField b v s).resetLow = s.resetLow ∧ (setLaneField b v s).boundary = s.boundary ∧
    (setLaneField b v s).pending = s.pending := by
  simp [setLaneField]

@[simp] theorem setLane_frame (l : LineNo) (n : LaneNo) (v : Lane) (s : State) :
    (setLane l n v s).device = s.device ∧ (setLane l n v s).blockCount = s.blockCount ∧
    (setLane l n v s).link = s.link ∧ (setLane l n v s).events = s.events ∧ (setLane l n v s).berths = s.berths ∧
    (setLane l n v s).commitPending = s.commitPending ∧ (setLane l n v s).lines = s.lines ∧
    (setLane l n v s).media = s.media ∧ (setLane l n v s).ann = s.ann ∧ (setLane l n v s).chimes = s.chimes ∧
    (setLane l n v s).mix = s.mix ∧ (setLane l n v s).coach = s.coach ∧ (setLane l n v s).resetLow = s.resetLow ∧
    (setLane l n v s).boundary = s.boundary ∧ (setLane l n v s).pending = s.pending := by
  simp [setLane]

@[simp] theorem setWaits_frame (l : LineNo) (ws : List BerthNo) (s : State) :
    (setWaits l ws s).device = s.device ∧ (setWaits l ws s).blockCount = s.blockCount ∧
    (setWaits l ws s).link = s.link ∧ (setWaits l ws s).events = s.events ∧ (setWaits l ws s).berths = s.berths ∧
    (setWaits l ws s).commitPending = s.commitPending ∧ (setWaits l ws s).lines = s.lines ∧
    (setWaits l ws s).media = s.media ∧ (setWaits l ws s).ann = s.ann ∧ (setWaits l ws s).chimes = s.chimes ∧
    (setWaits l ws s).mix = s.mix ∧ (setWaits l ws s).coach = s.coach ∧ (setWaits l ws s).resetLow = s.resetLow ∧
    (setWaits l ws s).boundary = s.boundary ∧ (setWaits l ws s).pending = s.pending := by
  simp [setWaits]

@[simp] theorem freeTheLane_frame (l : LineNo) (n : LaneNo) (s : State) :
    (freeTheLane l n s).device = s.device ∧ (freeTheLane l n s).blockCount = s.blockCount ∧
    (freeTheLane l n s).link = s.link ∧ (freeTheLane l n s).events = s.events ∧
    (freeTheLane l n s).berths = s.berths ∧ (freeTheLane l n s).commitPending = s.commitPending ∧
    (freeTheLane l n s).media = s.media ∧ (freeTheLane l n s).ann = s.ann ∧ (freeTheLane l n s).chimes = s.chimes ∧
    (freeTheLane l n s).mix = s.mix ∧ (freeTheLane l n s).coach = s.coach ∧
    (freeTheLane l n s).resetLow = s.resetLow ∧ (freeTheLane l n s).boundary = s.boundary ∧
    (freeTheLane l n s).pending = s.pending := by
  simp [freeTheLane]

@[simp] theorem acquire_frame (b : BerthNo) (s : State) :
    (acquire b s).device = s.device ∧ (acquire b s).blockCount = s.blockCount ∧ (acquire b s).link = s.link ∧
    (acquire b s).events = s.events ∧ (acquire b s).commitPending = s.commitPending ∧ (acquire b s).lines = s.lines ∧
    (acquire b s).media = s.media ∧ (acquire b s).ann = s.ann ∧ (acquire b s).chimes = s.chimes ∧
    (acquire b s).mix = s.mix ∧ (acquire b s).coach = s.coach ∧ (acquire b s).resetLow = s.resetLow ∧
    (acquire b s).boundary = s.boundary ∧ (acquire b s).pending = s.pending := by
  unfold acquire
  dsimp only
  (repeat' split) <;> simp

@[simp] theorem handOver_frame (l : LineNo) (n : LaneNo) (w : BerthNo) (s : State) :
    (handOver l n w s).device = s.device ∧ (handOver l n w s).blockCount = s.blockCount ∧
    (handOver l n w s).link = s.link ∧ (handOver l n w s).events = s.events ∧
    (handOver l n w s).commitPending = s.commitPending ∧ (handOver l n w s).media = s.media ∧
    (handOver l n w s).ann = s.ann ∧ (handOver l n w s).chimes = s.chimes ∧ (handOver l n w s).mix = s.mix ∧
    (handOver l n w s).coach = s.coach ∧ (handOver l n w s).resetLow = s.resetLow ∧
    (handOver l n w s).boundary = s.boundary ∧ (handOver l n w s).pending = s.pending := by
  unfold handOver
  (repeat' split) <;> simp

@[simp] theorem releaseLane_frame (b : BerthNo) (n : LaneNo) (s : State) :
    (releaseLane b n s).device = s.device ∧ (releaseLane b n s).blockCount = s.blockCount ∧
    (releaseLane b n s).link = s.link ∧ (releaseLane b n s).events = s.events ∧
    (releaseLane b n s).commitPending = s.commitPending ∧ (releaseLane b n s).media = s.media ∧
    (releaseLane b n s).ann = s.ann ∧ (releaseLane b n s).chimes = s.chimes ∧ (releaseLane b n s).mix = s.mix ∧
    (releaseLane b n s).coach = s.coach ∧ (releaseLane b n s).resetLow = s.resetLow ∧
    (releaseLane b n s).boundary = s.boundary ∧ (releaseLane b n s).pending = s.pending := by
  unfold releaseLane
  dsimp only
  (repeat' split) <;> simp

@[simp] theorem releaseWait_frame (b : BerthNo) (s : State) :
    (releaseWait b s).device = s.device ∧ (releaseWait b s).blockCount = s.blockCount ∧
    (releaseWait b s).link = s.link ∧ (releaseWait b s).events = s.events ∧
    (releaseWait b s).commitPending = s.commitPending ∧ (releaseWait b s).lines = s.lines ∧
    (releaseWait b s).media = s.media ∧ (releaseWait b s).ann = s.ann ∧ (releaseWait b s).chimes = s.chimes ∧
    (releaseWait b s).mix = s.mix ∧ (releaseWait b s).coach = s.coach ∧ (releaseWait b s).resetLow = s.resetLow ∧
    (releaseWait b s).boundary = s.boundary ∧ (releaseWait b s).pending = s.pending := by
  simp [releaseWait]

@[simp] theorem releaseRoute_frame (b : BerthNo) (s : State) :
    (releaseRoute b s).device = s.device ∧ (releaseRoute b s).blockCount = s.blockCount ∧
    (releaseRoute b s).link = s.link ∧ (releaseRoute b s).events = s.events ∧
    (releaseRoute b s).commitPending = s.commitPending ∧ (releaseRoute b s).media = s.media ∧
    (releaseRoute b s).ann = s.ann ∧ (releaseRoute b s).chimes = s.chimes ∧ (releaseRoute b s).mix = s.mix ∧
    (releaseRoute b s).coach = s.coach ∧ (releaseRoute b s).resetLow = s.resetLow ∧
    (releaseRoute b s).boundary = s.boundary ∧ (releaseRoute b s).pending = s.pending := by
  unfold releaseRoute
  (repeat' split) <;> simp

@[simp] theorem routeChange_frame (b : BerthNo) (s : State) :
    (routeChange b s).device = s.device ∧ (routeChange b s).blockCount = s.blockCount ∧
    (routeChange b s).link = s.link ∧ (routeChange b s).events = s.events ∧
    (routeChange b s).commitPending = s.commitPending ∧ (routeChange b s).media = s.media ∧
    (routeChange b s).ann = s.ann ∧ (routeChange b s).chimes = s.chimes ∧ (routeChange b s).mix = s.mix ∧
    (routeChange b s).coach = s.coach ∧ (routeChange b s).resetLow = s.resetLow ∧
    (routeChange b s).boundary = s.boundary ∧ (routeChange b s).pending = s.pending := by
  simp [routeChange]

@[simp] theorem batchUnwait_frame (b : BerthNo) (s : State) :
    (batchUnwait s b).device = s.device ∧ (batchUnwait s b).blockCount = s.blockCount ∧
    (batchUnwait s b).link = s.link ∧ (batchUnwait s b).events = s.events ∧
    (batchUnwait s b).commitPending = s.commitPending ∧ (batchUnwait s b).lines = s.lines ∧
    (batchUnwait s b).media = s.media ∧ (batchUnwait s b).ann = s.ann ∧ (batchUnwait s b).chimes = s.chimes ∧
    (batchUnwait s b).mix = s.mix ∧ (batchUnwait s b).coach = s.coach ∧ (batchUnwait s b).resetLow = s.resetLow ∧
    (batchUnwait s b).boundary = s.boundary ∧ (batchUnwait s b).pending = s.pending := by
  unfold batchUnwait
  (repeat' split) <;> simp

@[simp] theorem batchRelease_frame (b : BerthNo) (s : State) :
    (batchRelease s b).device = s.device ∧ (batchRelease s b).blockCount = s.blockCount ∧
    (batchRelease s b).link = s.link ∧ (batchRelease s b).events = s.events ∧
    (batchRelease s b).commitPending = s.commitPending ∧ (batchRelease s b).media = s.media ∧
    (batchRelease s b).ann = s.ann ∧ (batchRelease s b).chimes = s.chimes ∧ (batchRelease s b).mix = s.mix ∧
    (batchRelease s b).coach = s.coach ∧ (batchRelease s b).resetLow = s.resetLow ∧
    (batchRelease s b).boundary = s.boundary ∧ (batchRelease s b).pending = s.pending := by
  unfold batchRelease
  (repeat' split) <;> simp

@[simp] theorem applyBatch_frame (bs : List BerthNo) (s : State) :
    (applyBatch bs s).device = s.device ∧ (applyBatch bs s).blockCount = s.blockCount ∧
    (applyBatch bs s).link = s.link ∧ (applyBatch bs s).events = s.events ∧
    (applyBatch bs s).commitPending = s.commitPending ∧ (applyBatch bs s).media = s.media ∧
    (applyBatch bs s).ann = s.ann ∧ (applyBatch bs s).chimes = s.chimes ∧ (applyBatch bs s).mix = s.mix ∧
    (applyBatch bs s).coach = s.coach ∧ (applyBatch bs s).resetLow = s.resetLow ∧
    (applyBatch bs s).boundary = s.boundary ∧ (applyBatch bs s).pending = s.pending := by
  simp [applyBatch]

/-! ## Floors (R125 to R131, R153) -/

@[simp] theorem loseAudience_frame (h : Byte) (s : State) :
    (loseAudience h s).device = s.device ∧ (loseAudience h s).blockCount = s.blockCount ∧
    (loseAudience h s).link = s.link ∧ (loseAudience h s).events = s.events ∧ (loseAudience h s).berths = s.berths ∧
    (loseAudience h s).commitPending = s.commitPending ∧ (loseAudience h s).lines = s.lines ∧
    (loseAudience h s).lanes = s.lanes ∧ (loseAudience h s).media = s.media ∧ (loseAudience h s).chimes = s.chimes ∧
    (loseAudience h s).mix = s.mix ∧ (loseAudience h s).coach = s.coach ∧ (loseAudience h s).resetLow = s.resetLow ∧
    (loseAudience h s).boundary = s.boundary ∧ (loseAudience h s).pending = s.pending := by
  simp [loseAudience]

@[simp] theorem gainAudience_frame (h : Byte) (s : State) :
    (gainAudience h s).device = s.device ∧ (gainAudience h s).blockCount = s.blockCount ∧
    (gainAudience h s).link = s.link ∧ (gainAudience h s).events = s.events ∧ (gainAudience h s).berths = s.berths ∧
    (gainAudience h s).commitPending = s.commitPending ∧ (gainAudience h s).lines = s.lines ∧
    (gainAudience h s).lanes = s.lanes ∧ (gainAudience h s).media = s.media ∧ (gainAudience h s).chimes = s.chimes ∧
    (gainAudience h s).mix = s.mix ∧ (gainAudience h s).coach = s.coach ∧ (gainAudience h s).resetLow = s.resetLow ∧
    (gainAudience h s).boundary = s.boundary ∧ (gainAudience h s).pending = s.pending := by
  simp [gainAudience]

@[simp] theorem dropFloorAudience_frame (b : BerthNo) (s : State) :
    (dropFloorAudience b s).device = s.device ∧ (dropFloorAudience b s).blockCount = s.blockCount ∧
    (dropFloorAudience b s).link = s.link ∧ (dropFloorAudience b s).events = s.events ∧
    (dropFloorAudience b s).berths = s.berths ∧ (dropFloorAudience b s).commitPending = s.commitPending ∧
    (dropFloorAudience b s).lines = s.lines ∧ (dropFloorAudience b s).lanes = s.lanes ∧
    (dropFloorAudience b s).media = s.media ∧ (dropFloorAudience b s).chimes = s.chimes ∧
    (dropFloorAudience b s).mix = s.mix ∧ (dropFloorAudience b s).coach = s.coach ∧
    (dropFloorAudience b s).resetLow = s.resetLow ∧ (dropFloorAudience b s).boundary = s.boundary ∧
    (dropFloorAudience b s).pending = s.pending := by
  unfold dropFloorAudience
  (repeat' split) <;> simp

@[simp] theorem changeFloor_frame (b : BerthNo) (e : Entry) (s : State) :
    (changeFloor b e s).device = s.device ∧ (changeFloor b e s).blockCount = s.blockCount ∧
    (changeFloor b e s).link = s.link ∧ (changeFloor b e s).events = s.events ∧
    (changeFloor b e s).berths = s.berths ∧ (changeFloor b e s).commitPending = s.commitPending ∧
    (changeFloor b e s).lines = s.lines ∧ (changeFloor b e s).lanes = s.lanes ∧ (changeFloor b e s).media = s.media ∧
    (changeFloor b e s).chimes = s.chimes ∧ (changeFloor b e s).coach = s.coach ∧
    (changeFloor b e s).resetLow = s.resetLow ∧ (changeFloor b e s).boundary = s.boundary ∧
    (changeFloor b e s).pending = s.pending := by
  simp [changeFloor]

@[simp] theorem keepFloor_frame (b : BerthNo) (e : Entry) (s : State) :
    (keepFloor b e s).device = s.device ∧ (keepFloor b e s).blockCount = s.blockCount ∧
    (keepFloor b e s).link = s.link ∧ (keepFloor b e s).events = s.events ∧ (keepFloor b e s).berths = s.berths ∧
    (keepFloor b e s).commitPending = s.commitPending ∧ (keepFloor b e s).lines = s.lines ∧
    (keepFloor b e s).lanes = s.lanes ∧ (keepFloor b e s).media = s.media ∧ (keepFloor b e s).ann = s.ann ∧
    (keepFloor b e s).chimes = s.chimes ∧ (keepFloor b e s).coach = s.coach ∧
    (keepFloor b e s).resetLow = s.resetLow ∧ (keepFloor b e s).boundary = s.boundary ∧
    (keepFloor b e s).pending = s.pending := by
  simp [keepFloor]

@[simp] theorem fadeFloor_frame (b : BerthNo) (e : Entry) (s : State) :
    (fadeFloor b e s).device = s.device ∧ (fadeFloor b e s).blockCount = s.blockCount ∧
    (fadeFloor b e s).link = s.link ∧ (fadeFloor b e s).events = s.events ∧ (fadeFloor b e s).berths = s.berths ∧
    (fadeFloor b e s).commitPending = s.commitPending ∧ (fadeFloor b e s).lines = s.lines ∧
    (fadeFloor b e s).lanes = s.lanes ∧ (fadeFloor b e s).media = s.media ∧ (fadeFloor b e s).ann = s.ann ∧
    (fadeFloor b e s).chimes = s.chimes ∧ (fadeFloor b e s).coach = s.coach ∧
    (fadeFloor b e s).resetLow = s.resetLow ∧ (fadeFloor b e s).boundary = s.boundary ∧
    (fadeFloor b e s).pending = s.pending := by
  simp [fadeFloor]

@[simp] theorem loseFloor_frame (b : BerthNo) (e : Entry) (s : State) :
    (loseFloor b e s).device = s.device ∧ (loseFloor b e s).blockCount = s.blockCount ∧
    (loseFloor b e s).link = s.link ∧ (loseFloor b e s).events = s.events ∧ (loseFloor b e s).berths = s.berths ∧
    (loseFloor b e s).commitPending = s.commitPending ∧ (loseFloor b e s).lines = s.lines ∧
    (loseFloor b e s).lanes = s.lanes ∧ (loseFloor b e s).media = s.media ∧ (loseFloor b e s).chimes = s.chimes ∧
    (loseFloor b e s).coach = s.coach ∧ (loseFloor b e s).resetLow = s.resetLow ∧
    (loseFloor b e s).boundary = s.boundary ∧ (loseFloor b e s).pending = s.pending := by
  simp [loseFloor]

@[simp] theorem evaluateFloor_frame (b : BerthNo) (s : State) :
    (evaluateFloor b s).device = s.device ∧ (evaluateFloor b s).blockCount = s.blockCount ∧
    (evaluateFloor b s).link = s.link ∧ (evaluateFloor b s).events = s.events ∧
    (evaluateFloor b s).berths = s.berths ∧ (evaluateFloor b s).commitPending = s.commitPending ∧
    (evaluateFloor b s).lines = s.lines ∧ (evaluateFloor b s).lanes = s.lanes ∧ (evaluateFloor b s).media = s.media ∧
    (evaluateFloor b s).chimes = s.chimes ∧ (evaluateFloor b s).coach = s.coach ∧
    (evaluateFloor b s).resetLow = s.resetLow ∧ (evaluateFloor b s).boundary = s.boundary ∧
    (evaluateFloor b s).pending = s.pending := by
  unfold evaluateFloor
  (repeat' split) <;> simp

@[simp] theorem clearFloors_frame (h : Byte) (n : Nat) (s : State) :
    (clearFloors h n s).device = s.device ∧ (clearFloors h n s).blockCount = s.blockCount ∧
    (clearFloors h n s).link = s.link ∧ (clearFloors h n s).events = s.events ∧
    (clearFloors h n s).berths = s.berths ∧ (clearFloors h n s).commitPending = s.commitPending ∧
    (clearFloors h n s).lines = s.lines ∧ (clearFloors h n s).lanes = s.lanes ∧ (clearFloors h n s).media = s.media ∧
    (clearFloors h n s).ann = s.ann ∧ (clearFloors h n s).chimes = s.chimes ∧ (clearFloors h n s).coach = s.coach ∧
    (clearFloors h n s).resetLow = s.resetLow ∧ (clearFloors h n s).boundary = s.boundary ∧
    (clearFloors h n s).pending = s.pending := by
  simp [clearFloors]

@[simp] theorem mixLeavesPresent_frame (b : BerthNo) (s : State) :
    (mixLeavesPresent b s).device = s.device ∧ (mixLeavesPresent b s).blockCount = s.blockCount ∧
    (mixLeavesPresent b s).link = s.link ∧ (mixLeavesPresent b s).events = s.events ∧
    (mixLeavesPresent b s).berths = s.berths ∧ (mixLeavesPresent b s).commitPending = s.commitPending ∧
    (mixLeavesPresent b s).lines = s.lines ∧ (mixLeavesPresent b s).lanes = s.lanes ∧
    (mixLeavesPresent b s).media = s.media ∧ (mixLeavesPresent b s).chimes = s.chimes ∧
    (mixLeavesPresent b s).coach = s.coach ∧ (mixLeavesPresent b s).resetLow = s.resetLow ∧
    (mixLeavesPresent b s).boundary = s.boundary ∧ (mixLeavesPresent b s).pending = s.pending := by
  simp [mixLeavesPresent]

@[simp] theorem mixEntersPresent_frame (b : BerthNo) (s : State) :
    (mixEntersPresent b s).device = s.device ∧ (mixEntersPresent b s).blockCount = s.blockCount ∧
    (mixEntersPresent b s).link = s.link ∧ (mixEntersPresent b s).events = s.events ∧
    (mixEntersPresent b s).berths = s.berths ∧ (mixEntersPresent b s).commitPending = s.commitPending ∧
    (mixEntersPresent b s).lines = s.lines ∧ (mixEntersPresent b s).lanes = s.lanes ∧
    (mixEntersPresent b s).media = s.media ∧ (mixEntersPresent b s).ann = s.ann ∧
    (mixEntersPresent b s).chimes = s.chimes ∧ (mixEntersPresent b s).coach = s.coach ∧
    (mixEntersPresent b s).resetLow = s.resetLow ∧ (mixEntersPresent b s).boundary = s.boundary ∧
    (mixEntersPresent b s).pending = s.pending := by
  simp [mixEntersPresent]

@[simp] theorem alarmReleaseAt_frame (b : BerthNo) (s : State) :
    (alarmReleaseAt s b).device = s.device ∧ (alarmReleaseAt s b).blockCount = s.blockCount ∧
    (alarmReleaseAt s b).link = s.link ∧ (alarmReleaseAt s b).events = s.events ∧
    (alarmReleaseAt s b).berths = s.berths ∧ (alarmReleaseAt s b).commitPending = s.commitPending ∧
    (alarmReleaseAt s b).lines = s.lines ∧ (alarmReleaseAt s b).lanes = s.lanes ∧
    (alarmReleaseAt s b).media = s.media ∧ (alarmReleaseAt s b).ann = s.ann ∧ (alarmReleaseAt s b).chimes = s.chimes ∧
    (alarmReleaseAt s b).coach = s.coach ∧ (alarmReleaseAt s b).resetLow = s.resetLow ∧
    (alarmReleaseAt s b).boundary = s.boundary ∧ (alarmReleaseAt s b).pending = s.pending := by
  unfold alarmReleaseAt
  (repeat' split) <;> simp

/-! ## Presence (R3 to R5, R34, R44) -/

@[simp] theorem leavesPresent_frame (b : BerthNo) (s : State) :
    (leavesPresent b s).device = s.device ∧ (leavesPresent b s).blockCount = s.blockCount ∧
    (leavesPresent b s).link = s.link ∧ (leavesPresent b s).events = s.events ∧
    (leavesPresent b s).commitPending = s.commitPending ∧ (leavesPresent b s).media = s.media ∧
    (leavesPresent b s).chimes = s.chimes ∧ (leavesPresent b s).coach = s.coach ∧
    (leavesPresent b s).resetLow = s.resetLow ∧ (leavesPresent b s).boundary = s.boundary ∧
    (leavesPresent b s).pending = s.pending := by
  simp [leavesPresent]

@[simp] theorem entersPresent_frame (b : BerthNo) (s : State) :
    (entersPresent b s).device = s.device ∧ (entersPresent b s).blockCount = s.blockCount ∧
    (entersPresent b s).link = s.link ∧ (entersPresent b s).events = s.events ∧
    (entersPresent b s).commitPending = s.commitPending ∧ (entersPresent b s).lines = s.lines ∧
    (entersPresent b s).media = s.media ∧ (entersPresent b s).ann = s.ann ∧ (entersPresent b s).chimes = s.chimes ∧
    (entersPresent b s).coach = s.coach ∧ (entersPresent b s).resetLow = s.resetLow ∧
    (entersPresent b s).boundary = s.boundary ∧ (entersPresent b s).pending = s.pending := by
  unfold entersPresent
  dsimp only
  (repeat' split) <;> simp

@[simp] theorem notify_frame (v : Presence) (b : BerthNo) (s : State) :
    (notify v b s).device = s.device ∧ (notify v b s).blockCount = s.blockCount ∧ (notify v b s).link = s.link ∧
    (notify v b s).commitPending = s.commitPending ∧ (notify v b s).media = s.media ∧
    (notify v b s).chimes = s.chimes ∧ (notify v b s).coach = s.coach ∧ (notify v b s).resetLow = s.resetLow ∧
    (notify v b s).boundary = s.boundary ∧ (notify v b s).pending = s.pending := by
  unfold notify
  dsimp only
  (repeat' split) <;> simp

@[simp] theorem dropLine_frame (l : LineNo) (s : State) :
    (dropLine l s).device = s.device ∧ (dropLine l s).blockCount = s.blockCount ∧ (dropLine l s).link = s.link ∧
    (dropLine l s).commitPending = s.commitPending ∧ (dropLine l s).media = s.media ∧
    (dropLine l s).chimes = s.chimes ∧ (dropLine l s).coach = s.coach ∧ (dropLine l s).resetLow = s.resetLow ∧
    (dropLine l s).boundary = s.boundary ∧ (dropLine l s).pending = s.pending := by
  refine ⟨?_, ?_, ?_, ?_, ?_, ?_, ?_, ?_, ?_, ?_⟩ <;>
    exact forEach_keeps _ (fun t b => by split <;> simp) _ s

@[simp] theorem writeSensed_frame (b : BerthNo) (o h : Bool) (s : State) :
    (writeSensed b o h s).device = s.device ∧ (writeSensed b o h s).blockCount = s.blockCount ∧
    (writeSensed b o h s).link = s.link ∧ (writeSensed b o h s).events = s.events ∧
    (writeSensed b o h s).commitPending = s.commitPending ∧ (writeSensed b o h s).lines = s.lines ∧
    (writeSensed b o h s).lanes = s.lanes ∧ (writeSensed b o h s).media = s.media ∧
    (writeSensed b o h s).ann = s.ann ∧ (writeSensed b o h s).chimes = s.chimes ∧ (writeSensed b o h s).mix = s.mix ∧
    (writeSensed b o h s).coach = s.coach ∧ (writeSensed b o h s).resetLow = s.resetLow ∧
    (writeSensed b o h s).boundary = s.boundary ∧ (writeSensed b o h s).pending = s.pending := by
  simp [writeSensed]

/-! ## The Berth Table -/

@[simp] theorem carryOutCommit_frame (s : State) :
    (carryOutCommit s).device = s.device ∧ (carryOutCommit s).blockCount = s.blockCount ∧
    (carryOutCommit s).link = s.link ∧ (carryOutCommit s).media = s.media ∧ (carryOutCommit s).ann = s.ann ∧
    (carryOutCommit s).chimes = s.chimes ∧ (carryOutCommit s).mix = s.mix ∧ (carryOutCommit s).coach = s.coach ∧
    (carryOutCommit s).resetLow = s.resetLow ∧ (carryOutCommit s).pending = s.pending := by
  simp [carryOutCommit]

@[simp] theorem takeBerthRequest_frame (b : BerthNo) (q : BerthRequest) (s : State) :
    (takeBerthRequest b q s).device = s.device ∧ (takeBerthRequest b q s).blockCount = s.blockCount ∧
    (takeBerthRequest b q s).link = s.link ∧ (takeBerthRequest b q s).commitPending = s.commitPending ∧
    (takeBerthRequest b q s).media = s.media ∧ (takeBerthRequest b q s).ann = s.ann ∧
    (takeBerthRequest b q s).chimes = s.chimes ∧ (takeBerthRequest b q s).mix = s.mix ∧
    (takeBerthRequest b q s).coach = s.coach ∧ (takeBerthRequest b q s).resetLow = s.resetLow ∧
    (takeBerthRequest b q s).boundary = s.boundary ∧ (takeBerthRequest b q s).pending = s.pending := by
  unfold takeBerthRequest
  dsimp only
  (repeat' split) <;> simp

@[simp] theorem takeCall_frame (b : BerthNo) (s : State) :
    (takeCall b s).device = s.device ∧ (takeCall b s).blockCount = s.blockCount ∧ (takeCall b s).link = s.link ∧
    (takeCall b s).berths = s.berths ∧ (takeCall b s).commitPending = s.commitPending ∧
    (takeCall b s).lines = s.lines ∧ (takeCall b s).lanes = s.lanes ∧ (takeCall b s).media = s.media ∧
    (takeCall b s).ann = s.ann ∧ (takeCall b s).chimes = s.chimes ∧ (takeCall b s).mix = s.mix ∧
    (takeCall b s).resetLow = s.resetLow ∧ (takeCall b s).boundary = s.boundary ∧
    (takeCall b s).pending = s.pending := by
  unfold takeCall
  (repeat' split) <;> simp

@[simp] theorem dropCall_frame (b : BerthNo) (s : State) :
    (dropCall b s).device = s.device ∧ (dropCall b s).blockCount = s.blockCount ∧ (dropCall b s).link = s.link ∧
    (dropCall b s).events = s.events ∧ (dropCall b s).berths = s.berths ∧
    (dropCall b s).commitPending = s.commitPending ∧ (dropCall b s).lines = s.lines ∧ (dropCall b s).lanes = s.lanes ∧
    (dropCall b s).media = s.media ∧ (dropCall b s).ann = s.ann ∧ (dropCall b s).chimes = s.chimes ∧
    (dropCall b s).mix = s.mix ∧ (dropCall b s).resetLow = s.resetLow ∧ (dropCall b s).boundary = s.boundary ∧
    (dropCall b s).pending = s.pending := by
  simp [dropCall]

@[simp] theorem handOnRequest_frame (b : BerthNo) (q : BerthRequest) (s : State) :
    (handOnRequest b q s).device = s.device ∧ (handOnRequest b q s).blockCount = s.blockCount ∧
    (handOnRequest b q s).link = s.link ∧ (handOnRequest b q s).commitPending = s.commitPending ∧
    (handOnRequest b q s).media = s.media ∧ (handOnRequest b q s).ann = s.ann ∧
    (handOnRequest b q s).chimes = s.chimes ∧ (handOnRequest b q s).mix = s.mix ∧
    (handOnRequest b q s).resetLow = s.resetLow ∧ (handOnRequest b q s).boundary = s.boundary ∧
    (handOnRequest b q s).pending = s.pending := by
  unfold handOnRequest
  split <;> simp

/-! ## The Line Controllers (R31 to R41) -/

@[simp] theorem clearLinks_frame (l : LineNo) (s : State) :
    (clearLinks l s).device = s.device ∧ (clearLinks l s).blockCount = s.blockCount ∧ (clearLinks l s).link = s.link ∧
    (clearLinks l s).events = s.events ∧ (clearLinks l s).berths = s.berths ∧
    (clearLinks l s).commitPending = s.commitPending ∧ (clearLinks l s).lanes = s.lanes ∧
    (clearLinks l s).media = s.media ∧ (clearLinks l s).ann = s.ann ∧ (clearLinks l s).chimes = s.chimes ∧
    (clearLinks l s).mix = s.mix ∧ (clearLinks l s).coach = s.coach ∧ (clearLinks l s).resetLow = s.resetLow ∧
    (clearLinks l s).boundary = s.boundary ∧ (clearLinks l s).pending = s.pending := by
  simp [clearLinks]

@[simp] theorem setupNotice_frame (n : Nat) (b : BerthNo) (s : State) :
    (setupNotice n s b).device = s.device ∧ (setupNotice n s b).blockCount = s.blockCount ∧
    (setupNotice n s b).link = s.link ∧ (setupNotice n s b).commitPending = s.commitPending ∧
    (setupNotice n s b).media = s.media ∧ (setupNotice n s b).chimes = s.chimes ∧
    (setupNotice n s b).coach = s.coach ∧ (setupNotice n s b).resetLow = s.resetLow ∧
    (setupNotice n s b).boundary = s.boundary ∧ (setupNotice n s b).pending = s.pending := by
  simp [setupNotice]

@[simp] theorem putToggle_frame (b : BerthNo) (v : Bool) (s : State) :
    (putToggle b v s).device = s.device ∧ (putToggle b v s).blockCount = s.blockCount ∧
    (putToggle b v s).link = s.link ∧ (putToggle b v s).events = s.events ∧ (putToggle b v s).berths = s.berths ∧
    (putToggle b v s).commitPending = s.commitPending ∧ (putToggle b v s).lanes = s.lanes ∧
    (putToggle b v s).media = s.media ∧ (putToggle b v s).ann = s.ann ∧ (putToggle b v s).chimes = s.chimes ∧
    (putToggle b v s).mix = s.mix ∧ (putToggle b v s).coach = s.coach ∧ (putToggle b v s).resetLow = s.resetLow ∧
    (putToggle b v s).boundary = s.boundary ∧ (putToggle b v s).pending = s.pending := by
  simp [putToggle]

@[simp] theorem applyLost_frame (o : Outcome) (b : BerthNo) (s : State) :
    (applyLost o b s).device = s.device ∧ (applyLost o b s).blockCount = s.blockCount ∧
    (applyLost o b s).link = s.link ∧ (applyLost o b s).commitPending = s.commitPending ∧
    (applyLost o b s).media = s.media ∧ (applyLost o b s).chimes = s.chimes ∧ (applyLost o b s).coach = s.coach ∧
    (applyLost o b s).resetLow = s.resetLow ∧ (applyLost o b s).boundary = s.boundary ∧
    (applyLost o b s).pending = s.pending := by
  unfold applyLost
  dsimp only
  (repeat' split) <;> simp

@[simp] theorem applyCollision_frame (b : BerthNo) (s : State) :
    (applyCollision b s).device = s.device ∧ (applyCollision b s).blockCount = s.blockCount ∧
    (applyCollision b s).link = s.link ∧ (applyCollision b s).commitPending = s.commitPending ∧
    (applyCollision b s).media = s.media ∧ (applyCollision b s).chimes = s.chimes ∧
    (applyCollision b s).coach = s.coach ∧ (applyCollision b s).resetLow = s.resetLow ∧
    (applyCollision b s).boundary = s.boundary ∧ (applyCollision b s).pending = s.pending := by
  unfold applyCollision
  dsimp only
  (repeat' split) <;> simp

@[simp] theorem goodFromAbsent_frame (b : BerthNo) (t o h : Bool) (s : State) :
    (goodFromAbsent b t o h s).device = s.device ∧ (goodFromAbsent b t o h s).blockCount = s.blockCount ∧
    (goodFromAbsent b t o h s).link = s.link ∧ (goodFromAbsent b t o h s).commitPending = s.commitPending ∧
    (goodFromAbsent b t o h s).media = s.media ∧ (goodFromAbsent b t o h s).chimes = s.chimes ∧
    (goodFromAbsent b t o h s).coach = s.coach ∧ (goodFromAbsent b t o h s).resetLow = s.resetLow ∧
    (goodFromAbsent b t o h s).boundary = s.boundary ∧ (goodFromAbsent b t o h s).pending = s.pending := by
  simp [goodFromAbsent]

@[simp] theorem goodFromPresent_frame (b : BerthNo) (q : Option BerthRequest) (t o h : Bool) (s : State) :
    (goodFromPresent b q t o h s).device = s.device ∧ (goodFromPresent b q t o h s).blockCount = s.blockCount ∧
    (goodFromPresent b q t o h s).link = s.link ∧ (goodFromPresent b q t o h s).commitPending = s.commitPending ∧
    (goodFromPresent b q t o h s).media = s.media ∧ (goodFromPresent b q t o h s).chimes = s.chimes ∧
    (goodFromPresent b q t o h s).resetLow = s.resetLow ∧ (goodFromPresent b q t o h s).boundary = s.boundary ∧
    (goodFromPresent b q t o h s).pending = s.pending := by
  unfold goodFromPresent
  dsimp only
  (repeat' split) <;> simp

@[simp] theorem applyOutcome_frame (b : BerthNo) (o : Outcome) (s : State) :
    (applyOutcome b o s).device = s.device ∧ (applyOutcome b o s).blockCount = s.blockCount ∧
    (applyOutcome b o s).link = s.link ∧ (applyOutcome b o s).commitPending = s.commitPending ∧
    (applyOutcome b o s).media = s.media ∧ (applyOutcome b o s).chimes = s.chimes ∧
    (applyOutcome b o s).resetLow = s.resetLow ∧ (applyOutcome b o s).boundary = s.boundary ∧
    (applyOutcome b o s).pending = s.pending := by
  unfold applyOutcome
  (repeat' split) <;> simp

@[simp] theorem completeSlot_frame (l : LineNo) (x : SlotSignal) (s : State) :
    (completeSlot l x s).device = s.device ∧ (completeSlot l x s).blockCount = s.blockCount ∧
    (completeSlot l x s).link = s.link ∧ (completeSlot l x s).commitPending = s.commitPending ∧
    (completeSlot l x s).media = s.media ∧ (completeSlot l x s).chimes = s.chimes ∧
    (completeSlot l x s).resetLow = s.resetLow ∧ (completeSlot l x s).boundary = s.boundary ∧
    (completeSlot l x s).pending = s.pending := by
  unfold completeSlot
  dsimp only
  (repeat' split) <;> simp

@[simp] theorem driveConflict_frame (l : LineNo) (s : State) :
    (driveConflict l s).device = s.device ∧ (driveConflict l s).blockCount = s.blockCount ∧
    (driveConflict l s).link = s.link ∧ (driveConflict l s).commitPending = s.commitPending ∧
    (driveConflict l s).media = s.media ∧ (driveConflict l s).chimes = s.chimes ∧
    (driveConflict l s).coach = s.coach ∧ (driveConflict l s).resetLow = s.resetLow ∧
    (driveConflict l s).boundary = s.boundary ∧ (driveConflict l s).pending = s.pending := by
  unfold driveConflict
  (repeat' split) <;> simp

@[simp] theorem sendFrame_frame (l : LineNo) (s : State) :
    (sendFrame s l).device = s.device ∧ (sendFrame s l).blockCount = s.blockCount ∧ (sendFrame s l).link = s.link ∧
    (sendFrame s l).events = s.events ∧ (sendFrame s l).berths = s.berths ∧
    (sendFrame s l).commitPending = s.commitPending ∧ (sendFrame s l).lanes = s.lanes ∧
    (sendFrame s l).media = s.media ∧ (sendFrame s l).ann = s.ann ∧ (sendFrame s l).chimes = s.chimes ∧
    (sendFrame s l).mix = s.mix ∧ (sendFrame s l).coach = s.coach ∧ (sendFrame s l).resetLow = s.resetLow ∧
    (sendFrame s l).boundary = s.boundary ∧ (sendFrame s l).pending = s.pending := by
  unfold sendFrame
  dsimp only
  (repeat' split) <;> simp

/-! ## Media Ingress -/

@[simp] theorem takeTrack_frame (p : ProgrammeNo) (t : TrackNo) (s : State) :
    (takeTrack p t s).device = s.device ∧ (takeTrack p t s).blockCount = s.blockCount ∧
    (takeTrack p t s).link = s.link ∧ (takeTrack p t s).berths = s.berths ∧
    (takeTrack p t s).commitPending = s.commitPending ∧ (takeTrack p t s).lines = s.lines ∧
    (takeTrack p t s).lanes = s.lanes ∧ (takeTrack p t s).ann = s.ann ∧ (takeTrack p t s).chimes = s.chimes ∧
    (takeTrack p t s).mix = s.mix ∧ (takeTrack p t s).coach = s.coach ∧ (takeTrack p t s).resetLow = s.resetLow ∧
    (takeTrack p t s).boundary = s.boundary ∧ (takeTrack p t s).pending = s.pending := by
  unfold takeTrack
  dsimp only
  (repeat' split) <;> simp

@[simp] theorem offerPacket_frame (pk : Packet) (l : LineNo) (n : LaneNo) (s : State) :
    (offerPacket pk l n s).device = s.device ∧ (offerPacket pk l n s).blockCount = s.blockCount ∧
    (offerPacket pk l n s).link = s.link ∧ (offerPacket pk l n s).events = s.events ∧
    (offerPacket pk l n s).berths = s.berths ∧ (offerPacket pk l n s).commitPending = s.commitPending ∧
    (offerPacket pk l n s).media = s.media ∧ (offerPacket pk l n s).ann = s.ann ∧
    (offerPacket pk l n s).chimes = s.chimes ∧ (offerPacket pk l n s).mix = s.mix ∧
    (offerPacket pk l n s).coach = s.coach ∧ (offerPacket pk l n s).resetLow = s.resetLow ∧
    (offerPacket pk l n s).boundary = s.boundary ∧ (offerPacket pk l n s).pending = s.pending := by
  unfold offerPacket
  dsimp only
  (repeat' split) <;> simp

@[simp] theorem forwardPicture_frame (p : ProgrammeNo) (pk : Packet) (s : State) :
    (forwardPicture p pk s).device = s.device ∧ (forwardPicture p pk s).blockCount = s.blockCount ∧
    (forwardPicture p pk s).link = s.link ∧ (forwardPicture p pk s).events = s.events ∧
    (forwardPicture p pk s).berths = s.berths ∧ (forwardPicture p pk s).commitPending = s.commitPending ∧
    (forwardPicture p pk s).ann = s.ann ∧ (forwardPicture p pk s).chimes = s.chimes ∧
    (forwardPicture p pk s).mix = s.mix ∧ (forwardPicture p pk s).coach = s.coach ∧
    (forwardPicture p pk s).resetLow = s.resetLow ∧ (forwardPicture p pk s).boundary = s.boundary ∧
    (forwardPicture p pk s).pending = s.pending := by
  unfold forwardPicture
  dsimp only
  split <;>
    refine ⟨?_, ?_, ?_, ?_, ?_, ?_, ?_, ?_, ?_, ?_, ?_, ?_, ?_⟩ <;> simp <;>
      exact forEach_keeps _ (fun t l => by split <;> simp) _ _

@[simp] theorem openRecorded_frame (h : Byte) (s : State) :
    (openRecorded h s).device = s.device ∧ (openRecorded h s).blockCount = s.blockCount ∧
    (openRecorded h s).link = s.link ∧ (openRecorded h s).events = s.events ∧ (openRecorded h s).berths = s.berths ∧
    (openRecorded h s).commitPending = s.commitPending ∧ (openRecorded h s).lines = s.lines ∧
    (openRecorded h s).lanes = s.lanes ∧ (openRecorded h s).ann = s.ann ∧ (openRecorded h s).chimes = s.chimes ∧
    (openRecorded h s).mix = s.mix ∧ (openRecorded h s).coach = s.coach ∧ (openRecorded h s).resetLow = s.resetLow ∧
    (openRecorded h s).boundary = s.boundary ∧ (openRecorded h s).pending = s.pending := by
  simp [openRecorded]

@[simp] theorem closeRecorded_frame (s : State) :
    (closeRecorded s).device = s.device ∧ (closeRecorded s).blockCount = s.blockCount ∧
    (closeRecorded s).link = s.link ∧ (closeRecorded s).events = s.events ∧ (closeRecorded s).berths = s.berths ∧
    (closeRecorded s).commitPending = s.commitPending ∧ (closeRecorded s).lines = s.lines ∧
    (closeRecorded s).lanes = s.lanes ∧ (closeRecorded s).ann = s.ann ∧ (closeRecorded s).chimes = s.chimes ∧
    (closeRecorded s).mix = s.mix ∧ (closeRecorded s).coach = s.coach ∧ (closeRecorded s).resetLow = s.resetLow ∧
    (closeRecorded s).boundary = s.boundary ∧ (closeRecorded s).pending = s.pending := by
  simp [closeRecorded]

@[simp] theorem recordedArrival_frame (h : Byte) (x : RecordedBlock) (s : State) :
    (recordedArrival h x s).device = s.device ∧ (recordedArrival h x s).blockCount = s.blockCount ∧
    (recordedArrival h x s).link = s.link ∧ (recordedArrival h x s).berths = s.berths ∧
    (recordedArrival h x s).commitPending = s.commitPending ∧ (recordedArrival h x s).lines = s.lines ∧
    (recordedArrival h x s).lanes = s.lanes ∧ (recordedArrival h x s).ann = s.ann ∧
    (recordedArrival h x s).chimes = s.chimes ∧ (recordedArrival h x s).mix = s.mix ∧
    (recordedArrival h x s).coach = s.coach ∧ (recordedArrival h x s).resetLow = s.resetLow ∧
    (recordedArrival h x s).boundary = s.boundary ∧ (recordedArrival h x s).pending = s.pending := by
  unfold recordedArrival
  (repeat' split) <;> simp

@[simp] theorem takeRecorded_frame (s : State) :
    (takeRecorded s).device = s.device ∧ (takeRecorded s).blockCount = s.blockCount ∧ (takeRecorded s).link = s.link ∧
    (takeRecorded s).events = s.events ∧ (takeRecorded s).berths = s.berths ∧
    (takeRecorded s).commitPending = s.commitPending ∧ (takeRecorded s).lines = s.lines ∧
    (takeRecorded s).lanes = s.lanes ∧ (takeRecorded s).ann = s.ann ∧ (takeRecorded s).chimes = s.chimes ∧
    (takeRecorded s).mix = s.mix ∧ (takeRecorded s).coach = s.coach ∧ (takeRecorded s).resetLow = s.resetLow ∧
    (takeRecorded s).boundary = s.boundary ∧ (takeRecorded s).pending = s.pending := by
  simp [takeRecorded]

@[simp] theorem takeMediaFrame_frame (x : MediaHeader) (s : State) :
    (takeMediaFrame x s).device = s.device ∧ (takeMediaFrame x s).blockCount = s.blockCount ∧
    (takeMediaFrame x s).link = s.link ∧ (takeMediaFrame x s).berths = s.berths ∧
    (takeMediaFrame x s).commitPending = s.commitPending ∧ (takeMediaFrame x s).ann = s.ann ∧
    (takeMediaFrame x s).chimes = s.chimes ∧ (takeMediaFrame x s).mix = s.mix ∧ (takeMediaFrame x s).coach = s.coach ∧
    (takeMediaFrame x s).resetLow = s.resetLow ∧ (takeMediaFrame x s).boundary = s.boundary ∧
    (takeMediaFrame x s).pending = s.pending := by
  unfold takeMediaFrame
  (repeat' split) <;> simp

@[simp] theorem arriveFrame_frame (x : EthernetFrame) (s : State) :
    (arriveFrame x s).device = s.device ∧ (arriveFrame x s).blockCount = s.blockCount ∧
    (arriveFrame x s).link = s.link ∧ (arriveFrame x s).berths = s.berths ∧
    (arriveFrame x s).commitPending = s.commitPending ∧ (arriveFrame x s).ann = s.ann ∧
    (arriveFrame x s).chimes = s.chimes ∧ (arriveFrame x s).mix = s.mix ∧ (arriveFrame x s).coach = s.coach ∧
    (arriveFrame x s).resetLow = s.resetLow ∧ (arriveFrame x s).boundary = s.boundary ∧
    (arriveFrame x s).pending = s.pending := by
  unfold arriveFrame
  (repeat' split) <;> simp

/-! ## The Announcement Controller -/

@[simp] theorem startVoice_frame (v : Source) (h : Byte) (p : PatternNo) (s : State) :
    (startVoice v h p s).device = s.device ∧ (startVoice v h p s).blockCount = s.blockCount ∧
    (startVoice v h p s).link = s.link ∧ (startVoice v h p s).events = s.events ∧
    (startVoice v h p s).berths = s.berths ∧ (startVoice v h p s).commitPending = s.commitPending ∧
    (startVoice v h p s).lines = s.lines ∧ (startVoice v h p s).lanes = s.lanes ∧
    (startVoice v h p s).media = s.media ∧ (startVoice v h p s).ann = s.ann ∧ (startVoice v h p s).mix = s.mix ∧
    (startVoice v h p s).coach = s.coach ∧ (startVoice v h p s).resetLow = s.resetLow ∧
    (startVoice v h p s).boundary = s.boundary ∧ (startVoice v h p s).pending = s.pending := by
  unfold startVoice
  (repeat' split) <;> simp

@[simp] theorem stopVoice_frame (v : Source) (s : State) :
    (stopVoice v s).device = s.device ∧ (stopVoice v s).blockCount = s.blockCount ∧ (stopVoice v s).link = s.link ∧
    (stopVoice v s).events = s.events ∧ (stopVoice v s).berths = s.berths ∧
    (stopVoice v s).commitPending = s.commitPending ∧ (stopVoice v s).lines = s.lines ∧
    (stopVoice v s).lanes = s.lanes ∧ (stopVoice v s).media = s.media ∧ (stopVoice v s).ann = s.ann ∧
    (stopVoice v s).mix = s.mix ∧ (stopVoice v s).coach = s.coach ∧ (stopVoice v s).resetLow = s.resetLow ∧
    (stopVoice v s).boundary = s.boundary ∧ (stopVoice v s).pending = s.pending := by
  simp [stopVoice]

@[simp] theorem countAdmission_frame (s : State) :
    (countAdmission s).device = s.device ∧ (countAdmission s).blockCount = s.blockCount ∧
    (countAdmission s).link = s.link ∧ (countAdmission s).events = s.events ∧ (countAdmission s).berths = s.berths ∧
    (countAdmission s).commitPending = s.commitPending ∧ (countAdmission s).lines = s.lines ∧
    (countAdmission s).lanes = s.lanes ∧ (countAdmission s).media = s.media ∧ (countAdmission s).chimes = s.chimes ∧
    (countAdmission s).mix = s.mix ∧ (countAdmission s).coach = s.coach ∧ (countAdmission s).resetLow = s.resetLow ∧
    (countAdmission s).boundary = s.boundary ∧ (countAdmission s).pending = s.pending := by
  simp [countAdmission]

@[simp] theorem addEntry_frame (e : Entry) (s : State) :
    (addEntry e s).device = s.device ∧ (addEntry e s).blockCount = s.blockCount ∧ (addEntry e s).link = s.link ∧
    (addEntry e s).events = s.events ∧ (addEntry e s).berths = s.berths ∧
    (addEntry e s).commitPending = s.commitPending ∧ (addEntry e s).lines = s.lines ∧ (addEntry e s).lanes = s.lanes ∧
    (addEntry e s).media = s.media ∧ (addEntry e s).chimes = s.chimes ∧ (addEntry e s).mix = s.mix ∧
    (addEntry e s).coach = s.coach ∧ (addEntry e s).resetLow = s.resetLow ∧ (addEntry e s).boundary = s.boundary ∧
    (addEntry e s).pending = s.pending := by
  simp [addEntry]

@[simp] theorem enterTail_frame (h : Byte) (r : EndReason) (s : State) :
    (enterTail h r s).device = s.device ∧ (enterTail h r s).blockCount = s.blockCount ∧
    (enterTail h r s).link = s.link ∧ (enterTail h r s).events = s.events ∧ (enterTail h r s).berths = s.berths ∧
    (enterTail h r s).commitPending = s.commitPending ∧ (enterTail h r s).lines = s.lines ∧
    (enterTail h r s).lanes = s.lanes ∧ (enterTail h r s).mix = s.mix ∧ (enterTail h r s).coach = s.coach ∧
    (enterTail h r s).resetLow = s.resetLow ∧ (enterTail h r s).boundary = s.boundary ∧
    (enterTail h r s).pending = s.pending := by
  unfold enterTail
  dsimp only
  (repeat' split) <;> simp

@[simp] theorem writeFinished_frame (r : FinishedRecord) (s : State) :
    (writeFinished r s).device = s.device ∧ (writeFinished r s).blockCount = s.blockCount ∧
    (writeFinished r s).link = s.link ∧ (writeFinished r s).events = s.events ∧
    (writeFinished r s).berths = s.berths ∧ (writeFinished r s).commitPending = s.commitPending ∧
    (writeFinished r s).lines = s.lines ∧ (writeFinished r s).lanes = s.lanes ∧ (writeFinished r s).media = s.media ∧
    (writeFinished r s).chimes = s.chimes ∧ (writeFinished r s).mix = s.mix ∧ (writeFinished r s).coach = s.coach ∧
    (writeFinished r s).resetLow = s.resetLow ∧ (writeFinished r s).boundary = s.boundary ∧
    (writeFinished r s).pending = s.pending := by
  simp [writeFinished]

@[simp] theorem removeEntry_frame (h : Byte) (r : EndReason) (s : State) :
    (removeEntry h r s).device = s.device ∧ (removeEntry h r s).blockCount = s.blockCount ∧
    (removeEntry h r s).link = s.link ∧ (removeEntry h r s).berths = s.berths ∧
    (removeEntry h r s).commitPending = s.commitPending ∧ (removeEntry h r s).lines = s.lines ∧
    (removeEntry h r s).lanes = s.lanes ∧ (removeEntry h r s).coach = s.coach ∧
    (removeEntry h r s).resetLow = s.resetLow ∧ (removeEntry h r s).boundary = s.boundary ∧
    (removeEntry h r s).pending = s.pending := by
  unfold removeEntry
  dsimp only
  (repeat' split) <;> simp

@[simp] theorem handOn_frame (s : State) :
    (handOn s).device = s.device ∧ (handOn s).blockCount = s.blockCount ∧ (handOn s).link = s.link ∧
    (handOn s).berths = s.berths ∧ (handOn s).commitPending = s.commitPending ∧ (handOn s).lines = s.lines ∧
    (handOn s).lanes = s.lanes ∧ (handOn s).chimes = s.chimes ∧ (handOn s).mix = s.mix ∧ (handOn s).coach = s.coach ∧
    (handOn s).resetLow = s.resetLow ∧ (handOn s).boundary = s.boundary ∧ (handOn s).pending = s.pending := by
  unfold handOn
  (repeat' split) <;> simp

@[simp] theorem removeAndHandOn_frame (h : Byte) (r : EndReason) (s : State) :
    (removeAndHandOn h r s).device = s.device ∧ (removeAndHandOn h r s).blockCount = s.blockCount ∧
    (removeAndHandOn h r s).link = s.link ∧ (removeAndHandOn h r s).berths = s.berths ∧
    (removeAndHandOn h r s).commitPending = s.commitPending ∧ (removeAndHandOn h r s).lines = s.lines ∧
    (removeAndHandOn h r s).lanes = s.lanes ∧ (removeAndHandOn h r s).coach = s.coach ∧
    (removeAndHandOn h r s).resetLow = s.resetLow ∧ (removeAndHandOn h r s).boundary = s.boundary ∧
    (removeAndHandOn h r s).pending = s.pending := by
  unfold removeAndHandOn
  (repeat' split) <;> simp

@[simp] theorem endLead_frame (e : Entry) (s : State) :
    (endLead e s).device = s.device ∧ (endLead e s).blockCount = s.blockCount ∧ (endLead e s).link = s.link ∧
    (endLead e s).events = s.events ∧ (endLead e s).berths = s.berths ∧
    (endLead e s).commitPending = s.commitPending ∧ (endLead e s).lines = s.lines ∧ (endLead e s).lanes = s.lanes ∧
    (endLead e s).media = s.media ∧ (endLead e s).mix = s.mix ∧ (endLead e s).coach = s.coach ∧
    (endLead e s).resetLow = s.resetLow ∧ (endLead e s).boundary = s.boundary ∧
    (endLead e s).pending = s.pending := by
  unfold endLead
  (repeat' split) <;> simp

@[simp] theorem liveAdvance_frame (e : Entry) (s : State) :
    (liveAdvance e s).device = s.device ∧ (liveAdvance e s).blockCount = s.blockCount ∧
    (liveAdvance e s).link = s.link ∧ (liveAdvance e s).events = s.events ∧ (liveAdvance e s).berths = s.berths ∧
    (liveAdvance e s).commitPending = s.commitPending ∧ (liveAdvance e s).lines = s.lines ∧
    (liveAdvance e s).lanes = s.lanes ∧ (liveAdvance e s).mix = s.mix ∧ (liveAdvance e s).coach = s.coach ∧
    (liveAdvance e s).resetLow = s.resetLow ∧ (liveAdvance e s).boundary = s.boundary ∧
    (liveAdvance e s).pending = s.pending := by
  unfold liveAdvance
  dsimp only
  (repeat' split) <;> simp

@[simp] theorem takeAdvance_frame (n : Nat) (h : Byte) (s : State) :
    (takeAdvance n h s).device = s.device ∧ (takeAdvance n h s).blockCount = s.blockCount ∧
    (takeAdvance n h s).link = s.link ∧ (takeAdvance n h s).berths = s.berths ∧
    (takeAdvance n h s).commitPending = s.commitPending ∧ (takeAdvance n h s).lines = s.lines ∧
    (takeAdvance n h s).lanes = s.lanes ∧ (takeAdvance n h s).coach = s.coach ∧
    (takeAdvance n h s).resetLow = s.resetLow ∧ (takeAdvance n h s).boundary = s.boundary ∧
    (takeAdvance n h s).pending = s.pending := by
  induction n generalizing h s with
  | zero => simp [takeAdvance]
  | succ n ih =>
    unfold takeAdvance
    dsimp only
    (repeat' split) <;> simp [ih]

@[simp] theorem advanceIfDue_frame (h : Byte) (s : State) :
    (advanceIfDue s h).device = s.device ∧ (advanceIfDue s h).blockCount = s.blockCount ∧
    (advanceIfDue s h).link = s.link ∧ (advanceIfDue s h).berths = s.berths ∧
    (advanceIfDue s h).commitPending = s.commitPending ∧ (advanceIfDue s h).lines = s.lines ∧
    (advanceIfDue s h).lanes = s.lanes ∧ (advanceIfDue s h).coach = s.coach ∧
    (advanceIfDue s h).resetLow = s.resetLow ∧ (advanceIfDue s h).boundary = s.boundary ∧
    (advanceIfDue s h).pending = s.pending := by
  unfold advanceIfDue
  (repeat' split) <;> simp

@[simp] theorem chimeEndReaches_frame (h : Byte) (s : State) :
    (chimeEndReaches h s).device = s.device ∧ (chimeEndReaches h s).blockCount = s.blockCount ∧
    (chimeEndReaches h s).link = s.link ∧ (chimeEndReaches h s).berths = s.berths ∧
    (chimeEndReaches h s).commitPending = s.commitPending ∧ (chimeEndReaches h s).lines = s.lines ∧
    (chimeEndReaches h s).lanes = s.lanes ∧ (chimeEndReaches h s).coach = s.coach ∧
    (chimeEndReaches h s).resetLow = s.resetLow ∧ (chimeEndReaches h s).boundary = s.boundary ∧
    (chimeEndReaches h s).pending = s.pending := by
  unfold chimeEndReaches
  (repeat' split) <;> simp

@[simp] theorem takeVoice_frame (v : Source) (s : State) :
    (takeVoice s v).device = s.device ∧ (takeVoice s v).blockCount = s.blockCount ∧ (takeVoice s v).link = s.link ∧
    (takeVoice s v).berths = s.berths ∧ (takeVoice s v).commitPending = s.commitPending ∧
    (takeVoice s v).lines = s.lines ∧ (takeVoice s v).lanes = s.lanes ∧ (takeVoice s v).coach = s.coach ∧
    (takeVoice s v).resetLow = s.resetLow ∧ (takeVoice s v).boundary = s.boundary ∧
    (takeVoice s v).pending = s.pending := by
  unfold takeVoice
  (repeat' split) <;> simp

@[simp] theorem becomeActive_frame (e : Entry) (s : State) :
    (becomeActive e s).device = s.device ∧ (becomeActive e s).blockCount = s.blockCount ∧
    (becomeActive e s).link = s.link ∧ (becomeActive e s).berths = s.berths ∧
    (becomeActive e s).commitPending = s.commitPending ∧ (becomeActive e s).lines = s.lines ∧
    (becomeActive e s).lanes = s.lanes ∧ (becomeActive e s).chimes = s.chimes ∧ (becomeActive e s).mix = s.mix ∧
    (becomeActive e s).coach = s.coach ∧ (becomeActive e s).resetLow = s.resetLow ∧
    (becomeActive e s).boundary = s.boundary ∧ (becomeActive e s).pending = s.pending := by
  simp [becomeActive]

@[simp] theorem placeEntry_frame (e : Entry) (s : State) :
    (placeEntry e s).device = s.device ∧ (placeEntry e s).blockCount = s.blockCount ∧ (placeEntry e s).link = s.link ∧
    (placeEntry e s).berths = s.berths ∧ (placeEntry e s).commitPending = s.commitPending ∧
    (placeEntry e s).lines = s.lines ∧ (placeEntry e s).lanes = s.lanes ∧ (placeEntry e s).coach = s.coach ∧
    (placeEntry e s).resetLow = s.resetLow ∧ (placeEntry e s).boundary = s.boundary ∧
    (placeEntry e s).pending = s.pending := by
  unfold placeEntry
  (repeat' split) <;> simp

@[simp] theorem cutEntry_frame (e : Entry) (hard : Bool) (s : State) :
    (cutEntry e hard s).device = s.device ∧ (cutEntry e hard s).blockCount = s.blockCount ∧
    (cutEntry e hard s).link = s.link ∧ (cutEntry e hard s).berths = s.berths ∧
    (cutEntry e hard s).commitPending = s.commitPending ∧ (cutEntry e hard s).lines = s.lines ∧
    (cutEntry e hard s).lanes = s.lanes ∧ (cutEntry e hard s).coach = s.coach ∧
    (cutEntry e hard s).resetLow = s.resetLow ∧ (cutEntry e hard s).boundary = s.boundary ∧
    (cutEntry e hard s).pending = s.pending := by
  unfold cutEntry
  (repeat' split) <;> simp

@[simp] theorem admitMic_frame (m : Mic) (s : State) :
    (admitMic m s).device = s.device ∧ (admitMic m s).blockCount = s.blockCount ∧ (admitMic m s).link = s.link ∧
    (admitMic m s).events = s.events ∧ (admitMic m s).berths = s.berths ∧
    (admitMic m s).commitPending = s.commitPending ∧ (admitMic m s).lines = s.lines ∧ (admitMic m s).lanes = s.lanes ∧
    (admitMic m s).media = s.media ∧ (admitMic m s).chimes = s.chimes ∧ (admitMic m s).mix = s.mix ∧
    (admitMic m s).coach = s.coach ∧ (admitMic m s).resetLow = s.resetLow ∧ (admitMic m s).boundary = s.boundary ∧
    (admitMic m s).pending = s.pending := by
  simp [admitMic]

@[simp] theorem repress_frame (e : Entry) (s : State) :
    (repress e s).device = s.device ∧ (repress e s).blockCount = s.blockCount ∧ (repress e s).link = s.link ∧
    (repress e s).events = s.events ∧ (repress e s).berths = s.berths ∧
    (repress e s).commitPending = s.commitPending ∧ (repress e s).lines = s.lines ∧ (repress e s).lanes = s.lanes ∧
    (repress e s).media = s.media ∧ (repress e s).chimes = s.chimes ∧ (repress e s).mix = s.mix ∧
    (repress e s).coach = s.coach ∧ (repress e s).resetLow = s.resetLow ∧ (repress e s).boundary = s.boundary ∧
    (repress e s).pending = s.pending := by
  unfold repress
  (repeat' split) <;> simp

@[simp] theorem pressMic_frame (m : Mic) (s : State) :
    (pressMic m s).device = s.device ∧ (pressMic m s).blockCount = s.blockCount ∧ (pressMic m s).link = s.link ∧
    (pressMic m s).events = s.events ∧ (pressMic m s).berths = s.berths ∧
    (pressMic m s).commitPending = s.commitPending ∧ (pressMic m s).lines = s.lines ∧ (pressMic m s).lanes = s.lanes ∧
    (pressMic m s).media = s.media ∧ (pressMic m s).chimes = s.chimes ∧ (pressMic m s).mix = s.mix ∧
    (pressMic m s).coach = s.coach ∧ (pressMic m s).resetLow = s.resetLow ∧ (pressMic m s).boundary = s.boundary ∧
    (pressMic m s).pending = s.pending := by
  unfold pressMic
  (repeat' split) <;> simp

@[simp] theorem releaseMic_frame (m : Mic) (s : State) :
    (releaseMic m s).device = s.device ∧ (releaseMic m s).blockCount = s.blockCount ∧ (releaseMic m s).link = s.link ∧
    (releaseMic m s).events = s.events ∧ (releaseMic m s).berths = s.berths ∧
    (releaseMic m s).commitPending = s.commitPending ∧ (releaseMic m s).lines = s.lines ∧
    (releaseMic m s).lanes = s.lanes ∧ (releaseMic m s).mix = s.mix ∧ (releaseMic m s).coach = s.coach ∧
    (releaseMic m s).resetLow = s.resetLow ∧ (releaseMic m s).boundary = s.boundary ∧
    (releaseMic m s).pending = s.pending := by
  unfold releaseMic
  (repeat' split) <;> simp

@[simp] theorem setProfile_frame (m : Mic) (p : Params) (s : State) :
    (setProfile m p s).device = s.device ∧ (setProfile m p s).blockCount = s.blockCount ∧
    (setProfile m p s).link = s.link ∧ (setProfile m p s).events = s.events ∧ (setProfile m p s).berths = s.berths ∧
    (setProfile m p s).commitPending = s.commitPending ∧ (setProfile m p s).lines = s.lines ∧
    (setProfile m p s).lanes = s.lanes ∧ (setProfile m p s).media = s.media ∧ (setProfile m p s).chimes = s.chimes ∧
    (setProfile m p s).mix = s.mix ∧ (setProfile m p s).coach = s.coach ∧ (setProfile m p s).resetLow = s.resetLow ∧
    (setProfile m p s).boundary = s.boundary ∧ (setProfile m p s).pending = s.pending := by
  simp [setProfile]

/-! ## The Mix Engine and the Coach Input Unit -/

@[simp] theorem mixBerth_frame (d c : Block) (b : BerthNo) (s : State) :
    (mixBerth d c s b).device = s.device ∧ (mixBerth d c s b).blockCount = s.blockCount ∧
    (mixBerth d c s b).link = s.link ∧ (mixBerth d c s b).berths = s.berths ∧
    (mixBerth d c s b).commitPending = s.commitPending ∧ (mixBerth d c s b).lines = s.lines ∧
    (mixBerth d c s b).lanes = s.lanes ∧ (mixBerth d c s b).media = s.media ∧ (mixBerth d c s b).chimes = s.chimes ∧
    (mixBerth d c s b).coach = s.coach ∧ (mixBerth d c s b).resetLow = s.resetLow ∧
    (mixBerth d c s b).boundary = s.boundary ∧ (mixBerth d c s b).pending = s.pending := by
  unfold mixBerth
  dsimp only
  (repeat' split) <;> simp

@[simp] theorem setLatch_frame (s : State) :
    (setLatch s).device = s.device ∧ (setLatch s).blockCount = s.blockCount ∧ (setLatch s).link = s.link ∧
    (setLatch s).berths = s.berths ∧ (setLatch s).commitPending = s.commitPending ∧ (setLatch s).lines = s.lines ∧
    (setLatch s).lanes = s.lanes ∧ (setLatch s).media = s.media ∧ (setLatch s).ann = s.ann ∧
    (setLatch s).chimes = s.chimes ∧ (setLatch s).mix = s.mix ∧ (setLatch s).resetLow = s.resetLow ∧
    (setLatch s).boundary = s.boundary ∧ (setLatch s).pending = s.pending := by
  unfold setLatch
  (repeat' split) <;> simp

@[simp] theorem alarmPress_frame (s : State) :
    (alarmPress s).device = s.device ∧ (alarmPress s).blockCount = s.blockCount ∧ (alarmPress s).link = s.link ∧
    (alarmPress s).berths = s.berths ∧ (alarmPress s).commitPending = s.commitPending ∧
    (alarmPress s).lines = s.lines ∧ (alarmPress s).lanes = s.lanes ∧ (alarmPress s).media = s.media ∧
    (alarmPress s).ann = s.ann ∧ (alarmPress s).chimes = s.chimes ∧ (alarmPress s).mix = s.mix ∧
    (alarmPress s).resetLow = s.resetLow ∧ (alarmPress s).boundary = s.boundary ∧
    (alarmPress s).pending = s.pending := by
  unfold alarmPress
  (repeat' split) <;> simp

@[simp] theorem handOnEdge_frame (c : Contact) (v : Bool) (s : State) :
    (handOnEdge c v s).device = s.device ∧ (handOnEdge c v s).blockCount = s.blockCount ∧
    (handOnEdge c v s).link = s.link ∧ (handOnEdge c v s).berths = s.berths ∧
    (handOnEdge c v s).commitPending = s.commitPending ∧ (handOnEdge c v s).lines = s.lines ∧
    (handOnEdge c v s).lanes = s.lanes ∧ (handOnEdge c v s).mix = s.mix ∧ (handOnEdge c v s).resetLow = s.resetLow ∧
    (handOnEdge c v s).boundary = s.boundary ∧ (handOnEdge c v s).pending = s.pending := by
  unfold handOnEdge
  (repeat' split) <;> simp

@[simp] theorem takeEdge_frame (c : Contact) (v : Bool) (s : State) :
    (takeEdge c v s).device = s.device ∧ (takeEdge c v s).blockCount = s.blockCount ∧ (takeEdge c v s).link = s.link ∧
    (takeEdge c v s).berths = s.berths ∧ (takeEdge c v s).commitPending = s.commitPending ∧
    (takeEdge c v s).lines = s.lines ∧ (takeEdge c v s).lanes = s.lanes ∧ (takeEdge c v s).mix = s.mix ∧
    (takeEdge c v s).resetLow = s.resetLow ∧ (takeEdge c v s).boundary = s.boundary ∧
    (takeEdge c v s).pending = s.pending := by
  simp [takeEdge]

@[simp] theorem edgeIfOther_frame (c : Contact) (v : Bool) (s : State) :
    (edgeIfOther c v s).device = s.device ∧ (edgeIfOther c v s).blockCount = s.blockCount ∧
    (edgeIfOther c v s).link = s.link ∧ (edgeIfOther c v s).berths = s.berths ∧
    (edgeIfOther c v s).commitPending = s.commitPending ∧ (edgeIfOther c v s).lines = s.lines ∧
    (edgeIfOther c v s).lanes = s.lanes ∧ (edgeIfOther c v s).mix = s.mix ∧
    (edgeIfOther c v s).resetLow = s.resetLow ∧ (edgeIfOther c v s).boundary = s.boundary ∧
    (edgeIfOther c v s).pending = s.pending := by
  unfold edgeIfOther
  (repeat' split) <;> simp

@[simp] theorem takeSample_frame (c : Contact) (v : Bool) (s : State) :
    (takeSample c v s).device = s.device ∧ (takeSample c v s).blockCount = s.blockCount ∧
    (takeSample c v s).link = s.link ∧ (takeSample c v s).berths = s.berths ∧
    (takeSample c v s).commitPending = s.commitPending ∧ (takeSample c v s).lines = s.lines ∧
    (takeSample c v s).lanes = s.lanes ∧ (takeSample c v s).mix = s.mix ∧ (takeSample c v s).resetLow = s.resetLow ∧
    (takeSample c v s).boundary = s.boundary ∧ (takeSample c v s).pending = s.pending := by
  unfold takeSample
  dsimp only
  (repeat' split) <;> simp

/-! ## The Control Link -/

@[simp] theorem discardFrame_frame (f : ControlLink → ControlLink) (s : State) :
    (discardFrame f s).device = s.device ∧ (discardFrame f s).blockCount = s.blockCount ∧
    (discardFrame f s).berths = s.berths ∧ (discardFrame f s).commitPending = s.commitPending ∧
    (discardFrame f s).lines = s.lines ∧ (discardFrame f s).lanes = s.lanes ∧ (discardFrame f s).media = s.media ∧
    (discardFrame f s).ann = s.ann ∧ (discardFrame f s).chimes = s.chimes ∧ (discardFrame f s).mix = s.mix ∧
    (discardFrame f s).coach = s.coach ∧ (discardFrame f s).resetLow = s.resetLow ∧
    (discardFrame f s).boundary = s.boundary ∧ (discardFrame f s).pending = s.pending := by
  simp [discardFrame]

@[simp] theorem ageStep_frame (s : State) :
    (ageStep s).device = s.device ∧ (ageStep s).blockCount = s.blockCount ∧ (ageStep s).berths = s.berths ∧
    (ageStep s).commitPending = s.commitPending ∧ (ageStep s).lines = s.lines ∧ (ageStep s).lanes = s.lanes ∧
    (ageStep s).media = s.media ∧ (ageStep s).ann = s.ann ∧ (ageStep s).chimes = s.chimes ∧ (ageStep s).mix = s.mix ∧
    (ageStep s).coach = s.coach ∧ (ageStep s).resetLow = s.resetLow ∧ (ageStep s).boundary = s.boundary ∧
    (ageStep s).pending = s.pending := by
  unfold ageStep
  dsimp only
  (repeat' split) <;> simp

/-! ## The block start (R103, R125, R145) -/

@[simp] theorem completeOpenSlots_frame (s : State) :
    (completeOpenSlots s).device = s.device ∧ (completeOpenSlots s).blockCount = s.blockCount ∧
    (completeOpenSlots s).link = s.link ∧ (completeOpenSlots s).commitPending = s.commitPending ∧
    (completeOpenSlots s).media = s.media ∧ (completeOpenSlots s).chimes = s.chimes ∧
    (completeOpenSlots s).resetLow = s.resetLow ∧ (completeOpenSlots s).boundary = s.boundary ∧
    (completeOpenSlots s).pending = s.pending := by
  simp [completeOpenSlots]

@[simp] theorem takeCommit_frame (s : State) :
    (takeCommit s).device = s.device ∧ (takeCommit s).blockCount = s.blockCount ∧ (takeCommit s).link = s.link ∧
    (takeCommit s).media = s.media ∧ (takeCommit s).ann = s.ann ∧ (takeCommit s).chimes = s.chimes ∧
    (takeCommit s).mix = s.mix ∧ (takeCommit s).coach = s.coach ∧ (takeCommit s).resetLow = s.resetLow ∧
    (takeCommit s).pending = s.pending := by
  unfold takeCommit
  (repeat' split) <;> simp

@[simp] theorem takeAge_frame (s : State) :
    (takeAge s).device = s.device ∧ (takeAge s).blockCount = s.blockCount ∧ (takeAge s).berths = s.berths ∧
    (takeAge s).commitPending = s.commitPending ∧ (takeAge s).lines = s.lines ∧ (takeAge s).lanes = s.lanes ∧
    (takeAge s).media = s.media ∧ (takeAge s).ann = s.ann ∧ (takeAge s).chimes = s.chimes ∧ (takeAge s).mix = s.mix ∧
    (takeAge s).coach = s.coach ∧ (takeAge s).resetLow = s.resetLow ∧ (takeAge s).pending = s.pending := by
  unfold takeAge
  (repeat' split) <;> simp

@[simp] theorem takeTrackIfDue_frame (x : ProgrammeNo × TrackNo) (s : State) :
    (takeTrackIfDue s x).device = s.device ∧ (takeTrackIfDue s x).blockCount = s.blockCount ∧
    (takeTrackIfDue s x).link = s.link ∧ (takeTrackIfDue s x).berths = s.berths ∧
    (takeTrackIfDue s x).commitPending = s.commitPending ∧ (takeTrackIfDue s x).lines = s.lines ∧
    (takeTrackIfDue s x).lanes = s.lanes ∧ (takeTrackIfDue s x).ann = s.ann ∧ (takeTrackIfDue s x).chimes = s.chimes ∧
    (takeTrackIfDue s x).mix = s.mix ∧ (takeTrackIfDue s x).coach = s.coach ∧
    (takeTrackIfDue s x).resetLow = s.resetLow ∧ (takeTrackIfDue s x).boundary = s.boundary ∧
    (takeTrackIfDue s x).pending = s.pending := by
  unfold takeTrackIfDue
  (repeat' split) <;> simp

@[simp] theorem takeTracks_frame (s : State) :
    (takeTracks s).device = s.device ∧ (takeTracks s).blockCount = s.blockCount ∧ (takeTracks s).link = s.link ∧
    (takeTracks s).berths = s.berths ∧ (takeTracks s).commitPending = s.commitPending ∧
    (takeTracks s).lines = s.lines ∧ (takeTracks s).lanes = s.lanes ∧ (takeTracks s).ann = s.ann ∧
    (takeTracks s).chimes = s.chimes ∧ (takeTracks s).mix = s.mix ∧ (takeTracks s).coach = s.coach ∧
    (takeTracks s).resetLow = s.resetLow ∧ (takeTracks s).boundary = s.boundary ∧
    (takeTracks s).pending = s.pending := by
  simp [takeTracks]

@[simp] theorem takeVoices_frame (s : State) :
    (takeVoices s).device = s.device ∧ (takeVoices s).blockCount = s.blockCount ∧ (takeVoices s).link = s.link ∧
    (takeVoices s).berths = s.berths ∧ (takeVoices s).commitPending = s.commitPending ∧
    (takeVoices s).lines = s.lines ∧ (takeVoices s).lanes = s.lanes ∧ (takeVoices s).coach = s.coach ∧
    (takeVoices s).resetLow = s.resetLow ∧ (takeVoices s).boundary = s.boundary ∧
    (takeVoices s).pending = s.pending := by
  simp [takeVoices]

@[simp] theorem takeEntries_frame (s : State) :
    (takeEntries s).device = s.device ∧ (takeEntries s).blockCount = s.blockCount ∧ (takeEntries s).link = s.link ∧
    (takeEntries s).berths = s.berths ∧ (takeEntries s).commitPending = s.commitPending ∧
    (takeEntries s).lines = s.lines ∧ (takeEntries s).lanes = s.lanes ∧ (takeEntries s).coach = s.coach ∧
    (takeEntries s).resetLow = s.resetLow ∧ (takeEntries s).boundary = s.boundary ∧
    (takeEntries s).pending = s.pending := by
  simp [takeEntries]

@[simp] theorem takeBerths_frame (d c : Block) (bs : List BerthNo) (s : State) :
    (takeBerths d c bs s).device = s.device ∧ (takeBerths d c bs s).blockCount = s.blockCount ∧
    (takeBerths d c bs s).link = s.link ∧ (takeBerths d c bs s).berths = s.berths ∧
    (takeBerths d c bs s).commitPending = s.commitPending ∧ (takeBerths d c bs s).lines = s.lines ∧
    (takeBerths d c bs s).lanes = s.lanes ∧ (takeBerths d c bs s).media = s.media ∧
    (takeBerths d c bs s).chimes = s.chimes ∧ (takeBerths d c bs s).coach = s.coach ∧
    (takeBerths d c bs s).resetLow = s.resetLow ∧ (takeBerths d c bs s).boundary = s.boundary ∧
    (takeBerths d c bs s).pending = s.pending := by
  simp [takeBerths]

@[simp] theorem takeFrames_frame (s : State) :
    (takeFrames s).device = s.device ∧ (takeFrames s).blockCount = s.blockCount ∧ (takeFrames s).link = s.link ∧
    (takeFrames s).events = s.events ∧ (takeFrames s).berths = s.berths ∧
    (takeFrames s).commitPending = s.commitPending ∧ (takeFrames s).lanes = s.lanes ∧ (takeFrames s).media = s.media ∧
    (takeFrames s).ann = s.ann ∧ (takeFrames s).chimes = s.chimes ∧ (takeFrames s).mix = s.mix ∧
    (takeFrames s).coach = s.coach ∧ (takeFrames s).resetLow = s.resetLow ∧ (takeFrames s).boundary = s.boundary ∧
    (takeFrames s).pending = s.pending := by
  simp [takeFrames]

@[simp] theorem closeBoundary_frame (s : State) :
    (closeBoundary s).device = s.device ∧ (closeBoundary s).blockCount = s.blockCount ∧
    (closeBoundary s).link = s.link ∧ (closeBoundary s).events = s.events ∧ (closeBoundary s).berths = s.berths ∧
    (closeBoundary s).commitPending = s.commitPending ∧ (closeBoundary s).lines = s.lines ∧
    (closeBoundary s).lanes = s.lanes ∧ (closeBoundary s).media = s.media ∧ (closeBoundary s).ann = s.ann ∧
    (closeBoundary s).chimes = s.chimes ∧ (closeBoundary s).mix = s.mix ∧ (closeBoundary s).coach = s.coach ∧
    (closeBoundary s).resetLow = s.resetLow ∧ (closeBoundary s).pending = s.pending := by
  simp [closeBoundary]

@[simp] theorem takeBoundary_frame (d c : Block) (bs : List BerthNo) (s : State) :
    (takeBoundary d c bs s).device = s.device ∧ (takeBoundary d c bs s).blockCount = s.blockCount ∧
    (takeBoundary d c bs s).coach = s.coach ∧ (takeBoundary d c bs s).resetLow = s.resetLow ∧
    (takeBoundary d c bs s).pending = s.pending := by
  simp [takeBoundary]

@[simp] theorem openBoundary_frame (s : State) :
    (openBoundary s).device = s.device ∧ (openBoundary s).link = s.link ∧
    (openBoundary s).commitPending = s.commitPending ∧ (openBoundary s).resetLow = s.resetLow ∧
    (openBoundary s).pending = s.pending := by
  unfold openBoundary beginBlock
  split <;> simp

end Sys2Proof.Machine
end

