-- ==== Sys2Proof/Laws/Effects.lean ====
section
/-! SUPPORT. What the shared operations do to the items inside the parts they touch: route work changes picture lane
fields, lanes, wait lists and send queues alone, and a presence notification sets one presence. -/

namespace Sys2Proof.Machine

/-- A live record but for its picture lane field. -/
def rest (r : LiveRecord) : LiveRecord := { r with lane := .none }

theorem presence_of_rest {r q : LiveRecord} (h : rest r = rest q) : r.presence = q.presence :=
  (congrArg LiveRecord.presence h :)
theorem programme_of_rest {r q : LiveRecord} (h : rest r = rest q) : r.programme = q.programme :=
  (congrArg LiveRecord.programme h :)
theorem track_of_rest {r q : LiveRecord} (h : rest r = rest q) : r.track = q.track :=
  (congrArg LiveRecord.track h :)
theorem picture_of_rest {r q : LiveRecord} (h : rest r = rest q) : r.picture = q.picture :=
  (congrArg LiveRecord.picture h :)
theorem volume_of_rest {r q : LiveRecord} (h : rest r = rest q) : r.volume = q.volume :=
  (congrArg LiveRecord.volume h :)
theorem zone_of_rest {r q : LiveRecord} (h : rest r = rest q) : r.zone = q.zone :=
  (congrArg LiveRecord.zone h :)
theorem language_of_rest {r q : LiveRecord} (h : rest r = rest q) : r.language = q.language :=
  (congrArg LiveRecord.language h :)
theorem attrs_of_rest {r q : LiveRecord} (h : rest r = rest q) : r.attrs = q.attrs :=
  (congrArg LiveRecord.attrs h :)

/-- A line but for its send queues. -/
def bare (x : Line) : Line := { x with queues := .fill laneCount [] }

theorem state_of_bare {x y : Line} (h : bare x = bare y) : x.state = y.state :=
  (congrArg Line.state h :)
theorem fitted_of_bare {x y : Line} (h : bare x = bare y) : x.fitted = y.fitted :=
  (congrArg Line.fitted h :)
theorem framesSent_of_bare {x y : Line} (h : bare x = bare y) : x.framesSent = y.framesSent :=
  (congrArg Line.framesSent h :)
theorem faultCount_of_bare {x y : Line} (h : bare x = bare y) : x.faultCount = y.faultCount :=
  (congrArg Line.faultCount h :)
theorem links_of_bare {x y : Line} (h : bare x = bare y) : x.links = y.links :=
  (congrArg Line.links h :)
theorem frame_of_bare {x y : Line} (h : bare x = bare y) : x.frame = y.frame :=
  (congrArg Line.frame h :)
theorem slotOpen_of_bare {x y : Line} (h : bare x = bare y) : x.slotOpen = y.slotOpen :=
  (congrArg Line.slotOpen h :)
theorem frameDue_of_bare {x y : Line} (h : bare x = bare y) : x.frameDue = y.frameDue :=
  (congrArg Line.frameDue h :)

/-! ## Route work leaves every live field but the picture lane field -/

@[simp] theorem rest_live_setLaneField (b : BerthNo) (w : LaneField) (s : State) (c : BerthNo) : rest ((setLaneField b w s).live c) = rest (s.live c) := by
  unfold setLaneField
  rw [State.live_modLive]
  split <;> simp [rest]

@[simp] theorem rest_live_setLane (l : LineNo) (n : LaneNo) (w : Lane) (s : State) (c : BerthNo) : rest ((setLane l n w s).live c) = rest (s.live c) := by
  simp [setLane]

@[simp] theorem rest_live_setWaits (l : LineNo) (ws : List BerthNo) (s : State) (c : BerthNo) : rest ((setWaits l ws s).live c) = rest (s.live c) := by
  simp [setWaits]

@[simp] theorem rest_live_freeTheLane (l : LineNo) (n : LaneNo) (s : State) (c : BerthNo) : rest ((freeTheLane l n s).live c) = rest (s.live c) := by
  simp [freeTheLane]

@[simp] theorem rest_live_acquire (b : BerthNo) (s : State) (c : BerthNo) : rest ((acquire b s).live c) = rest (s.live c) := by
  unfold acquire
  dsimp only
  (repeat' split) <;> simp

@[simp] theorem rest_live_handOver (l : LineNo) (n : LaneNo) (w : BerthNo) (s : State) (c : BerthNo) : rest ((handOver l n w s).live c) = rest (s.live c) := by
  unfold handOver
  split
  · simp
  · dsimp only
    refine (forEach_keeps (fun t => rest (t.live c)) (fun t b => by simp) _ _).trans ?_
    simp

@[simp] theorem rest_live_releaseLane (b : BerthNo) (n : LaneNo) (s : State) (c : BerthNo) : rest ((releaseLane b n s).live c) = rest (s.live c) := by
  unfold releaseLane
  dsimp only
  (repeat' split) <;> simp

@[simp] theorem rest_live_releaseWait (b : BerthNo) (s : State) (c : BerthNo) : rest ((releaseWait b s).live c) = rest (s.live c) := by
  simp [releaseWait]

@[simp] theorem rest_live_releaseRoute (b : BerthNo) (s : State) (c : BerthNo) : rest ((releaseRoute b s).live c) = rest (s.live c) := by
  unfold releaseRoute
  split <;> simp

@[simp] theorem rest_live_routeChange (b : BerthNo) (s : State) (c : BerthNo) : rest ((routeChange b s).live c) = rest (s.live c) := by
  simp [routeChange]

@[simp] theorem rest_live_batchUnwait (b : BerthNo) (s : State) (c : BerthNo) : rest ((batchUnwait s b).live c) = rest (s.live c) := by
  unfold batchUnwait
  split <;> simp

@[simp] theorem rest_live_batchRelease (b : BerthNo) (s : State) (c : BerthNo) : rest ((batchRelease s b).live c) = rest (s.live c) := by
  unfold batchRelease
  split <;> simp

@[simp] theorem rest_live_applyBatch (bs : List BerthNo) (s : State) (c : BerthNo) : rest ((applyBatch bs s).live c) = rest (s.live c) := by
  unfold applyBatch
  refine (forEach_keeps (fun t => rest (t.live c)) (fun t b => by simp) _ _).trans ?_
  refine (forEach_keeps (fun t => rest (t.live c)) (fun t b => by simp) _ _).trans ?_
  exact forEach_keeps (fun t => rest (t.live c)) (fun t b => by simp) _ _

/-! ## Route work leaves the staged records -/

@[simp] theorem staged_setLaneField (b : BerthNo) (w : LaneField) (s : State) (c : BerthNo) : (setLaneField b w s).staged c = s.staged c := by
  simp [setLaneField]

@[simp] theorem staged_setLane (l : LineNo) (n : LaneNo) (w : Lane) (s : State) (c : BerthNo) : (setLane l n w s).staged c = s.staged c := by
  simp [setLane]

@[simp] theorem staged_setWaits (l : LineNo) (ws : List BerthNo) (s : State) (c : BerthNo) : (setWaits l ws s).staged c = s.staged c := by
  simp [setWaits]

@[simp] theorem staged_freeTheLane (l : LineNo) (n : LaneNo) (s : State) (c : BerthNo) : (freeTheLane l n s).staged c = s.staged c := by
  simp [freeTheLane]

@[simp] theorem staged_acquire (b : BerthNo) (s : State) (c : BerthNo) : (acquire b s).staged c = s.staged c := by
  unfold acquire
  dsimp only
  (repeat' split) <;> simp

@[simp] theorem staged_handOver (l : LineNo) (n : LaneNo) (w : BerthNo) (s : State) (c : BerthNo) : (handOver l n w s).staged c = s.staged c := by
  unfold handOver
  split
  · simp
  · dsimp only
    refine (forEach_keeps (fun t => t.staged c) (fun t b => by simp) _ _).trans ?_
    simp

@[simp] theorem staged_releaseLane (b : BerthNo) (n : LaneNo) (s : State) (c : BerthNo) : (releaseLane b n s).staged c = s.staged c := by
  unfold releaseLane
  dsimp only
  (repeat' split) <;> simp

@[simp] theorem staged_releaseWait (b : BerthNo) (s : State) (c : BerthNo) : (releaseWait b s).staged c = s.staged c := by
  simp [releaseWait]

@[simp] theorem staged_releaseRoute (b : BerthNo) (s : State) (c : BerthNo) : (releaseRoute b s).staged c = s.staged c := by
  unfold releaseRoute
  split <;> simp

@[simp] theorem staged_routeChange (b : BerthNo) (s : State) (c : BerthNo) : (routeChange b s).staged c = s.staged c := by
  simp [routeChange]

@[simp] theorem staged_batchUnwait (b : BerthNo) (s : State) (c : BerthNo) : (batchUnwait s b).staged c = s.staged c := by
  unfold batchUnwait
  split <;> simp

@[simp] theorem staged_batchRelease (b : BerthNo) (s : State) (c : BerthNo) : (batchRelease s b).staged c = s.staged c := by
  unfold batchRelease
  split <;> simp

@[simp] theorem staged_applyBatch (bs : List BerthNo) (s : State) (c : BerthNo) : (applyBatch bs s).staged c = s.staged c := by
  unfold applyBatch
  refine (forEach_keeps (fun t => t.staged c) (fun t b => by simp) _ _).trans ?_
  refine (forEach_keeps (fun t => t.staged c) (fun t b => by simp) _ _).trans ?_
  exact forEach_keeps (fun t => t.staged c) (fun t b => by simp) _ _

/-! ## Route work leaves a line but for its send queues -/

@[simp] theorem bare_line_setLaneField (b : BerthNo) (w : LaneField) (s : State) (k : LineNo) : bare ((setLaneField b w s).line k) = bare (s.line k) := by
  simp [setLaneField]

@[simp] theorem bare_line_setLane (l : LineNo) (n : LaneNo) (w : Lane) (s : State) (k : LineNo) : bare ((setLane l n w s).line k) = bare (s.line k) := by
  simp [setLane]

@[simp] theorem bare_line_setWaits (l : LineNo) (ws : List BerthNo) (s : State) (k : LineNo) : bare ((setWaits l ws s).line k) = bare (s.line k) := by
  simp [setWaits]

@[simp] theorem bare_line_freeTheLane (l : LineNo) (n : LaneNo) (s : State) (k : LineNo) : bare ((freeTheLane l n s).line k) = bare (s.line k) := by
  unfold freeTheLane
  rw [State.line_modLine]
  split <;> simp [bare, setLane]

@[simp] theorem bare_line_acquire (b : BerthNo) (s : State) (k : LineNo) : bare ((acquire b s).line k) = bare (s.line k) := by
  unfold acquire
  dsimp only
  (repeat' split) <;> simp

@[simp] theorem bare_line_handOver (l : LineNo) (n : LaneNo) (w : BerthNo) (s : State) (k : LineNo) : bare ((handOver l n w s).line k) = bare (s.line k) := by
  unfold handOver
  split
  · simp
  · dsimp only
    refine (forEach_keeps (fun t => bare (t.line k)) (fun t b => by simp) _ _).trans ?_
    simp

@[simp] theorem bare_line_releaseLane (b : BerthNo) (n : LaneNo) (s : State) (k : LineNo) : bare ((releaseLane b n s).line k) = bare (s.line k) := by
  unfold releaseLane
  dsimp only
  (repeat' split) <;> simp

@[simp] theorem bare_line_releaseWait (b : BerthNo) (s : State) (k : LineNo) : bare ((releaseWait b s).line k) = bare (s.line k) := by
  simp [releaseWait]

@[simp] theorem bare_line_releaseRoute (b : BerthNo) (s : State) (k : LineNo) : bare ((releaseRoute b s).line k) = bare (s.line k) := by
  unfold releaseRoute
  split <;> simp

@[simp] theorem bare_line_routeChange (b : BerthNo) (s : State) (k : LineNo) : bare ((routeChange b s).line k) = bare (s.line k) := by
  simp [routeChange]

@[simp] theorem bare_line_batchUnwait (b : BerthNo) (s : State) (k : LineNo) : bare ((batchUnwait s b).line k) = bare (s.line k) := by
  unfold batchUnwait
  split <;> simp

@[simp] theorem bare_line_batchRelease (b : BerthNo) (s : State) (k : LineNo) : bare ((batchRelease s b).line k) = bare (s.line k) := by
  unfold batchRelease
  split <;> simp

@[simp] theorem bare_line_applyBatch (bs : List BerthNo) (s : State) (k : LineNo) : bare ((applyBatch bs s).line k) = bare (s.line k) := by
  unfold applyBatch
  refine (forEach_keeps (fun t => bare (t.line k)) (fun t b => by simp) _ _).trans ?_
  refine (forEach_keeps (fun t => bare (t.line k)) (fun t b => by simp) _ _).trans ?_
  exact forEach_keeps (fun t => bare (t.line k)) (fun t b => by simp) _ _

/-! ## Presence notifications (R3 to R5) -/

theorem presence_leavesPresent (b : BerthNo) (s : State) (c : BerthNo) :
    (leavesPresent b s).presence c = s.presence c := by
  have h : (leavesPresent b s).presence c = (releaseRoute b (s.modLive b fun r =>
      { r with attrs := putAttr (putAttr r.attrs attrOccupied false) attrHeadphone false })).presence c := by
    simp [leavesPresent, State.presence, State.live]
  rw [h]
  refine (presence_of_rest (rest_live_releaseRoute b _ c)).trans ?_
  rw [State.live_modLive]
  split <;> rfl

theorem presence_entersPresent (b : BerthNo) (s : State) (c : BerthNo) :
    (entersPresent b s).presence c = s.presence c := by
  have h : (mixEntersPresent b s).presence c = s.presence c := by simp [State.presence, State.live]
  unfold entersPresent
  dsimp only
  split
  · exact (presence_of_rest (rest_live_acquire b _ c)).trans h
  · exact h

/-- A presence notification sets the berth's presence, and no other berth's (R3). -/
theorem presence_notify (v : Presence) (b : BerthNo) (s : State) (c : BerthNo) :
    (notify v b s).presence c = if b = c then v else s.presence c := by
  have raised : ∀ (e : Event) (t : State), (raise e t).presence c = t.presence c := fun e t => by
    simp [State.presence, State.live]
  have stored : (s.modLive b fun r => { r with presence := v }).presence c = if b = c then v else s.presence c := by
    simp only [State.presence, State.live_modLive]
    split <;> rfl
  unfold notify
  dsimp only
  split
  · rename_i h
    split
    · subst_vars; rfl
    · rfl
  · rw [← stored]
    (repeat' split) <;> simp only [raised, presence_entersPresent, presence_leavesPresent]

/-- The staged records stand through a presence notification. -/
@[simp] theorem staged_notify (v : Presence) (b : BerthNo) (s : State) (c : BerthNo) :
    (notify v b s).staged c = s.staged c := by
  have of_berths : ∀ {t u : State}, t.berths = u.berths → t.staged c = u.staged c := fun h => by
    simp only [State.staged, h]
  have raised : ∀ (e : Event) (t : State), (raise e t).staged c = t.staged c := fun e t => of_berths (by simp)
  have entered : ∀ t : State, (entersPresent b t).staged c = t.staged c := fun t => by
    unfold entersPresent
    dsimp only
    split
    · rw [staged_acquire]; exact of_berths (by simp)
    · exact of_berths (by simp)
  have left : ∀ t : State, (leavesPresent b t).staged c = t.staged c := fun t => by
    refine (of_berths (by simp [leavesPresent])).trans (staged_releaseRoute b (t.modLive b fun r =>
      { r with attrs := putAttr (putAttr r.attrs attrOccupied false) attrHeadphone false }) c |>.trans ?_)
    simp
  unfold notify
  dsimp only
  (repeat' split) <;> simp only [raised, entered, left, State.staged_modLive]

/-- A presence notification leaves a line but for its send queues. -/
@[simp] theorem bare_line_notify (v : Presence) (b : BerthNo) (s : State) (k : LineNo) :
    bare ((notify v b s).line k) = bare (s.line k) := by
  have of_lines : ∀ {t u : State}, t.lines = u.lines → bare (t.line k) = bare (u.line k) := fun h => by
    simp only [State.line, h]
  have raised : ∀ (e : Event) (t : State), bare ((raise e t).line k) = bare (t.line k) := fun e t => of_lines (by simp)
  have entered : ∀ t : State, bare ((entersPresent b t).line k) = bare (t.line k) := fun t => by
    unfold entersPresent
    dsimp only
    split
    · rw [bare_line_acquire]; exact of_lines (by simp)
    · exact of_lines (by simp)
  have left : ∀ t : State, bare ((leavesPresent b t).line k) = bare (t.line k) := fun t => by
    refine (of_lines (by simp [leavesPresent])).trans (bare_line_releaseRoute b (t.modLive b fun r =>
      { r with attrs := putAttr (putAttr r.attrs attrOccupied false) attrHeadphone false }) k |>.trans ?_)
    exact of_lines (by simp)
  have stored : ∀ f, bare ((s.modLive b f).line k) = bare (s.line k) := fun f => of_lines (by simp)
  unfold notify
  dsimp only
  (repeat' split) <;> simp only [raised, entered, left, stored]

/-! ## The table of announcements -/

/-- A removal takes the entry out of the table and leaves every other (R116). -/
theorem entry?_removeEntry (h : Byte) (why : EndReason) (s : State) (k : Byte) :
    (removeEntry h why s).entry? k = if k = h then none else s.entry? k := by
  have ann_raise : ∀ (e : Event) (t : State), (raise e t).ann = t.ann := fun e t => by simp
  unfold removeEntry
  split
  · rename_i hn
    split
    · subst_vars; exact hn
    · rfl
  · rename_i e he
    have entries : ∀ t : State, t.ann.entries = s.ann.entries →
        (raise .annFinished (writeFinished (finishedRecord s e why) (clearFloors h e.params.release
          (t.modAnn fun a => { a with entries := a.entries.filter fun x => x.handle ≠ h,
                                      queue := a.queue.filter fun x => x ≠ h })))).entry? k =
          if k = h then none else s.entry? k := fun t ht => by
      simp only [State.entry?, ann_raise, writeFinished, clearFloors, State.modAnn_ann, State.setMix_ann, ht,
        List.find?_filter]
      split
      · subst_vars
        rw [List.find?_eq_none]
        intro x _ hx
        simp at hx
      · rename_i hk
        congr 1
        funext x
        by_cases hx : x.handle = k
        · simp [hx, hk]
        · simp [hx]
    apply entries
    (repeat' split) <;> simp

end Sys2Proof.Machine
end

