-- ==== Sys2Proof/Laws/Requests.lean ====
section
/-! SUPPORT. Taking a request, answering it, and reading its carried fields: one lemma for each shared operation. -/

namespace Sys2Proof.Machine

/-! ## RESET_N -/

theorem whenUp_of_up {s : State} (h : Up s) (f : State → State) : whenUp s f = f s := by
  simp only [whenUp, h]
  rfl

theorem whenUp_of_low {s : State} (h : s.resetLow = true) (f : State → State) : whenUp s f = s := by
  simp only [whenUp, h, if_true]

/-! ## Taking a request (R168) -/

theorem settleFor_of_free {s : State} (h : s.link.tx = .free) (n : Nat) : settleFor n s = s := by
  cases n with
  | zero => rfl
  | succ n => simp only [settleFor, h]

/-- With the transmitter FREE there is no earlier reply to wait for. -/
theorem settle_of_free {s : State} (h : s.link.tx = .free) : settle s = s := settleFor_of_free h _

/-- A request that finds the transmitter FREE is carried out at once, and its reply starts. -/
theorem takeRequest_of_ready {s : State} (h : Ready s) (kind : Byte) (work : State → Answer) :
    takeRequest kind work s = startReply kind (work s) := by
  simp only [takeRequest, whenUp_of_up h.1, settle_of_free h.2]

/-- Every reply but that of RESTART is followed by no device reset. -/
theorem startReply_eq_answered {kind : Byte} (h : kind ≠ restartKind) (a : Answer) :
    startReply kind a = answered kind a.status a.body a.state := by
  simp [startReply, answered, State.modLink, h]

/-- A request other than RESTART, taken at once: what it leaves and answers. -/
theorem takeRequest_eq_answered {s : State} (h : Ready s) {kind : Byte} (hk : kind ≠ restartKind) {work : State → Answer}
    {a : Answer} (hw : work s = a) : takeRequest kind work s = answered kind a.status a.body a.state := by
  rw [takeRequest_of_ready h, hw, startReply_eq_answered hk]

theorem sendsRestart_iff {tx : Transmitter} : sendsRestart tx = true ↔ ∃ r, tx = .sending r true := by
  cases tx with
  | free => simp [sendsRestart]
  | sending r b => cases b <;> simp [sendsRestart]

/-! ## The phase read for a block (R103) -/

@[simp] theorem phaseRead_of_none {e : Entry} (h : e.blockPhase = none) : phaseRead e = e.phase := by
  simp [phaseRead, h]

@[simp] theorem phaseRead_of_some {e : Entry} {p : Phase} (h : e.blockPhase = some p) : phaseRead e = p := by
  simp [phaseRead, h]

/-! ## Carried fields (R179) -/

theorem carriedFin_eq_some {n : Nat} {b : Byte} {i : Fin n} : carriedFin n b = some i ↔ b.toNat = i.val := by
  simp only [carriedFin]
  split
  · simp [Fin.ext_iff]
  · have := i.isLt
    simp only [reduceCtorEq, false_iff]
    omega

theorem carriedFin_of_eq {n : Nat} {b : Byte} {i : Fin n} (h : b.toNat = i.val) : carriedFin n b = some i :=
  carriedFin_eq_some.2 h

theorem carriedFin_eq_none {n : Nat} {b : Byte} : carriedFin n b = none ↔ n ≤ b.toNat := by
  simp only [carriedFin]
  split <;> simp <;> omega

theorem carriedFin_of_le {n : Nat} {b : Byte} (h : n ≤ b.toNat) : carriedFin n b = none := carriedFin_eq_none.2 h

theorem carriedFlag_eq (b : Byte) : carriedFlag b = decide (b ≠ 0) := by
  simp [carriedFlag]
  rfl

/-! ## Attributes (R179, R19) -/

theorem hasAttr_putAttr (attrs : Byte) (n m : Nat) (v : Bool) (h : m < 8) :
    hasAttr (putAttr attrs n v) m = if m = n then v else hasAttr attrs m := by
  by_cases hmn : m = n
  · cases v <;> simp [putAttr, hasAttr, hmn, BitVec.getLsbD_twoPow]
    omega
  · cases v <;> simp [putAttr, hasAttr, h, hmn]

/-! ## Events (R173) -/

theorem flag_raise (s : State) (e f : Event) : (raise e s).flag f = (s.flag f || decide (e = f)) := by
  have key : ∀ x y : Event, (eventMask x).getLsbD (eventBit y) = decide (x = y) := by
    intro x y; cases x <;> cases y <;> decide
  simp only [State.flag, raise, State.modEvents_events, BitVec.getLsbD_or, key]

/-- The outcome of a request carried out at once, but for RESTART: its owner's answer, and the state its owner leaves. -/
abbrev answeredBy (kind : Byte) (a : Answer) : Result := .next (answered kind a.status a.body a.state)

/-! ## Each request taken with the transmitter FREE: its owner's answer, and the state that the owner leaves -/

theorem exec_berthRead_of_ready {s : State} (h : Ready s) (berth : Byte) :
    exec (.berthRead berth) s = answeredBy 0x01 (berthRead berth s) :=
  congrArg _ (takeRequest_eq_answered h (by decide) rfl)

theorem exec_berthStage_of_ready {s : State} (h : Ready s) (berth : Byte) (body : StageBody) :
    exec (.berthStage berth body) s = answeredBy 0x02 (berthStage berth body s) :=
  congrArg _ (takeRequest_eq_answered h (by decide) rfl)

theorem exec_stageDiscard_of_ready {s : State} (h : Ready s) :
    exec .stageDiscard s = answeredBy 0x03 (stageDiscard s) :=
  congrArg _ (takeRequest_eq_answered h (by decide) rfl)

theorem exec_commit_of_ready {s : State} (h : Ready s) :
    exec .commit s = answeredBy 0x04 (commitRequest s) :=
  congrArg _ (takeRequest_eq_answered h (by decide) rfl)

theorem exec_berthEdit_of_ready {s : State} (h : Ready s) (zones attrMask mode operation destination source : Byte) :
    exec (.berthEdit zones attrMask mode operation destination source) s = answeredBy 0x05 (berthEdit zones attrMask mode operation destination source s) :=
  congrArg _ (takeRequest_eq_answered h (by decide) rfl)

theorem exec_lineSetup_of_ready {s : State} (h : Ready s) (line count : Byte) :
    exec (.lineSetup line count) s = answeredBy 0x06 (lineSetup line count s) :=
  congrArg _ (takeRequest_eq_answered h (by decide) rfl)

theorem exec_lineRead_of_ready {s : State} (h : Ready s) (line : Byte) :
    exec (.lineRead line) s = answeredBy 0x07 (lineRead line s) :=
  congrArg _ (takeRequest_eq_answered h (by decide) rfl)

theorem exec_lineRestart_of_ready {s : State} (h : Ready s) (line : Byte) :
    exec (.lineRestart line) s = answeredBy 0x08 (lineRestart line s) :=
  congrArg _ (takeRequest_eq_answered h (by decide) rfl)

theorem exec_lineStop_of_ready {s : State} (h : Ready s) (line : Byte) :
    exec (.lineStop line) s = answeredBy 0x09 (lineStop line s) :=
  congrArg _ (takeRequest_eq_answered h (by decide) rfl)

theorem exec_berthLinkRead_of_ready {s : State} (h : Ready s) (berth : Byte) :
    exec (.berthLinkRead berth) s = answeredBy 0x0A (berthLinkRead berth s) :=
  congrArg _ (takeRequest_eq_answered h (by decide) rfl)

theorem exec_berthLinkClear_of_ready {s : State} (h : Ready s) (berth : Byte) :
    exec (.berthLinkClear berth) s = answeredBy 0x0B (berthLinkClear berth s) :=
  congrArg _ (takeRequest_eq_answered h (by decide) rfl)

theorem exec_programmeSetup_of_ready {s : State} (h : Ready s) (programme picture tracks trim0 trim1 stillCard : Byte) :
    exec (.programmeSetup programme picture tracks trim0 trim1 stillCard) s = answeredBy 0x0C (programmeSetup programme picture tracks trim0 trim1 stillCard s) :=
  congrArg _ (takeRequest_eq_answered h (by decide) rfl)

theorem exec_programmeTrim_of_ready {s : State} (h : Ready s) (programme : Byte) (body : TrimBody) :
    exec (.programmeTrim programme body) s = answeredBy 0x0D (programmeTrim programme body s) :=
  congrArg _ (takeRequest_eq_answered h (by decide) rfl)

theorem exec_programmeRead_of_ready {s : State} (h : Ready s) (selector : Byte) :
    exec (.programmeRead selector) s = answeredBy 0x0E (programmeRead selector s) :=
  congrArg _ (takeRequest_eq_answered h (by decide) rfl)

theorem exec_laneRead_of_ready {s : State} (h : Ready s) (line : Byte) :
    exec (.laneRead line) s = answeredBy 0x0F (laneRead line s) :=
  congrArg _ (takeRequest_eq_answered h (by decide) rfl)

theorem exec_announce_of_ready {s : State} (h : Ready s) (body : AnnounceBody) (deadline : Half) :
    exec (.announce body deadline) s = answeredBy 0x10 (announce body deadline s) :=
  congrArg _ (takeRequest_eq_answered h (by decide) rfl)

theorem exec_announcementRead_of_ready {s : State} (h : Ready s) (selector code : Byte) :
    exec (.announcementRead selector code) s = answeredBy 0x11 (announcementRead selector code s) :=
  congrArg _ (takeRequest_eq_answered h (by decide) rfl)

theorem exec_pttProfileSet_of_ready {s : State} (h : Ready s) (profile : Byte) (body : AnnounceBody) :
    exec (.pttProfileSet profile body) s = answeredBy 0x12 (pttProfileSet profile body s) :=
  congrArg _ (takeRequest_eq_answered h (by decide) rfl)

theorem exec_cut_of_ready {s : State} (h : Ready s) (handle mode : Byte) :
    exec (.cut handle mode) s = answeredBy 0x13 (cut handle mode s) :=
  congrArg _ (takeRequest_eq_answered h (by decide) rfl)

theorem exec_finishedRead_of_ready {s : State} (h : Ready s) (start : Byte) :
    exec (.finishedRead start) s = answeredBy 0x14 (finishedRead start s) :=
  congrArg _ (takeRequest_eq_answered h (by decide) rfl)

theorem exec_chimeLoad_of_ready {s : State} (h : Ready s) (pattern : Byte) (notes : List NoteBody) :
    exec (.chimeLoad pattern notes) s = answeredBy 0x15 (chimeLoad pattern notes s) :=
  congrArg _ (takeRequest_eq_answered h (by decide) rfl)

theorem exec_chimeRead_of_ready {s : State} (h : Ready s) (pattern : Byte) :
    exec (.chimeRead pattern) s = answeredBy 0x16 (chimeRead pattern s) :=
  congrArg _ (takeRequest_eq_answered h (by decide) rfl)

theorem exec_mixRead_of_ready {s : State} (h : Ready s) (berth clear : Byte) :
    exec (.mixRead berth clear) s = answeredBy 0x17 (mixRead berth clear s) :=
  congrArg _ (takeRequest_eq_answered h (by decide) rfl)

theorem exec_coachSet_of_ready {s : State} (h : Ready s) (body : CoachBody) :
    exec (.coachSet body) s = answeredBy 0x18 (coachSet body s) :=
  congrArg _ (takeRequest_eq_answered h (by decide) rfl)

theorem exec_coachRead_of_ready {s : State} (h : Ready s) :
    exec .coachRead s = answeredBy 0x19 (coachRead s) :=
  congrArg _ (takeRequest_eq_answered h (by decide) rfl)

theorem exec_alarmRelease_of_ready {s : State} (h : Ready s) :
    exec .alarmRelease s = answeredBy 0x1A (alarmRelease s) :=
  congrArg _ (takeRequest_eq_answered h (by decide) rfl)

theorem exec_callTake_of_ready {s : State} (h : Ready s) :
    exec .callTake s = answeredBy 0x1B (callTake s) :=
  congrArg _ (takeRequest_eq_answered h (by decide) rfl)

theorem exec_callClear_of_ready {s : State} (h : Ready s) (berth : Byte) :
    exec (.callClear berth) s = answeredBy 0x1C (callClear berth s) :=
  congrArg _ (takeRequest_eq_answered h (by decide) rfl)

theorem exec_start_of_ready {s : State} (h : Ready s) :
    exec .start s = answeredBy 0x1D (startRequest s) :=
  congrArg _ (takeRequest_eq_answered h (by decide) rfl)

theorem exec_statusRead_of_ready {s : State} (h : Ready s) :
    exec .statusRead s = answeredBy 0x1F (statusRead s) :=
  congrArg _ (takeRequest_eq_answered h (by decide) rfl)

theorem exec_eventsRead_of_ready {s : State} (h : Ready s) :
    exec .eventsRead s = answeredBy 0x20 (eventsRead s) :=
  congrArg _ (takeRequest_eq_answered h (by decide) rfl)

theorem exec_eventsClear_of_ready {s : State} (h : Ready s) (positions : Half) :
    exec (.eventsClear positions) s = answeredBy 0x20 (eventsClear positions s) :=
  congrArg _ (takeRequest_eq_answered h (by decide) rfl)

theorem exec_eventsEnable_of_ready {s : State} (h : Ready s) (values : Half) :
    exec (.eventsEnable values) s = answeredBy 0x21 (eventsEnable values s) :=
  congrArg _ (takeRequest_eq_answered h (by decide) rfl)

end Sys2Proof.Machine
end

