-- ==== Sys2Proof/Tests/Slice0.lean ====
section
/-! SUPPORT. The model's own tests: ill-formed commands that WellFormed refuses, at most two single steps for each command
with results worked out from the rules of spec/, and for each statement a state and operands that meet its hypotheses. -/

namespace Sys2Proof.Tests

open Sys2Proof.Machine

set_option maxRecDepth 100000

/-! ## Small states -/

/-- The state after a command; as it was where the command stops (no command does). -/
def ran (c : Instr) (s : State) : State :=
  match exec c s with
  | .next t => t
  | .fault _ => s
  | .refused _ => s

/-- The status and body of the reply being sent. -/
def replying (s : State) : Option (Byte × List Byte) :=
  match s.link.tx with
  | .free => none
  | .sending r _ => some (r.status, r.body)

/-- The reply that a request gets. -/
def replyTo (c : Instr) (s : State) : Option (Byte × List Byte) := replying (ran c s)

/-- RUN, every line OFF. -/
def inRun : State := { State.reset with device := .run }

/-- RUN with a commit pending. -/
def committing : State := { inRun with commitPending := true }

/-- A reply under way. -/
def sending (thenReset : Bool) : State :=
  { State.reset with link := { ControlLink.reset with tx := .sending ⟨0x1E, 0, []⟩ thenReset } }

/-- A berth after a device reset but for its presence. -/
def berthOf (p : Presence) : Berth := { Berth.reset with live := { Berth.reset.live with presence := p } }

/-- RUN, line 0 RUNNING with slots 0 and 1 fitted, berth 0 of the given presence and link record, berth 1 ABSENT, and the
reply slot of slot 0 under way in block 0. -/
def oneLine (p : Presence) (r : LinkRecord) : State :=
  { State.reset with
    device := .run
    lines := State.reset.lines.set 0
      { Line.reset with state := .running, fitted := 2, slotOpen := true, links := (Table.fill slotCount .clear).set 0 r }
    berths := (State.reset.berths.set 0 (berthOf p)).set 1 (berthOf .absent) }

/-- Berth 0 PRESENT, its taken toggle clear. -/
def present : State := oneLine .present .clear

/-- Berth 0 ABSENT. -/
def absent : State := oneLine .absent .clear

/-- Line 0 RUNNING with nothing fitted under way in this block. -/
def between : State := { present with lines := present.lines.set 0 { present.line 0 with slotOpen := false } }

/-- Announcement fields with no chime, no lead, no tail and no maximum live. -/
def plain : Params := { Params.driverDefault with chime := none, lead := 0, tail := 0, maxLive := 0, cls := 2 }

/-- An entry of handle 1. -/
def anEntry (src : Source) (p : Params) (phase : Phase) (timer : Nat) : Entry :=
  { handle := 1, source := src, params := p, deadline := 0, admission := 1, phase := phase, timer := timer, liveCount := 0,
    audience := 0, peak := 0, earlyRelease := false, endReason := none, starvation := 0, recorded := none, blockPhase := none,
    due := false }

/-- RUN with some entries in the table, a recorded queue and a buffer target. -/
def withTable (entries : List Entry) (queue : List Byte) (target : Option Byte) : State :=
  { present with
    ann := { Announcer.reset with entries := entries, queue := queue, handleCounter := 3, admissionCounter := 2 }
    media := { Media.reset with recorded := { Media.reset.recorded with target := target } } }

/-- One crew entry in a phase. -/
def crewIn (p : Params) (phase : Phase) (timer : Nat) : State := withTable [anEntry .c p phase timer] [] none

/-- One recorded entry in LIVE, nothing in its buffer. -/
def recordedLive : State := withTable [anEntry .r plain .live 0] [] (some 1)

/-- A recorded entry in LIVE and one QUEUED behind it, with a deadline. -/
def withQueued (timer : Nat) : State :=
  withTable [anEntry .r plain .live 0, { anEntry .r plain .queued timer with handle := 2, deadline := 9, admission := 2 }] [2]
    (some 1)

/-- A recorded entry in TAIL and one QUEUED behind it whose lead is 5. -/
def withTail : State :=
  withTable [anEntry .r plain .tail 0, { anEntry .r { plain with lead := 5 } .queued 0 with handle := 2, admission := 2 }] [2]
    none

/-- The crew's entry in CHIME with voice C in pattern 1, one note of 2 blocks whose env rises every block. -/
def chiming (note : Nat) (early : Bool) (into : Nat) : State :=
  let s := withTable [{ anEntry .c plain .chime 0 with earlyRelease := early }] [] none
  { s with chimes := { s.chimes with
    patterns := s.chimes.patterns.set 1 [⟨some 1, 4, 2, 3, 1⟩, ⟨none, 4, 2, 0, 0⟩]
    voiceC := ⟨some { entry := 1, pattern := 1, noteIndex := note, blocksInto := into, samplePhase := 0, env := 3,
                      decayCounter := 0 }, none, false⟩ } }

/-- Track 0 of programme 7 FLOWING with sequence 5 expected and an empty window. -/
def flowing (misses : Nat) : State :=
  inRun.modTrack 7 0 fun t => { t with state := .flowing, expected := 5, missRun := misses }

/-- A media frame with a 7-byte header, and a payload of 96 bytes. -/
def frame (k name trk seq flag : Byte) (held : Nat) : EthernetFrame :=
  ⟨true, 0x8C51, [k, name, trk, seq, flag, 0, 96] ++ List.replicate held 0x11⟩

/-- Bytes received with good stop bits. -/
def bytes (bs : List Byte) : List RxByte := bs.map fun b => ⟨b, true⟩

/-- ANNOUNCE's fields: class 2, every zone, no test, no chime. -/
def announceBody : AnnounceBody :=
  { cls := 2, zones := 0xFF, attrMask := 0, mode := 0, chime := 0xFF, duck := 40, attack := 4, release := 2, level := 8,
    card := 0, lead := 10, tail := 20, maxLive := 0 }

/-! ## Ill-formed commands -/

theorem test_refuses_empty_counted : (Instr.requestTakenLinkRefusal [] true).wellFormed = false := by decide
theorem test_refuses_long_counted :
    (Instr.requestTakenLinkRefusal (List.replicate 66 0) true).wellFormed = false := by decide
theorem test_refuses_empty_frame : (Instr.controlFrameReceived []).wellFormed = false := by decide
theorem test_refuses_long_frame : (Instr.controlFrameReceived (List.replicate 69 ⟨0, true⟩)).wellFormed = false := by decide
theorem test_refuses_eleven_notes :
    (Instr.chimeLoad 0 (List.replicate 11 ⟨0, 4, 1, 0, 0⟩)).wellFormed = false := by decide
theorem test_refuses_short_ethernet : (Instr.mediaFrame ⟨true, 0, List.replicate 45 0⟩).wellFormed = false := by decide
theorem test_refuses_long_ethernet : carriesEthernet (List.replicate 1501 0) = false := by decide
theorem test_refuses_berth_twice : (Instr.blockStart .silence .silence [3, 3]).wellFormed = false := by decide
theorem test_takes_longest_frame :
    (Instr.controlFrameReceived (List.replicate 68 ⟨0, true⟩)).wellFormed = true := by decide

/-! ## Requests, one step each -/

/-- R11: an EXCLUDED berth is read; programme NONE is FFh, V is 32, nothing is staged. -/
theorem test_berth_read_reset :
    replyTo (.berthRead 47) .reset = some (0, [0, 255, 0, 0, 32, 0, 0, 0, 0, 0, 0, 0]) := by decide

/-- R13: a staged volume of 97 is stored as 96, and the reply is CLAMPED with the berth. -/
theorem test_berth_stage_clamps : replyTo (.berthStage 0 { volume := some 97 }) present = some (1, [0]) ∧
    ((ran (.berthStage 0 { volume := some 97 }) present).staged 0).volume = some 96 := by decide

/-- R12: staging is refused with BUSY while a commit is pending. -/
theorem test_berth_stage_busy :
    replyTo (.berthStage 0 { dnd := some 1 }) { present with commitPending := true } = some (0x10, []) := by decide

/-- R14: the reply counts the staged records that were not empty. -/
theorem test_stage_discard_counts :
    replyTo .stageDiscard (ran .replySent (ran (.berthStage 0 { dnd := some 1 }) present)) = some (0, [1]) := by decide

/-- R15: a second COMMIT is refused with BUSY. -/
theorem test_commit_busy : replyTo .commit committing = some (0x10, []) := by decide

/-- R20, R21: TOGGLE of TAG0 changes both fitted berths. -/
theorem test_berth_edit_toggles : replyTo (.berthEdit 0xFF 0 0 2 4 0) present = some (0, [2, 2]) ∧
    ((ran (.berthEdit 0xFF 0 0 2 4 0) present).live 1).attrs = 0x10 := by decide

/-- R20: OCCUPIED is no destination. -/
theorem test_berth_edit_occupied : replyTo (.berthEdit 0xFF 0 0 0 0 0) present = some (0x12, []) := by decide

/-- R30: twelve slots fitted; slot 11 becomes ABSENT. -/
theorem test_line_setup_fits : replyTo (.lineSetup 3 12) .reset = some (0, [3, 12]) ∧
    (ran (.lineSetup 3 12) .reset).presence 47 = .absent := by decide

/-- R30: a count above 12 is refused. -/
theorem test_line_setup_thirteen : replyTo (.lineSetup 3 13) .reset = some (0x12, []) := by decide

/-- R43: a line number above 3 is refused. -/
theorem test_line_read_four : replyTo (.lineRead 4) .reset = some (0x12, []) := by decide

/-- R45: an OFF line with nothing fitted is refused with WRONG_STATE. -/
theorem test_line_restart_unfitted : replyTo (.lineRestart 1) inRun = some (0x11, []) := by decide

/-- R44: a stopped line's PRESENT berth becomes ABSENT. -/
theorem test_line_stop_drops : (ran (.lineStop 0) present).presence 0 = .absent ∧
    ((ran (.lineStop 0) present).line 0).state = .off := by decide

/-- R46: the reply carries presence, then the record: 2 is PRESENT. -/
theorem test_berth_link_read : ((replyTo (.berthLinkRead 0) present).map fun r => r.2.head?) = some (some 2) := by decide

/-- R47: a CONFLICT berth becomes ABSENT. -/
theorem test_berth_link_clear_conflict : (ran (.berthLinkClear 0) (oneLine .conflict .clear)).presence 0 = .absent := by
  decide

/-- R52: in RUN PROGRAMME SETUP is refused; in CONFIG a trim above 63 is stored as 63. -/
theorem test_programme_setup : replyTo (.programmeSetup 0 1 2 0 0 0) inRun = some (0x11, []) ∧
    ((ran (.programmeSetup 7 1 2 0 64 0) .reset).programme 7).trim1 = 63 := by decide

/-- R53: a still card above 63 is refused. -/
theorem test_programme_trim_card : replyTo (.programmeTrim 0 { stillCard := some 64 }) inRun = some (0x12, []) := by decide

/-- R54: at reset programme 7 has one track, IDLE. -/
theorem test_programme_read_reset : ((replyTo (.programmeRead 7) .reset).map fun r => r.2.take 10) =
    some [0, 1, 0, 0, 0, 0, 0, 0, 0, 0] := by decide

/-- R82: four FREE lanes, no queue, no drop, and no berth waits. -/
theorem test_lane_read_reset : ((replyTo (.laneRead 3) .reset).map fun r => r.2.length) = some 25 := by decide

/-- R92, R94: the first handle after a reset is 1 and becomes active at once; in CONFIG ANNOUNCE is refused. -/
theorem test_announce_first : replyTo (.announce announceBody 0) inRun = some (0, [1, 0]) ∧
    replyTo (.announce announceBody 0) .reset = some (0x11, []) := by decide

/-- R91: a class 2 entry is queued behind one of its class. -/
theorem test_announce_queued : replyTo (.announce announceBody 0) (withQueued 9) = some (0, [3, 2]) := by decide

/-- R101: nothing in the table or the finished list has handle 9. -/
theorem test_announcement_read_missing : replyTo (.announcementRead 0 9) inRun = some (0x14, []) := by decide

/-- R100: an attack step of 0 is stored as 1. -/
theorem test_ptt_profile_clamps :
    (ran (.pttProfileSet 1 { announceBody with attack := 0 }) .reset).ann.crew.attack = 1 := by decide

/-- R115: CUT SOFT of a LIVE entry leaves it in TAIL with end reason CUT; R103: after its advance at a block start it is still
read as LIVE in that block. -/
theorem test_cut_soft : ((ran (.cut 1 0) (crewIn plain .live 0)).ann.entries.map fun e => (e.phase, e.endReason)) =
    [(.tail, some .cut)] ∧
    ((ran (.cut 1 0) (ran (.leadEnd 1) (crewIn plain .lead 0))).ann.entries.map fun e => (e.phase, phaseRead e)) =
    [(.tail, .live)] := by decide

/-- R118: CUT HARD writes a finished record. -/
theorem test_cut_hard : ((ran (.cut 1 1) (crewIn plain .live 0)).ann.finished.map fun r => r.endReason) = [.cut] := by
  decide

/-- R119: a start above 7 is refused. -/
theorem test_finished_read_eight : replyTo (.finishedRead 8) inRun = some (0x12, []) := by decide

/-- R141: duty 0 is stored as 1, and the reply carries pattern and count. -/
theorem test_chime_load_clamps : replyTo (.chimeLoad 2 [⟨0xFF, 0, 1, 0, 0⟩]) .reset = some (1, [2, 1]) := by decide

/-- R141: a playing pattern is BUSY. -/
theorem test_chime_load_busy : replyTo (.chimeLoad 1 [⟨0, 4, 1, 0, 0⟩]) (chiming 0 false 0) = some (0x10, []) := by decide

/-- R143, R134: default pattern 1 has one note: tone 2, duty 4, 250 blocks, a0 12, k 25. -/
theorem test_chime_read_default : ((replyTo (.chimeRead 1) .reset).map fun r => r.2.take 7) =
    some [1, 2, 4, 0, 250, 12, 25] := by decide

/-- R154, R144: a berth's mix state after a reset. -/
theorem test_mix_read_reset : replyTo (.mixRead 47 0) .reset =
    some (0, [0, 255, 0, 127, 0, 127, 1, 1, 32, 127, 127, 127, 0, 0, 0]) := by decide

/-- R160: a quiet level of 4 is stored as 3. -/
theorem test_coach_set_clamps : replyTo (.coachSet { quiet := some 4 }) .reset = some (1, [3, 0, 1, 2]) := by decide

/-- R161: the settings after a reset. -/
theorem test_coach_read_reset :
    replyTo .coachRead .reset = some (0, [0, 0, 1, 2, 0, 0, 0, 0, 0, 0, 0, 0, 0]) := by decide

/-- R153: a PRESENT berth's duck is 127 and falls by 1 in each block. -/
theorem test_alarm_release : ((ran .alarmRelease { present with coach := { Coach.reset with latch := true } }).mixOf 0).duck =
    127 := by decide

/-- R163: a call stamped 4,294,967,290 and taken in block 6 has waited 12 blocks. -/
theorem test_call_take_wraps :
    replyTo .callTake { inRun with
      blockCount := 6
      coach := { Coach.reset with calls := [⟨5, 4294967290, .call⟩] } } =
    some (0, [5, 0xFF, 0xFF, 0xFF, 0xFA, 10, 0, 0, 0, 12, 0, 0]) := by decide

/-- R164: no entry for the berth. -/
theorem test_call_clear_missing : replyTo (.callClear 5) inRun = some (0x14, []) := by decide

/-- R170: START takes the part to RUN; in RUN it is refused. -/
theorem test_start : (ran .start .reset).device = .run ∧ replyTo .start inRun = some (0x11, []) := by decide

/-- R171: the device reset comes with the end of RESTART's reply, and not before. -/
theorem test_restart : (ran .restart inRun).device = .run ∧ (ran .replySent (ran .restart inRun)).device = .config := by
  decide

/-- R172: device state, block count, five counters. -/
theorem test_status_read : replyTo .statusRead inRun = some (0, [1, 0, 0, 0, 0, 0, 0, 0, 0, 0, 0, 0, 0, 0, 0]) := by decide

/-- R173, R175: RESTARTED set, 13 enables set. -/
theorem test_events_read_reset : replyTo .eventsRead .reset = some (0, [0, 1, 0x1F, 0xFF]) := by decide

/-- R174, R176: RESTARTED cleared withdraws ATTN; position 13 is refused. -/
theorem test_events_clear : (ran (.eventsClear 1) .reset).attn = false ∧
    replyTo (.eventsClear 0x2000) .reset = some (0x12, []) := by decide

/-- R175: all 13 enables take the values carried. -/
theorem test_events_enable : replyTo (.eventsEnable 0) .reset = some (0, [0, 1, 0, 0]) := by decide

/-! ## The control link, one step each -/

/-- R177's example: COMMIT is A5h 01h 04h FBh, and its reply DONE is A5h 02h 04h 00h FAh. -/
theorem test_commit_frame : (ran (.controlFrameReceived (bytes [0xA5, 1, 4, 0xFB])) .reset).commitPending = true ∧
    replyBytes ⟨4, 0, []⟩ = [0xA5, 2, 4, 0, 0xFA] := by decide

/-- R169: a bad check is answered with kind 00h and CHECK. -/
theorem test_frame_bad_check : replying (ran (.controlFrameReceived (bytes [0xA5, 1, 4, 0xFC])) .reset) = some (0x16, []) := by
  decide

/-- R166: the twentieth block start discards an incomplete frame. -/
theorem test_frame_timeout :
    let s := { State.reset with link := { ControlLink.reset with receive := .length, age := 19 } }
    (ran .frameTimeout s).link.timeout = 1 ∧ (ran .frameTimeout s).link.receive = .hunt := by decide

/-- R169: kind 22h is not one of the 33; kind 04h has no body. -/
theorem test_link_refusals : replyTo (.requestTakenLinkRefusal [0x22] true) .reset = some (0x15, []) ∧
    replyTo (.requestTakenLinkRefusal [4, 0] true) .reset = some (0x17, []) := by decide

/-- R168: the next record is taken when the reply has been sent. -/
theorem test_reply_sent_takes_next :
    (ran .replySent { sending false with link := { (sending false).link with buffer := [⟨[4], true⟩] } }).commitPending =
      true := by decide

/-- R171: RESET_N low withdraws ATTN and CTL_RTR; the reset completes when it returns high. -/
theorem test_reset_n : (ran .resetNLow inRun).attn = false ∧ (ran .resetNHigh (ran .resetNLow inRun)).device = .config := by
  decide

/-- R165: a start byte opens a frame; a length of 66 discards it. -/
theorem test_rx_bytes : (ran (.ctlRxByte ⟨0xA5, true⟩) .reset).link.receive = .length ∧
    (ran (.ctlRxByte ⟨66, true⟩) (ran (.ctlRxByte ⟨0xA5, true⟩) .reset)).link.badLength = 1 := by decide

/-- R167, R171: a record that finds four waiting is an overrun, and while RESTART's reply is being sent it is discarded
without count. -/
theorem test_rx_overrun :
    let full := fun reset : Bool => { sending reset with link := { (sending reset).link with
      receive := .check 1 [4], buffer := List.replicate 4 ⟨[4], true⟩ } }
    (ran (.ctlRxByte ⟨0xFB, true⟩) (full false)).link.overrun = 1 ∧
      (ran (.ctlRxByte ⟨0xFB, true⟩) (full true)).link.overrun = 0 ∧
      (ran (.ctlRxByte ⟨0xFB, true⟩) (full true)).flag .linkError = false := by decide

/-! ## Block starts, one step each -/

/-- Introduction 1.5.1.2: the block count wraps to 0. -/
theorem test_block_start_wraps :
    (ran (.blockStart .silence .silence []) { State.reset with blockCount := 0xFFFFFFFF }).blockCount = 0 := by decide

/-- R147, R149: a released berth's duck of 127 falls to 126, and with V 0 the attenuation is 126. -/
theorem test_block_start_ramp :
    let s := ran (.blockStart .silence .silence []) { between with
      mix := between.mix.set 0 { MixState.reset with duck := 127 }
      berths := between.berths.set 0 { Berth.reset with
        live := { Berth.reset.live with presence := .present, volume := 0, programme := some 0 } } }
    (s.mixOf 0).duck = 126 ∧ (s.mixOf 0).lastAp = 126 := by decide

/-- R59: the 250th miss in a row makes a track STARVED. -/
theorem test_track_starved : ((ran (.trackStarved 7 0) (flowing 249)).track 7 0).state = .starved ∧
    ran (.trackStarved 7 0) (flowing 248) = flowing 248 := by decide

/-- R104: a timer of 1 runs out at this block start; one of 2 does not. -/
theorem test_queue_deadline : (ran (.queueDeadlineExpiry 2) (withQueued 1)).ann.queue = [] ∧
    (ran (.queueDeadlineExpiry 2) (withQueued 2)).ann.queue = [2] := by decide

/-- R106: with no chime LEAD passes into LIVE, whose first advance counts 1. -/
theorem test_lead_end_live :
    ((ran (.leadEnd 1) (crewIn plain .lead 0)).ann.entries.map fun e => (e.phase, e.liveCount)) = [(.live, 1)] := by decide

/-- R138: with pattern 0 the voice starts on note 0 with env a0, 8. -/
theorem test_lead_end_chime :
    ((ran (.leadEnd 1) (crewIn { plain with chime := some 0 } .lead 0)).voice .c).playing.map (fun p => p.env) = some 8 := by
  decide

/-- R136: with k of 1 env rises from 3 to 4 at the note's second block. -/
theorem test_envelope_step :
    ((ran (.envelopeDecayStep .c) (chiming 0 false 0)).voice .c).playing.map (fun p => p.env) = some 4 := by decide

/-- R139: the first note's last block is over and the REST follows, with env 127. -/
theorem test_chime_note_end :
    ((ran (.chimeNoteEnd .c) (chiming 0 false 1)).voice .c).playing.map (fun p => (p.noteIndex, p.env)) = some (1, 127) := by
  decide

/-- R107: at the pattern's end the entry enters LIVE. -/
theorem test_chime_end :
    ((ran (.chimeEnd .c) (chiming 1 false 1)).ann.entries.map fun e => (e.phase, e.liveCount)) = [(.live, 1)] := by decide

/-- R108: a live count at the maximum live ends LIVE as TIMED_OUT, and the count does not rise. -/
theorem test_maximum_live :
    let s := withTable [{ anEntry .c { plain with maxLive := 5, tail := 9 } .live 0 with liveCount := 5 }] [] none
    ((ran (.maximumLiveReached 1) s).ann.entries.map fun e => (e.endReason, e.liveCount, e.timer)) =
      [(some .timedOut, 5, 8)] := by decide

/-- R108: the 500th take in a row that finds nothing ends LIVE as STARVED, here with no tail. -/
theorem test_starvation_limit :
    let s := withTable [{ anEntry .r plain .live 0 with starvation := 499 }] [] (some 1)
    ((ran (.starvationRunLimit 1) s).ann.finished.map fun r => r.endReason) = [.starved] := by decide

/-- R105, R111: the end of a tail hands the source on: the head enters LEAD and takes its first advance. -/
theorem test_tail_end_hands_on :
    ((ran (.tailEnd 1) withTail).ann.entries.map fun e => (e.handle, e.phase, e.timer)) = [(2, .lead, 4)] := by decide

/-- R15, R16: the commit due at block 12 writes the staged V. -/
theorem test_commit_due :
    let s := { between with
      blockCount := 11
      commitPending := true
      berths := between.berths.set 0 { berthOf .present with staged := { StagedRecord.empty with volume := some 9 } } }
    ((ran .commitDue s).live 0).volume = 9 ∧ (ran .commitDue s).flag .commitDone = true := by decide

/-! ## Lines, media and contacts, one step each -/

/-- R38, R182: a GOOD reply with both indications makes an ABSENT berth PRESENT. -/
theorem test_reply_good : ((ran (.replySlotComplete 0 (.sent [0, 0, 6, 0xFA])) absent).live 0).presence = .present ∧
    ((ran (.replySlotComplete 0 (.sent [0, 0, 6, 0xFA])) absent).live 0).attrs = 3 := by decide

/-- R25: VOLUME UP from V = 2 gives 0. -/
theorem test_reply_volume_up :
    let s := present.modLive 0 fun r => { r with volume := 2 }
    ((ran (.replySlotComplete 0 (.sent [6, 0, 1, 0xF9])) s).live 0).volume = 0 := by decide

/-- R40: the sixteenth lost reply drops a PRESENT berth. -/
theorem test_berth_dropped :
    (ran (.berthDropped 0 .silent) (oneLine .present { LinkRecord.clear with missCount := 15 })).presence 0 = .absent := by
  decide

/-- R41: the third collision in a row is a CONFLICT. -/
theorem test_berth_conflict :
    (ran (.berthConflict 0) (oneLine .present { LinkRecord.clear with collisionRun := 2 })).presence 0 = .conflict := by
  decide

/-- R34: a drive conflict makes the line FAULTED and its fault count rise. -/
theorem test_drive_conflict : ((ran (.driveConflict 0) present).line 0).state = .faulted ∧
    ((ran (.driveConflict 0) present).line 0).faultCount = 1 := by decide

/-- R56, R57: sequence e + 3 fills slot 3; sequence e + 128 is late. -/
theorem test_audio_window : (((ran (.mediaFrame (frame 1 7 0 8 0 96)) (flowing 0)).track 7 0).slots.get 3).isSome = true ∧
    ((ran (.mediaFrame (frame 1 7 0 133 0 96)) (flowing 0)).track 7 0).late = 1 := by decide

/-- R64: a block for the target is appended; one for another handle is a stray. -/
theorem test_recorded_arrival : (ran (.mediaFrame (frame 3 1 0 0 0 96)) recordedLive).media.recorded.blocks.length = 1 ∧
    (ran (.mediaFrame (frame 3 2 0 0 0 96)) recordedLive).media.recorded.stray = 1 := by decide

/-- R97, R99: the driver's press admits class 1, with a lead of 200. -/
theorem test_ptt_press : ((ran (.pttPress .d) inRun).ann.entries.map fun e => (e.params.cls, e.timer)) = [(1, 200)] := by
  decide

/-- R112: a release in LEAD ends the entry as SHORT. -/
theorem test_ptt_release :
    let s := { crewIn plain .lead 3 with coach := { Coach.reset with pttC := ⟨true, 0⟩ } }
    ((ran (.pttRelease .c) s).ann.entries.map fun e => (e.phase, e.endReason)) = [(.tail, some .short)] := by decide

/-- R157: a press of ALARM_IN sets the latch in RUN and leaves it in CONFIG. -/
theorem test_alarm_in_press : (ran .alarmInPress inRun).coach.latch = true ∧
    (ran .alarmInPress .reset).coach.latch = false := by decide

/-- R156: a release changes the filtered state alone. -/
theorem test_alarm_in_release : (ran .alarmInRelease (ran .alarmInPress inRun)).coach.latch = true := by decide

/-- R155: the third differing sample in a row gives the edge; an equal one ends the run. -/
theorem test_contact_sample :
    let s := inRun.setFilter .alarmIn ⟨false, 2⟩
    (ran (.contactSample .alarmIn true) s).coach.alarmIn = ⟨true, 0⟩ ∧
      (ran (.contactSample .alarmIn false) s).coach.alarmIn = ⟨false, 0⟩ := by decide

/-! ## Hypotheses met: for each statement of Certificates/Slice0, a state and operands for each of its clauses -/

theorem test_hyp_StepTakesFrontCommand : inRun.pending = [] := by decide

theorem test_hyp_ExecKeepsQueue : ∃ t, exec .commit { inRun with pending := [.start] } = .next t := ⟨_, rfl⟩

theorem test_hyp_ResetNLowTakesNothing :
    { inRun with resetLow := true }.resetLow = true ∧ Instr.commit ≠ .resetNHigh ∧ Up inRun := by decide

theorem test_hyp_RequestsWaitForEarlierReplies :
    requestKind .commit = some 4 ∧ requestKind (.eventsEnable 0) = some 0x21 ∧ Up (sending false) ∧
    (sending false).link.tx = .sending ⟨0x1E, 0, []⟩ false ∧ Up .reset ∧ State.reset.link.tx = .free := by decide

/-- A state with a command waiting that the invariants hold of. -/
def waiting : State := { present with pending := [.commit] }

theorem test_hyp_EveryStepKeepsRanges : RangesHold waiting ∧ ∃ t, step waiting = .next t := by
  refine ⟨?_, _, rfl⟩
  exact {
    berths := by decide, lines := by decide, drops := by decide, programmes := by decide, recorded := by decide
    port := by decide, entries := by decide, driver := by decide, crew := by decide, finished := by decide
    patterns := by decide
    voices := fun v p h => by cases v <;> cases h
    mix := by decide, coach := by decide
    link := by
      refine ⟨by decide, by decide, by decide, by decide, by decide, by decide, by decide, by decide, ?_⟩
      exact trivial }

theorem test_hyp_EveryStepKeepsLanes : LanesHold waiting ∧ ∃ t, step waiting = .next t :=
  ⟨lanesHold_of_check (by decide), _, rfl⟩

theorem test_hyp_EveryStepKeepsAnnouncements : AnnouncementsHold { withQueued 9 with pending := [.commit] } ∧
    ∃ t, step { withQueued 9 with pending := [.commit] } = .next t :=
  ⟨announcementsHold_of_check (by decide), _, rfl⟩

/-- The hypotheses of DeviceResetBerthRecords, DeviceResetLineControllers and DeviceResetOtherBlocks: both causes. -/
theorem test_hyp_AfterDeviceReset : { inRun with resetLow := true }.resetLow = true ∧ Up (sending true) ∧
    (sending true).link.tx = .sending ⟨0x1E, 0, []⟩ true := by decide

theorem test_hyp_BerthAndMixReads : Ready .reset ∧ 48 ≤ (48 : Byte).toNat ∧ (47 : Byte).toNat = (47 : BerthNo).val ∧
    (0 : Byte).toNat = (0 : BerthNo).val := by decide

/-- Line 3 with its lane 4 carrying programme 7 for two berths. -/
def carrying : State :=
  { State.reset with
    lanes := State.reset.lanes.set 3 { LaneSet.reset with lanes := LaneSet.reset.lanes.set 3 (.carrying 7 2) } }

theorem test_hyp_LineLinkAndLaneReads : Ready carrying ∧ 4 ≤ (4 : Byte).toNat ∧ 48 ≤ (48 : Byte).toNat ∧
    (3 : Byte).toNat = (3 : LineNo).val ∧ (carrying.laneSet 3).lanes.get 3 = .carrying 7 2 ∧
    (carrying.laneSet 3).lanes.get 0 = .free ∧ (47 : Byte).toNat = (47 : BerthNo).val := by decide

theorem test_hyp_ProgrammeAndChimeReads : Ready .reset ∧ 8 ≤ (8 : Byte).toNat ∧ (8 : Byte) ≠ 0xFF ∧ 4 ≤ (4 : Byte).toNat ∧
    (7 : Byte).toNat = (7 : ProgrammeNo).val ∧ (3 : Byte).toNat = (3 : PatternNo).val ∧
    ((State.reset.chimes.patterns.get 3)[3]?).isSome = true := by decide

/-- A finished record of handle 9. -/
def nine : FinishedRecord := ⟨9, .r, 3, .stale, 0, 0, 0⟩

/-- A crew entry in LIVE, and a finished record. -/
def readable : State :=
  { crewIn plain .live 0 with ann := { (crewIn plain .live 0).ann with finished := [nine] } }

theorem test_hyp_AnnouncementAndFinishedReads : Ready readable ∧ (2 : Byte) ≠ 0 ∧ (2 : Byte) ≠ 1 ∧ 3 ≤ (3 : Byte).toNat ∧
    (1 : Byte) ≠ 0 ∧ readable.ann.entries.find? (fun e => e.handle = 1) ≠ none ∧
    readable.ann.entries.find? (fun e => e.handle = 9) = none ∧
    readable.ann.finished.find? (fun r => r.handle = 9) = some nine ∧
    readable.ann.finished.find? (fun r => r.handle = 8) = none ∧ (2 : Byte).toNat = codeSource .r ∧
    (1 : Byte).toNat = codeSource .c ∧ 8 ≤ (8 : Byte).toNat ∧ (7 : Byte).toNat < 8 ∧
    readable.ann.finished[(0 : Byte).toNat + 0]? = some nine ∧ nine.cls ≤ 3 := by decide

theorem test_hyp_CoachStatusAndEventsReads : Ready inRun := by decide

/-! ### Chapter 1 -/

theorem test_hyp_BerthStageStoresNamedFields : Ready present ∧ 48 ≤ (48 : Byte).toNat ∧
    (47 : Byte).toNat = (47 : BerthNo).val ∧ present.presence 47 = .excluded ∧ (1 : Byte).toNat = (1 : BerthNo).val ∧
    present.presence 1 ≠ .excluded ∧ present.commitPending = false ∧ Ready { present with commitPending := true } ∧
    { present with commitPending := true }.presence 1 ≠ .excluded ∧
    (∃ v : Byte, some (8 : Byte) = some v ∧ 8 ≤ v.toNat ∧ v ≠ 0xFF) ∧
    (∀ v : Byte, some (0xFF : Byte) = some v → ¬ (8 ≤ v.toNat ∧ v ≠ 0xFF)) ∧
    (∀ v : Byte, some (1 : Byte) = some v → ¬ 2 ≤ v.toNat) ∧ ∀ v : Byte, some (7 : Byte) = some v → ¬ 8 ≤ v.toNat := by
  refine ⟨by decide, by decide, by decide, by decide, by decide, by decide, by decide, by decide, by decide,
    ⟨8, by decide⟩, ?_, ?_, ?_⟩ <;> rintro v ⟨⟩ <;> decide

theorem test_hyp_StageDiscardEmptiesStaging : Ready committing ∧ committing.commitPending = true ∧ Ready inRun ∧
    inRun.commitPending = false := by decide

/-- Commits pending at the starts of blocks 12, 1, and 0 after the wrap. -/
theorem test_hyp_CommitFallsDueAtPollCycle : Ready committing ∧ committing.commitPending = true ∧ Ready inRun ∧
    inRun.commitPending = false ∧ Up committing ∧ committing.boundary.opened = false ∧
    ((11 : Long) + 1).toNat % 12 = 0 ∧ ((0xFFFFFFFF : Long) + 1).toNat % 12 = 0 ∧ ((12 : Long) + 1).toNat % 12 ≠ 0 := by
  decide

/-- A commit due at block 12, berth 0 with staged fields and berth 1 with none. -/
def dueAtTwelve : State :=
  { between with
    blockCount := 11
    commitPending := true
    berths := between.berths.set 0 { berthOf .present with staged := { StagedRecord.empty with volume := some 9 } } }

theorem test_hyp_CommitDueCarriesStagedFields : Up inRun ∧ (openBoundary inRun).boundary.commitDue = false ∧
    Up dueAtTwelve ∧ (openBoundary dueAtTwelve).boundary.commitDue = true ∧
    (openBoundary dueAtTwelve).staged 0 ≠ StagedRecord.empty ∧ (openBoundary dueAtTwelve).staged 1 = StagedRecord.empty := by
  decide

theorem test_hyp_BerthEditSetsDestination : Ready present ∧ 5 ≤ (5 : Byte).toNat ∧ 7 ≤ (7 : Byte).toNat ∧
    8 ≤ (8 : Byte).toNat ∧ (1 : Byte).toNat < 2 ∧
    [TestMode.none, .allSet, .allClear, .anySet, .anyClear][(4 : Byte).toNat]? = some .anyClear ∧
    [EditOp.set, .clear, .toggle, .copy, .and, .or, .xor][(6 : Byte).toNat]? = some .xor ∧ 2 ≤ (2 : Byte).toNat ∧
    (7 : Byte).toNat < 8 := by decide

/-! ### Chapters 2 and 4 -/

theorem test_hyp_LineSetupStoresFittedCount : Ready present ∧ LanesHold present ∧ 4 ≤ (4 : Byte).toNat ∧
    (0 : Byte).toNat = (0 : LineNo).val ∧ present.device = .run ∧ (present.line 0).state ≠ .off ∧
    (3 : Byte).toNat = (3 : LineNo).val ∧ (present.line 3).state = .off ∧ 12 < (13 : Byte).toNat ∧ (12 : Byte).toNat ≤ 12 :=
  ⟨by decide, lanesHold_of_check (by decide), by decide⟩

theorem test_hyp_LinesStopAndFault : Ready present ∧ LanesHold present ∧ Ready .reset ∧ State.reset.device = .config ∧
    4 ≤ (4 : Byte).toNat ∧ present.device = .run ∧ (present.line 3).state = .off ∧ (present.line 0).state ≠ .off ∧
    Up present ∧ (present.line 3).slotOpen = false ∧ (present.line 0).slotOpen = true ∧
    (present.line 0).state = .running ∧ LanesHold .reset :=
  ⟨by decide, lanesHold_of_check (by decide), by decide, by decide, by decide, by decide, by decide, by decide, by decide,
    by decide, by decide, by decide, lanesHold_of_check (by decide)⟩

/-- Line 3 FAULTED with one slot fitted. -/
def faulted : State := { inRun with lines := inRun.lines.set 3 { Line.reset with state := .faulted, fitted := 1 } }

theorem test_hyp_LineRestartAndBerthLinkClear : Ready .reset ∧ State.reset.device = .config ∧ Ready present ∧
    present.device = .run ∧ 4 ≤ (4 : Byte).toNat ∧ (present.line 0).state = .running ∧ (present.line 3).fitted = 0 ∧
    Ready faulted ∧ (faulted.line 3).state ≠ .running ∧ (faulted.line 3).fitted ≠ 0 ∧ 48 ≤ (48 : Byte).toNat ∧
    present.presence 47 = .excluded ∧ present.presence 1 = .absent ∧ present.presence 0 = .present ∧
    (oneLine .conflict .clear).presence 0 = .conflict ∧ Ready (oneLine .conflict .clear) := by decide

theorem slot_of_oneLine (p : Presence) (r : LinkRecord) : SlotOf (oneLine p r) 0 0 :=
  ⟨rfl, rfl, by decide, rfl, Nat.zero_lt_succ 1⟩

/-- A lost reply of each class; miss counts of 14, which stays, and 15, which drops the berth. -/
theorem test_hyp_LostRepliesRaiseMissCount :
    (∀ m, m = 14 ∨ m = 15 → SlotOf (oneLine .present { LinkRecord.clear with missCount := m }) 0 0) ∧
    LanesHold (oneLine .present { LinkRecord.clear with missCount := 14 }) ∧
    LanesHold (oneLine .present { LinkRecord.clear with missCount := 15 }) ∧ LanesHold absent ∧
    absent.presence 0 = .absent ∧ present.presence 0 = .present ∧
    ((oneLine .present { LinkRecord.clear with missCount := 14 }).linkOf 0).missCount < 15 ∧
    15 ≤ ((oneLine .present { LinkRecord.clear with missCount := 15 }).linkOf 0).missCount ∧ SentNoReply .undecoded ∧
    SentNoReply (.sent [1, 2, 3]) ∧ SentNoReply (.sent [1, 2, 3, 4, 5]) ∧ (1 : Byte) + 2 + 3 + 4 ≠ 0 :=
  ⟨fun _ _ => slot_of_oneLine _ _, lanesHold_of_check (by decide), lanesHold_of_check (by decide),
    lanesHold_of_check (by decide), by decide, by decide, by decide, by decide, trivial, by simp [SentNoReply],
    by simp [SentNoReply], by decide⟩

theorem test_hyp_CollisionsAndSlotsNotExamined : SlotOf present 0 0 ∧ LanesHold present ∧ present.presence 0 = .present ∧
    absent.presence 0 = .absent ∧ LanesHold absent ∧
    ((oneLine .present { LinkRecord.clear with collisionRun := 1 }).linkOf 0).collisionRun < 2 ∧
    2 ≤ ((oneLine .present { LinkRecord.clear with collisionRun := 2 }).linkOf 0).collisionRun ∧
    (∀ b, SlotOf (oneLine .conflict .clear) 0 b → (oneLine .conflict .clear).presence b = .conflict) ∧
    ((oneLine .conflict .clear).line 0).slotOpen = true ∧
    (∀ b, SlotOf { present with blockCount := 2 } 0 b → { present with blockCount := 2 }.presence b = .conflict) ∧
    (present.line 3).slotOpen = false := by
  refine ⟨slot_of_oneLine _ _, lanesHold_of_check (by decide), by decide, by decide, lanesHold_of_check (by decide),
    by decide, by decide, fun b h => ?_, by decide, fun b h => ?_, by decide⟩
  · have hl := h.line
    have hk : (slotOf b).val = 0 := h.called
    clear h
    revert b; decide
  · have hk : (slotOf b).val = 2 := h.called
    have hf : (slotOf b).val < 2 := h.fitted
    omega

/-- Every programme has pictures. -/
def pictures : Media :=
  { Media.reset with programmes := Media.reset.programmes.map fun r => { r with picture := true } }

/-- A berth of the given presence with Picture ON, on programme `p`. -/
def viewer (pr : Presence) (p : ProgrammeNo) (lane : LaneField) : Berth :=
  { Berth.reset with live := { Berth.reset.live with presence := pr, programme := some p, picture := true, lane := lane } }

/-- RUN, line 0 RUNNING with twelve slots fitted and the reply slot of berth 0 under way; lane i carries programme `ps[i]` for
berth i + 1 alone, berth 0 is `own`, and the others are ABSENT. -/
def busyLine (ps : List ProgrammeNo) (own : Berth) (waits : List BerthNo) : State :=
  { State.reset with
    device := .run
    lines := State.reset.lines.set 0 { Line.reset with state := .running, fitted := 12, slotOpen := true }
    lanes := State.reset.lanes.set 0 { LaneSet.reset with
      lanes := .ofFn fun n => (ps[n.val]?).elim .free fun p => .carrying p 1
      waits := waits }
    media := pictures
    berths := .ofFn fun b =>
      if b.val = 0 then own
      else if 12 ≤ b.val then .reset
      else match List.finRange laneCount |>.find? fun n => n.val + 1 == b.val with
        | none => berthOf .absent
        | some n => (ps[n.val]?).elim (berthOf .absent) fun p => viewer .present p (.lane n) }

theorem slot_of_busyLine (ps : List ProgrammeNo) (own : Berth) (waits : List BerthNo) : SlotOf (busyLine ps own waits) 0 0 :=
  ⟨rfl, rfl, by decide, rfl, Nat.zero_lt_succ 11⟩

/-- No picture wanted; the programme carried already; a lane FREE; and no lane FREE. -/
theorem test_hyp_GoodReplyFromAbsentBerth : SlotOf absent 0 0 ∧ LanesHold absent ∧ absent.presence 0 = .absent ∧
    (11 : Byte) + 255 + 7 + 239 = 0 ∧ (absent.live 0).picture = false ∧
    LanesHold (busyLine [7] (viewer .absent 7 .none) []) ∧
    ((busyLine [7] (viewer .absent 7 .none) []).laneSet 0).lanes.get 0 = .carrying 7 1 ∧
    LanesHold (busyLine [0] (viewer .absent 7 .none) []) ∧
    (∀ n, ¬ Carries (busyLine [0] (viewer .absent 7 .none) []) 0 n 7) ∧
    ((busyLine [0] (viewer .absent 7 .none) []).laneSet 0).lanes.get 1 = .free ∧
    LanesHold (busyLine [0, 1, 2, 3] (viewer .absent 7 .none) []) ∧
    (∀ n, ¬ Carries (busyLine [0, 1, 2, 3] (viewer .absent 7 .none) []) 0 n 7) ∧
    (∀ n, ((busyLine [0, 1, 2, 3] (viewer .absent 7 .none) []).laneSet 0).lanes.get n ≠ .free) ∧
    (busyLine [0, 1, 2, 3] (viewer .absent 7 .none) []).presence 0 = .absent := by
  simp only [carries_iff]
  exact ⟨slot_of_oneLine _ _, lanesHold_of_check (by decide), by decide, by decide, by decide,
    lanesHold_of_check (by decide), by decide, lanesHold_of_check (by decide), by decide, by decide,
    lanesHold_of_check (by decide), by decide, by decide, by decide⟩

/-- Berth 0 PRESENT with LOCK set. -/
def locked : State := present.modLive 0 fun r => { r with attrs := 8 }

/-- Berth 0 PRESENT with a call queued. -/
def calling : State := { present with coach := { Coach.reset with calls := [⟨0, 0, .call⟩] } }

theorem test_hyp_GoodReplyFromPresentBerth : SlotOf present 0 0 ∧ present.presence 0 = .present ∧
    (0 : Byte) + 0 + 0 + 0 = 0 ∧ (12 : Byte) + 0 + 1 + 243 = 0 ∧ 12 ≤ (12 : Byte).toNat ∧
    (0 : Byte).getLsbD 0 = (present.linkOf 0).takenToggle ∧ locked.presence 0 = .present ∧
    hasAttr (locked.live 0).attrs attrLock = true ∧ (9 : Byte).toNat ≤ 9 ∧ (10 : Byte) + 0 + 1 + 245 = 0 ∧
    (1 : Byte).getLsbD 0 ≠ (present.linkOf 0).takenToggle ∧ calling.coach.calls.any (fun c => c.berth == 0) = true ∧
    present.coach.calls.any (fun c => c.berth == 0) = false ∧ (11 : Byte) + 0 + 1 + 244 = 0 :=
  ⟨slot_of_oneLine _ _, by decide⟩

/-- The first and the last request, and one whose argument is the last programme. -/
theorem test_hyp_BerthRequestsChangeLiveRecord : SlotOf present 0 0 ∧ present.presence 0 = .present ∧
    (1 : Byte) + 7 + 1 + 247 = 0 ∧ (9 : Byte) + 0 + 1 + 246 = 0 ∧
    (1 : Byte).getLsbD 0 ≠ (present.linkOf 0).takenToggle ∧ 1 ≤ (1 : Byte).toNat ∧ (9 : Byte).toNat ≤ 9 ∧
    hasAttr (present.live 0).attrs attrLock = false ∧ some (7 : ProgrammeNo) ≠ (present.live 0).programme :=
  ⟨slot_of_oneLine _ _, by decide⟩

/-- Berth 0 holding lane 1, which carries programme 0 for it alone, or for a second berth too; berths may wait. -/
def holding (count : Nat) (waits : List BerthNo) : State :=
  let s := busyLine [] (viewer .present 0 (.lane 0)) waits
  let t := s.setBerths (s.berths.set 11 (viewer .present 7 .waiting))
  t.modLaneSet 0 fun x => { x with lanes := x.lanes.set 0 (.carrying 0 count) }

theorem test_hyp_ReleasesAndHandOvers : (present.live 0).lane = .none ∧ ((holding 1 [11]).live 11).lane = .waiting ∧
    ((holding 1 []).live 0).lane = .lane 0 ∧ ((holding 2 []).laneSet 0).lanes.get 0 = .carrying 0 2 ∧
    ((holding 1 []).laneSet 0).lanes.get 0 = .carrying 0 1 ∧ (0 : BerthNo) ∉ ((holding 1 [11]).laneSet 0).waits ∧
    ((holding 1 []).laneSet 0).waits = [] ∧ ((holding 1 [11]).laneSet 0).waits = 11 :: [] ∧
    ((holding 1 [11]).live 11).programme = some 7 := by decide

/-- PICTURE OFF of a berth that holds a lane. -/
theorem test_hyp_ReleasesAndHandOvers_off :
    let s := busyLine [1] (viewer .present 0 (.lane 1)) []
    SlotOf s 0 0 ∧ s.presence 0 = .present ∧ (5 : Byte) + 0 + 1 + 250 = 0 ∧ (1 : Byte).getLsbD 0 ≠ (s.linkOf 0).takenToggle ∧
    hasAttr (s.live 0).attrs attrLock = false ∧ (s.live 0).picture = true := ⟨slot_of_busyLine _ _ _, by decide⟩

/-! ### Chapter 3 -/

theorem test_hyp_ProgrammeSetupAndTrim : Ready inRun ∧ inRun.device = .run ∧ Ready .reset ∧ State.reset.device = .config ∧
    8 ≤ (8 : Byte).toNat ∧ ((0 : Byte) ≠ 1 ∧ (0 : Byte) ≠ 2) ∧ ((3 : Byte) ≠ 1 ∧ (3 : Byte) ≠ 2) ∧ 63 < (64 : Byte).toNat ∧
    (7 : Byte).toNat = (7 : ProgrammeNo).val ∧ (63 : Byte).toNat ≤ 63 ∧
    (∃ v : Byte, some (64 : Byte) = some v ∧ 63 < v.toNat) ∧ ∀ v : Byte, some (63 : Byte) = some v → v.toNat ≤ 63 := by
  refine ⟨by decide, by decide, by decide, by decide, by decide, by decide, by decide, by decide, by decide, by decide,
    ⟨64, by decide⟩, ?_⟩
  rintro v ⟨⟩; decide

/-- A frame of each kind of fault: kinds 0 and 4, an AUDIO length of 95, a PICTURE length of 0 and of 1401, a payload cut
short, programme 8, track 1 of a one-track programme, and a PICTURE of a programme with no pictures. -/
theorem test_hyp_MediaFramesDiscarded : Up inRun ∧ (⟨false, 0x8C51, []⟩ : EthernetFrame).checkGood = false ∧
    (⟨true, 0x8C50, []⟩ : EthernetFrame).etherType ≠ 0x8C51 ∧ (frame 0 7 0 0 0 96).checkGood = true ∧
    (frame 0 7 0 0 0 96).etherType = 0x8C51 ∧
    (frame 0 7 0 0 0 96).bytes = 0 :: 7 :: 0 :: 0 :: 0 :: 0 :: 96 :: List.replicate 96 0x11 ∧
    ((4 : Byte) ≠ 1 ∧ (4 : Byte) ≠ 2 ∧ (4 : Byte) ≠ 3) ∧ (List.replicate 95 (0 : Byte)).length < 96 ∧
    256 * (0 : Byte).toNat + (95 : Byte).toNat ≠ 96 ∧ 256 * (0 : Byte).toNat + (0 : Byte).toNat = 0 ∧
    1400 < 256 * (5 : Byte).toNat + (121 : Byte).toNat ∧ ¬ 1400 < 256 * (5 : Byte).toNat + (120 : Byte).toNat ∧
    8 ≤ (8 : Byte).toNat ∧ (7 : Byte).toNat = (7 : ProgrammeNo).val ∧ 2 ≤ (2 : Byte).toNat ∧
    (inRun.programme 7).trackCount ≤ (1 : Byte).toNat ∧ (inRun.programme 7).picture = false := by decide

/-- Distances 0, 3, 4, 127, 128 and 255 from the expected sequence, which is 5. -/
theorem test_hyp_AudioArrivals : Up (flowing 0) ∧ (frame 1 7 0 5 0 96).checkGood = true ∧
    (frame 1 7 0 5 0 96).etherType = 0x8C51 ∧
    (frame 1 7 0 5 0 96).bytes = 1 :: 7 :: 0 :: 5 :: 0 :: 0 :: 96 :: List.replicate 96 0x11 ∧
    96 ≤ (List.replicate 96 (0x11 : Byte)).length ∧ (7 : Byte).toNat = (7 : ProgrammeNo).val ∧
    (0 : Byte).toNat = (0 : TrackNo).val ∧ (0 : TrackNo).val < ((flowing 0).programme 7).trackCount ∧
    ((flowing 0).track 7 0).state = .flowing ∧ (inRun.track 7 0).state ≠ .flowing ∧
    ((8 : Byte) - ((flowing 0).track 7 0).expected).toNat = 3 ∧ ((9 : Byte) - ((flowing 0).track 7 0).expected).toNat = 4 ∧
    ((132 : Byte) - ((flowing 0).track 7 0).expected).toNat = 127 ∧
    ((133 : Byte) - ((flowing 0).track 7 0).expected).toNat = 128 ∧
    ((4 : Byte) - ((flowing 0).track 7 0).expected).toNat = 255 := by decide

/-- An IDLE track, one with a block in slot 0, and misses that bring the miss run to 249 and to 250. -/
theorem test_hyp_TracksPlayAndStarve : Up (flowing 248) ∧ (flowing 248).boundary.opened = false ∧
    (inRun.track 7 0).state ≠ .flowing ∧ ((flowing 248).track 7 0).state = .flowing ∧
    ((ran (.mediaFrame (frame 1 7 0 5 0 96)) (flowing 248)).track 7 0).slots.get 0 ≠ none ∧
    ((flowing 248).track 7 0).slots.get 0 = none ∧ ((flowing 248).track 7 0).missRun < 249 ∧
    249 ≤ ((flowing 249).track 7 0).missRun ∧ ((openBoundary (flowing 249)).track 7 0).due = true ∧
    ((openBoundary (flowing 249)).track 7 0).state = .flowing ∧ 249 ≤ ((openBoundary (flowing 249)).track 7 0).missRun ∧
    ((openBoundary (flowing 249)).track 7 0).slots.get 0 = none ∧
    ((openBoundary (flowing 248)).track 7 0).missRun < 249 := by decide

/-- Pictures of 1 and 1400 bytes for a lane that carries programme 7, with 7 and with 8 packets in its send queue, and for none;
recorded blocks for the target with 63 and with 64 blocks held, and for another handle. -/
theorem test_hyp_PictureAndRecordedArrivals : Up (busyLine [7] (berthOf .absent) []) ∧
    256 * (0 : Byte).toNat + (1 : Byte).toNat = 1 ∧ 256 * (5 : Byte).toNat + (120 : Byte).toNat = 1400 ∧
    1400 ≤ (List.replicate 1493 (0 : Byte)).length ∧ (7 : Byte).toNat = (7 : ProgrammeNo).val ∧
    ((busyLine [7] (berthOf .absent) []).programme 7).picture = true ∧
    ((busyLine [7] (berthOf .absent) []).line 0).state = .running ∧ Carries (busyLine [7] (berthOf .absent) []) 0 0 7 ∧
    (∀ n, ¬ Carries (busyLine [] (berthOf .absent) []) 0 n 7) ∧ (List.replicate 7 ([] : Packet)).length < 8 ∧
    8 ≤ (List.replicate 8 ([] : Packet)).length ∧ recordedLive.media.recorded.target = some 1 ∧
    recordedLive.media.recorded.target ≠ some 2 ∧ (List.replicate 63 (⟨.silence, false⟩ : RecordedBlock)).length < 64 ∧
    64 ≤ (List.replicate 64 (⟨.silence, false⟩ : RecordedBlock)).length ∧ Up recordedLive ∧
    96 ≤ (List.replicate 96 (0x11 : Byte)).length := by
  simp only [carries_iff]
  decide

/-! ### Chapters 5 and 6 -/

theorem test_hyp_AnnounceTestsAndIdleSource : Ready .reset ∧ AnnouncementsHold .reset ∧ State.reset.device = .config ∧
    Ready inRun ∧ AnnouncementsHold inRun ∧ inRun.device = .run ∧ RefusedFields { announceBody with cls := 4 } ∧
    RefusedFields { announceBody with mode := 5 } ∧ RefusedFields { announceBody with chime := 4 } ∧
    ¬ RefusedFields { announceBody with cls := 3, mode := 4, chime := 3 } ∧ entriesOf inRun .r < 14 ∧
    ∀ e ∈ inRun.ann.entries, activeRecorded e = false := by
  unfold RefusedFields
  exact ⟨by decide, announcementsHold_of_check (by decide), by decide, by decide, announcementsHold_of_check (by decide),
    by decide⟩

/-- A table with fourteen recorded entries: one in LIVE and thirteen QUEUED. -/
def fullTable : State :=
  withTable ((List.range 14).map fun i =>
      { anEntry .r plain (if i = 0 then .live else .queued) 0 with
        handle := BitVec.ofNat 8 (i + 1), admission := BitVec.ofNat 32 (i + 1) })
    ((List.range 13).map fun i => BitVec.ofNat 8 (i + 2)) (some 1)

theorem test_hyp_AnnounceTestsAndIdleSource_full : Ready fullTable ∧ AnnouncementsHold fullTable ∧
    14 ≤ entriesOf fullTable .r := ⟨by decide, announcementsHold_of_check (by decide), by decide⟩

/-- A busy recorded source of class 2: a new entry of class 2 is queued, one of class 3 preempts; one of class 3 is queued
behind an active entry of class 3. -/
theorem test_hyp_AnnounceQueuesOrPreempts : Ready (withQueued 9) ∧ AnnouncementsHold (withQueued 9) ∧
    (withQueued 9).device = .run ∧ ¬ RefusedFields { announceBody with cls := 3 } ∧ entriesOf (withQueued 9) .r < 14 ∧
    anEntry .r plain .live 0 ∈ (withQueued 9).ann.entries ∧ activeRecorded (anEntry .r plain .live 0) = true ∧
    (2 : Byte).toNat < 3 ∧ (anEntry .r plain .live 0).params.cls < 3 ∧
    AnnouncementsHold (withTable [anEntry .r { plain with cls := 3 } .live 0] [] (some 1)) := by
  unfold RefusedFields
  exact ⟨by decide, announcementsHold_of_check (by decide), by decide, by decide, by decide, by decide, by decide, by decide,
    by decide, announcementsHold_of_check (by decide)⟩

theorem test_hyp_PttProfileSetStoresProfile : Ready .reset ∧ 1 < (2 : Byte).toNat ∧ (1 : Byte).toNat ≤ 1 ∧
    RefusedFields { announceBody with chime := 0xFE } ∧ ¬ RefusedFields announceBody := by
  unfold RefusedFields
  decide

/-- The filtered state of PTT_C ACTIVE. -/
def held (s : State) : State := { s with coach := { s.coach with pttC := ⟨true, 0⟩ } }

/-- The crew's entry in each phase that a push-to-talk source can have. -/
theorem crew_holds : AnnouncementsHold (crewIn plain .lead 3) ∧ AnnouncementsHold (chiming 0 false 0) ∧
    AnnouncementsHold (crewIn plain .live 0) ∧ AnnouncementsHold (crewIn plain .tail 4) :=
  ⟨announcementsHold_of_check (by decide), announcementsHold_of_check (by decide), announcementsHold_of_check (by decide),
    announcementsHold_of_check (by decide)⟩

theorem test_hyp_PttPressAdmitsOrReturns : Up inRun ∧ AnnouncementsHold inRun ∧ ((held inRun).filter .pttC).active = true ∧
    AnnouncementsHold (held inRun) ∧ (inRun.filter .pttC).active = false ∧ State.reset.device = .config ∧
    (State.reset.filter .pttD).active = false ∧ inRun.device = .run ∧ (∀ e ∈ inRun.ann.entries, e.source ≠ .c) ∧
    ((crewIn plain .live 0).filter .pttC).active = false ∧ (anEntry .c plain .live 0) ∈ (crewIn plain .live 0).ann.entries :=
  ⟨by decide, announcementsHold_of_check (by decide), by decide, announcementsHold_of_check (by decide), by decide⟩

theorem test_hyp_PttReleaseByPhase : Up inRun ∧ (inRun.filter .pttC).active = false ∧
    AnnouncementsHold (held inRun) ∧ (∀ e ∈ (held inRun).ann.entries, e.source ≠ .c) ∧
    AnnouncementsHold (held (crewIn plain .lead 3)) ∧ AnnouncementsHold (held (chiming 0 false 0)) ∧
    AnnouncementsHold (held (crewIn plain .live 0)) ∧ AnnouncementsHold (held (crewIn plain .tail 4)) ∧
    ((held (crewIn plain .lead 3)).filter .pttC).active = true ∧
    anEntry .c plain .lead 3 ∈ (held (crewIn plain .lead 3)).ann.entries :=
  ⟨by decide, by decide, announcementsHold_of_check (by decide), by decide, announcementsHold_of_check (by decide),
    announcementsHold_of_check (by decide), announcementsHold_of_check (by decide), announcementsHold_of_check (by decide),
    by decide, by decide⟩

theorem test_hyp_CutByPhaseAndMode : Ready .reset ∧ State.reset.device = .config ∧ AnnouncementsHold .reset ∧
    Ready inRun ∧ AnnouncementsHold inRun ∧ 1 < (2 : Byte).toNat ∧ (∀ e ∈ inRun.ann.entries, e.handle ≠ 1) ∧
    Ready (withQueued 9) ∧ AnnouncementsHold (withQueued 9) ∧
    ((withQueued 9).ann.entries.map fun e => (e.handle, e.phase)) = [(1, .live), (2, .queued)] ∧
    AnnouncementsHold withTail ∧ (withTail.ann.entries.map fun e => (e.handle, e.phase)) = [(1, .tail), (2, .queued)] ∧
    withTail.ann.queue = 2 :: [] ∧ recordedLive.ann.queue = [] ∧ AnnouncementsHold recordedLive ∧ (1 : Byte).toNat ≤ 1 :=
  ⟨by decide, by decide, announcementsHold_of_check (by decide), by decide, announcementsHold_of_check (by decide), by decide,
    by decide, by decide, announcementsHold_of_check (by decide), by decide, announcementsHold_of_check (by decide),
    by decide, by decide, by decide, announcementsHold_of_check (by decide), by decide⟩

/-- A deadline timer of 1 and one of 2; a tail timer of 0 with a queue and, for the crew's entry, with none. -/
theorem test_hyp_DeadlineExpiryAndTailEnd : Up (withQueued 1) ∧ AnnouncementsHold (openBoundary (withQueued 1)) ∧
    ((openBoundary (withQueued 1)).ann.entries.map fun e => (e.handle, e.due, e.phase, e.deadline, e.timer)) =
      [(1, true, .live, 0, 0), (2, true, .queued, 9, 1)] ∧ AnnouncementsHold (openBoundary (withQueued 2)) ∧
    ((openBoundary (withQueued 2)).ann.entries.map fun e => e.timer) = [0, 2] ∧ AnnouncementsHold (openBoundary withTail) ∧
    ((openBoundary withTail).ann.entries.map fun e => (e.due, e.phase, e.timer)) = [(true, .tail, 0), (true, .queued, 0)] ∧
    (openBoundary withTail).ann.queue = 2 :: [] ∧
    (∀ x ∈ (openBoundary withTail).ann.entries, x.handle = 2 → 1 ≤ x.params.lead) ∧
    AnnouncementsHold (openBoundary (crewIn plain .tail 0)) ∧ AnnouncementsHold (openBoundary (crewIn plain .tail 1)) :=
  ⟨by decide, announcementsHold_of_check (by decide), by decide, announcementsHold_of_check (by decide), by decide,
    announcementsHold_of_check (by decide), by decide, by decide, by decide, announcementsHold_of_check (by decide),
    announcementsHold_of_check (by decide)⟩

/-- At a BLOCK_START: a QUEUED entry with a deadline timer of 2 behind an active entry whose Tail is 1, and a TAIL timer of
1. -/
theorem test_hyp_DeadlineExpiryAndTailEnd_start :
    let s := withTable [anEntry .r { plain with tail := 1 } .live 0,
      { anEntry .r plain .queued 2 with handle := 2, deadline := 9, admission := 2 }] [2] (some 1)
    Up s ∧ s.boundary.opened = false ∧ AnnouncementsHold s ∧ ActiveStays s ∧
    (s.ann.entries.map fun e => (e.phase, e.deadline, e.timer)) = [(.live, 0, 0), (.queued, 9, 2)] ∧
    AnnouncementsHold (crewIn plain .tail 1) ∧ anEntry .c plain .tail 1 ∈ (crewIn plain .tail 1).ann.entries ∧
    (crewIn plain .tail 1).boundary.opened = false :=
  ⟨by decide, by decide, announcementsHold_of_check (by decide), by decide, by decide, announcementsHold_of_check (by decide),
    by decide, by decide⟩

/-- LEAD timers of 0, with pattern 0 and with none, and of 1. -/
theorem test_hyp_LeadEndStartsChimeOrLive : AnnouncementsHold (openBoundary (crewIn plain .lead 0)) ∧
    AnnouncementsHold (openBoundary (crewIn { plain with chime := some 0 } .lead 0)) ∧
    AnnouncementsHold (openBoundary (crewIn plain .lead 1)) ∧ Up (crewIn plain .lead 0) ∧
    ((openBoundary (crewIn plain .lead 0)).ann.entries.map fun e => (e.handle, e.due, e.timer, e.params.chime)) =
      [(1, true, 0, none)] ∧
    (openBoundary (crewIn { plain with chime := some 0 } .lead 0)).chimes.patterns.get 0 =
      ⟨some 1, 4, 300, 8, 20⟩ :: [⟨some 5, 4, 400, 8, 20⟩] ∧
    StaysLive (openBoundary (crewIn plain .lead 0)) (anEntry .c plain .lead 0) ∧
    Up (crewIn plain .lead 1) ∧ (crewIn plain .lead 1).boundary.opened = false ∧ AnnouncementsHold (crewIn plain .lead 1) ∧
    anEntry .c plain .lead 1 ∈ (crewIn plain .lead 1).ann.entries :=
  ⟨announcementsHold_of_check (by decide), announcementsHold_of_check (by decide), announcementsHold_of_check (by decide),
    by decide, by decide, by decide, ⟨by decide, fun h => by cases h⟩, by decide, by decide,
    announcementsHold_of_check (by decide), by decide⟩

/-- A crew entry in LIVE whose live count is `n`, with a maximum live of 5. -/
def liveFor (n : Nat) : State :=
  withTable [{ anEntry .c { plain with maxLive := 5, tail := 1 } .live 0 with liveCount := n }] [] none

/-- A recorded entry in LIVE whose starvation run is `n`. -/
def starvedFor (n : Nat) : State := withTable [{ anEntry .r plain .live 0 with starvation := n }] [] (some 1)

/-- Live counts of 4 and 5 against a maximum of 5, with a tail of 1; starvation runs of 498 and 499, with none. -/
theorem test_hyp_LiveEndsByMaximumOrStarvation : AnnouncementsHold (openBoundary (liveFor 4)) ∧
    AnnouncementsHold (openBoundary (liveFor 5)) ∧ AnnouncementsHold (openBoundary (starvedFor 498)) ∧
    AnnouncementsHold (openBoundary (starvedFor 499)) ∧ Up (liveFor 5) ∧
    ((openBoundary (liveFor 5)).ann.entries.map fun e => (e.due, e.phase, e.params.maxLive, e.liveCount)) =
      [(true, .live, 5, 5)] ∧
    ((openBoundary (starvedFor 499)).ann.entries.map fun e => (e.due, e.source, e.params.maxLive, e.starvation)) =
      [(true, .r, 0, 499)] ∧ (openBoundary (starvedFor 499)).media.recorded.blocks = [] :=
  ⟨announcementsHold_of_check (by decide), announcementsHold_of_check (by decide), announcementsHold_of_check (by decide),
    announcementsHold_of_check (by decide), by decide, by decide, by decide, by decide⟩

/-- A recorded entry in LIVE whose buffer holds one block, with Tail `n`. -/
def blockFor (n : Nat) (endMarker : Bool) : State :=
  let s := withTable [anEntry .r { plain with tail := n } .live 0] [] (some 1)
  { s with media := { s.media with recorded := { s.media.recorded with blocks := [⟨.silence, endMarker⟩] } } }

/-- At a BLOCK_START: an entry of each kind that stays in LIVE, and an end marker with Tail 0 and with Tail 1. -/
theorem test_hyp_LiveEndsByMaximumOrStarvation_start : Up (liveFor 4) ∧ (liveFor 4).boundary.opened = false ∧
    AnnouncementsHold (liveFor 4) ∧ StaysLive (liveFor 4) { anEntry .c { plain with maxLive := 5, tail := 1 } .live 0 with
      liveCount := 4 } ∧
    AnnouncementsHold (starvedFor 498) ∧ StaysLive (starvedFor 498) { anEntry .r plain .live 0 with starvation := 498 } ∧
    AnnouncementsHold (blockFor 0 false) ∧ StaysLive (blockFor 0 false) (anEntry .r plain .live 0) ∧
    AnnouncementsHold (blockFor 0 true) ∧ AnnouncementsHold (blockFor 1 true) ∧
    (blockFor 1 true).media.recorded.blocks = ⟨.silence, true⟩ :: [] ∧ plain.maxLive = 0 :=
  ⟨by decide, by decide, announcementsHold_of_check (by decide), ⟨by decide, fun h => by cases h⟩,
    announcementsHold_of_check (by decide), ⟨by decide, fun _ => by show (498 : Nat) < 499; decide⟩,
    announcementsHold_of_check (by decide), ⟨by decide, fun _ => rfl⟩,
    announcementsHold_of_check (by decide), announcementsHold_of_check (by decide),
    by decide, by decide⟩

/-! ### Chapter 8 -/

theorem test_hyp_ChimeLoadStoresNotes : Ready (chiming 0 false 0) ∧ 4 ≤ (4 : Byte).toNat ∧
    4 < (List.replicate 5 (⟨0, 4, 1, 0, 0⟩ : NoteBody)).length ∧
    (List.replicate 4 (⟨0, 4, 1, 0, 0⟩ : NoteBody)).length ≤ 4 ∧
    (∃ n ∈ [(⟨8, 4, 1, 0, 0⟩ : NoteBody)], 8 ≤ n.tone.toNat ∧ n.tone ≠ 0xFF) ∧
    (¬ ∃ n ∈ [(⟨0xFF, 4, 1, 0, 0⟩ : NoteBody), ⟨7, 4, 1, 0, 0⟩], 8 ≤ n.tone.toNat ∧ n.tone ≠ 0xFF) ∧
    (1 : Byte).toNat = (1 : PatternNo).val ∧
    (∃ v q, ((chiming 0 false 0).voice v).playing = some q ∧ q.pattern = 1) ∧ (3 : Byte).toNat = (3 : PatternNo).val ∧
    ¬ ∃ v q, ((chiming 0 false 0).voice v).playing = some q ∧ q.pattern = 3 := by
  refine ⟨by decide, by decide, by decide, by decide, by decide, by decide, by decide, ⟨.c, _, rfl, rfl⟩, by decide, ?_⟩
  rintro ⟨v, q, h, hp⟩
  cases v <;> cases h
  cases hp

/-- Voice C in its first note before its last block, at its end with a note to follow, and at its pattern's end with early
release clear and set; voice D IDLE. -/
theorem test_hyp_VoiceAdvances : AnnouncementsHold (openBoundary (chiming 0 false 0)) ∧
    AnnouncementsHold (openBoundary (chiming 0 false 1)) ∧ AnnouncementsHold (openBoundary (chiming 1 false 1)) ∧
    AnnouncementsHold (openBoundary (chiming 1 true 1)) ∧ Up (chiming 0 false 0) ∧
    ((openBoundary (chiming 0 false 0)).voice .d).playing = none ∧
    ((openBoundary (chiming 0 false 0)).voice .c).due = true ∧
    ((openBoundary (chiming 0 false 0)).voice .c).playing.map (fun q => (q.noteIndex, q.blocksInto)) = some (0, 0) ∧
    ((openBoundary (chiming 0 false 1)).voice .c).playing.map (fun q => (q.noteIndex, q.blocksInto)) = some (0, 1) ∧
    ((openBoundary (chiming 1 true 1)).voice .c).playing.map (fun q => (q.noteIndex, q.blocksInto)) = some (1, 1) ∧
    (openBoundary (chiming 0 false 0)).chimes.patterns.get 1 = [⟨some 1, 4, 2, 3, 1⟩, ⟨none, 4, 2, 0, 0⟩] ∧
    StaysLive ((openBoundary (chiming 1 false 1)).modVoice .c fun _ => ⟨none, none, false⟩) (anEntry .c plain .chime 0) :=
  ⟨announcementsHold_of_check (by decide), announcementsHold_of_check (by decide), announcementsHold_of_check (by decide),
    announcementsHold_of_check (by decide), by decide, by decide, by decide, by decide, by decide, by decide, by decide,
    ⟨by decide, fun h => by cases h⟩⟩

/-- At a BLOCK_START: voice C before its note's last block, and at it with a note to follow. -/
theorem test_hyp_VoiceAdvances_start : AnnouncementsHold (chiming 0 false 0) ∧ AnnouncementsHold (chiming 0 false 1) ∧
    (chiming 0 false 0).boundary.opened = false ∧
    ((chiming 0 false 0).voice .c).playing.map (fun q => (q.pattern, q.noteIndex, q.blocksInto)) = some (1, 0, 0) ∧
    ((chiming 0 false 1).voice .c).playing.map (fun q => (q.pattern, q.noteIndex, q.blocksInto)) = some (1, 0, 1) ∧
    (chiming 0 false 0).chimes.patterns.get 1 = [⟨some 1, 4, 2, 3, 1⟩, ⟨none, 4, 2, 0, 0⟩] :=
  ⟨announcementsHold_of_check (by decide), announcementsHold_of_check (by decide), by decide⟩

/-! ### Chapters 7 and 9 -/

/-- A class 2 entry for every zone in LEAD, with berth 0 PRESENT. -/
def leading : State := crewIn plain .lead 3

/-- Berth 0's floor is an entry in TAIL. -/
def fading : State :=
  let s := withTable [{ anEntry .c plain .tail 3 with audience := 1, peak := 1 }] [] none
  { s with mix := s.mix.set 0 { MixState.reset with floor := some 1, duck := 40, duckTarget := 40 } }

/-- A best candidate at berth 0, none with no floor, and none with a floor that fades; berth 1 is not PRESENT. -/
theorem test_hyp_FloorsAfterBlockStart : Up leading ∧ AnnouncementsHold (afterAdvances leading) ∧
    (∃ e, IsBest (afterAdvances leading) 0 e) ∧ (afterAdvances leading).presence 0 = .present ∧
    (afterAdvances leading).presence 1 ≠ .present ∧ AnnouncementsHold (afterAdvances between) ∧
    (∀ e, ¬ IsCandidate (afterAdvances between) 0 e) ∧ ((afterAdvances between).mixOf 0).floor = none ∧
    AnnouncementsHold (afterAdvances fading) ∧ (∀ e, ¬ IsCandidate (afterAdvances fading) 0 e) ∧
    ((afterAdvances fading).mixOf 0).floor = some 1 ∧ (∃ e ∈ (afterAdvances fading).ann.entries, e.handle = 1) := by
  have hl : (afterAdvances leading).ann.entries = [{ anEntry .c plain .lead 2 with blockPhase := some .lead }] := by decide
  have hb : (afterAdvances between).ann.entries = [] := by decide
  have hf : (afterAdvances fading).ann.entries =
      [{ anEntry .c plain .tail 2 with audience := 1, peak := 1, blockPhase := some .tail }] := by decide
  refine ⟨by decide, announcementsHold_of_check (by decide), 
      ⟨{ anEntry .c plain .lead 2 with blockPhase := some .lead }, ⟨?_, by decide, by decide⟩, ?_⟩, by decide, by decide,
    announcementsHold_of_check (by decide), fun e h => ?_, by decide,
    announcementsHold_of_check (by decide), fun e h => ?_, by decide, ?_⟩
  · rw [hl]; exact List.mem_singleton_self _
  · intro f h hne
    have := h.1
    rw [hl, List.mem_singleton] at this
    subst this; exact absurd rfl hne
  · have := h.1
    rw [hb] at this
    cases this
  · have hm := h.1
    rw [hf, List.mem_singleton] at hm
    subst hm
    have := h.2.1
    revert this; decide
  · rw [hf]; exact ⟨_, List.mem_singleton_self _, rfl⟩

/-- Berth 0 PRESENT with no floor, and with a floor. -/
theorem test_hyp_MixAfterBlockStart : Up between ∧ (afterAdvances between).presence 0 = .present ∧
    (ran (.blockStart .silence .silence []) between).floorEntry? 0 = none ∧
    ((ran (.blockStart .silence .silence []) leading).floorEntry? 0).isSome = true ∧ (127 : Nat) = 127 ∧ 126 ≤ 126 := by
  decide

theorem test_hyp_OutboundFrames : Up between ∧ between.boundary.opened = false ∧
    ((afterMixes .silence .silence [] between).line 0).frameDue = true ∧
    ((afterMixes .silence .silence [] between).line 0).state = .running ∧
    ((afterMixes .silence .silence [] between).line 3).frameDue = false ∧ (63 : Nat) ≤ 63 ∧ (127 : Nat) ≤ 127 ∧
    (some 3).getD 0 ≤ 3 := by decide

theorem test_hyp_BlockStartFrame : Up between ∧ between.boundary.opened = false ∧ (∀ l, (between.line l).slotOpen = false) ∧
    between.link.receive = .hunt ∧ between.commitPending = false ∧ Up present ∧ present.boundary.opened = false ∧
    (present.line 0).slotOpen = true ∧ ((12 : Long) + 1).toNat % 12 ≠ 0 := by decide

/-! ### Chapters 10 to 12 -/

theorem test_hyp_CoachSetStoresSettings : Ready .reset ∧ (∃ v : Byte, some (64 : Byte) = some v ∧ 63 < v.toNat) ∧
    (¬ ∃ v : Byte, some (63 : Byte) = some v ∧ 63 < v.toNat) ∧ (∃ v : Byte, some (4 : Byte) = some v ∧ 3 < v.toNat) ∧
    (¬ ∃ v : Byte, some (3 : Byte) = some v ∧ 3 < v.toNat) ∧ ∃ v : Byte, some (97 : Byte) = some v ∧ 96 < v.toNat := by
  refine ⟨by decide, ⟨64, by decide⟩, ?_, ⟨4, by decide⟩, ?_, ⟨97, by decide⟩⟩ <;> rintro ⟨v, ⟨⟩, h⟩ <;> revert h <;> decide

/-- RUN with the alarm latch set, berth 0 PRESENT. -/
def alarmed (s : State) : State := { s with coach := { s.coach with latch := true } }

theorem test_hyp_AlarmReleaseMutesProgrammes : Ready .reset ∧ State.reset.device = .config ∧ Ready present ∧
    present.device = .run ∧ present.coach.alarmIn.active = false ∧ present.coach.latch = false ∧ Ready (alarmed fading) ∧
    (alarmed fading).device = .run ∧ (alarmed fading).coach.latch = true ∧ (alarmed fading).presence 1 ≠ .present ∧
    (alarmed fading).presence 0 = .present ∧ ((alarmed fading).floorEntry? 0).isSome = true ∧
    ((alarmed present).mixOf 0).floor = none ∧
    (ran .alarmInPress present).coach.alarmIn.active = true := by decide

/-- Three calls. -/
def calls : State :=
  { inRun with coach := { Coach.reset with calls := [⟨5, 0, .call⟩, ⟨47, 1, .call⟩, ⟨0, 2, .call⟩] } }

theorem test_hyp_CallsLeaveTheQueue : Ready inRun ∧ inRun.coach.calls = [] ∧ Ready calls ∧
    calls.coach.calls = ⟨5, 0, .call⟩ :: [⟨47, 1, .call⟩, ⟨0, 2, .call⟩] ∧ 48 ≤ (48 : Byte).toNat ∧
    (47 : Byte).toNat = (47 : BerthNo).val ∧ (∀ c ∈ inRun.coach.calls, c.berth ≠ 47) ∧
    calls.coach.calls = [⟨5, 0, .call⟩] ++ ⟨47, 1, .call⟩ :: [⟨0, 2, .call⟩] ∧
    ∀ d ∈ [(⟨5, 0, .call⟩ : CallEntry)] ++ [⟨0, 2, .call⟩], d.berth ≠ 47 := by decide

theorem test_hyp_ContactFiltersAndAlarmEdges : Up inRun ∧ (inRun.filter .pttD).active = false ∧
    (inRun.filter .pttD).active ≠ true ∧ ((inRun.setFilter .pttD ⟨false, 1⟩).filter .pttD).run < 2 ∧
    2 ≤ ((inRun.setFilter .pttD ⟨false, 2⟩).filter .pttD).run ∧
    (inRun.setFilter .alarmIn ⟨true, 0⟩).coach.alarmIn.active = true ∧ inRun.coach.alarmIn.active = false ∧
    State.reset.device = .config ∧ (alarmed inRun).coach.latch = true ∧ inRun.device = .run ∧
    inRun.coach.latch = false := by decide

theorem test_hyp_StartAndDeviceResets : Ready inRun ∧ inRun.device = .run ∧ Ready .reset ∧ State.reset.device = .config ∧
    Up (sending true) ∧ (sending true).link.tx = .sending ⟨0x1E, 0, []⟩ true ∧
    { inRun with resetLow := true }.resetLow = true ∧ inRun.resetLow = false := by decide

theorem test_hyp_EventFlagsAndPins : Ready .reset ∧ 8192 ≤ (0x2000 : Half).toNat ∧ (0x1FFF : Half).toNat < 8192 ∧
    Up .reset := by decide

/-- A part in a receive state. -/
def receiving (r : Receive) (age : Nat) : State :=
  { sending false with link := { (sending false).link with receive := r, age := age } }

/-- Lengths 0, 1, 65 and 66; the last counted byte and one before it; a check byte with 3 and with 4 records waiting; the reply
of RESTART and another under way; frame ages of 18 and 19. -/
theorem test_hyp_BytesFormRecords : Up (receiving .length 0) ∧ State.reset.link.receive = .hunt ∧
    (⟨0xA5, false⟩ : RxByte) ≠ ⟨0xA5, true⟩ ∧ (receiving .length 0).link.receive ≠ .hunt ∧ 1 ≤ (1 : Byte).toNat ∧
    (65 : Byte).toNat ≤ 65 ∧ (0 : Byte).toNat = 0 ∧ 65 < (66 : Byte).toNat ∧
    (receiving (.counted 2 []) 0).link.receive = .counted 2 [] ∧
    (receiving (.counted 2 [4]) 0).link.receive = .counted 2 [4] ∧
    (receiving (.check 1 [4]) 0).link.receive = .check 1 [4] ∧ (receiving (.check 1 [4]) 0).link.tx ≠ .free ∧
    (List.replicate 3 (⟨[4], true⟩ : Record)).length < 4 ∧ 4 ≤ (List.replicate 4 (⟨[4], true⟩ : Record)).length ∧
    (∀ r, (receiving (.check 1 [4]) 0).link.tx ≠ .sending r true) ∧ (sending true).link.tx = .sending ⟨0x1E, 0, []⟩ true ∧
    (sending true).link.receive = .hunt ∧ (sending false).link.tx ≠ .free ∧ 1 ≤ [(4 : Byte)].length ∧
    (List.replicate 65 (0 : Byte)).length ≤ 65 ∧
    (openBoundary (receiving .length 19)).boundary.ageDue = true ∧
    (openBoundary (receiving .length 19)).link.receive ≠ .hunt ∧ 19 ≤ (openBoundary (receiving .length 19)).link.age ∧
    ¬ 19 ≤ (openBoundary (receiving .length 18)).link.age ∧ (receiving .length 18).link.age < 19 ∧
    (receiving .length 18).boundary.opened = false := by
  refine ⟨by decide, by decide, by decide, by decide, by decide, by decide, by decide, by decide, by decide, by decide,
    by decide, by decide, by decide, by decide, (fun r h => by cases h), by decide⟩

/-- The longest record, a BERTH STAGE with every field, CHIME LOAD with ten notes, and a record that waits. -/
theorem test_hyp_RequestFramesAreTheirCommands : requestBytes (.chimeLoad 0 (List.replicate 10 ⟨0, 4, 1, 0, 0⟩)) ≠ none ∧
    (Instr.chimeLoad 0 (List.replicate 10 ⟨0, 4, 1, 0, 0⟩)).wellFormed = true ∧
    requestBytes .commit = some [4] ∧ Instr.commit.wellFormed = true ∧ frameSum [4] 0xFB = 0 ∧ Ready .reset ∧
    State.reset.link.receive = .hunt ∧ State.reset.link.buffer = [] ∧
    requestBytes (.berthStage 0 { dnd := some 1, tag3 := some 0 }) = some [2, 0, 0x08, 0x40, 1, 0] ∧
    Up (sending false) ∧ (sending false).link.tx = .sending ⟨0x1E, 0, []⟩ false ∧ (sending false).link.buffer = [] ∧
    { sending false with link := { (sending false).link with buffer := [⟨[4], true⟩] } }.link.buffer = ⟨[4], true⟩ :: [] := by
  decide

/-- A kind of 0, of 21h and of 22h; a body that fits and one that does not; the longest body. -/
theorem test_hyp_LinkRefusesRecords : Ready .reset ∧ 0x21 < (0x22 : Byte).toNat ∧ (0x21 : Byte) ≠ 0 ∧
    (0x21 : Byte).toNat ≤ 0x21 ∧ BodyFits 0x21 [0, 0] ∧ ¬ BodyFits 0x21 [0] ∧ BodyFits 0x20 [] ∧ ¬ BodyFits 0x20 [0] ∧
    BodyFits 0x15 (0 :: 1 :: List.replicate 6 0) ∧ State.reset.link.receive = .hunt ∧ State.reset.link.buffer = [] ∧
    (List.replicate 64 (0 : Byte)).length ≤ 64 ∧ frameSum [0x21, 0] 0 ≠ 0 ∧ frameSum [0x22] 0xDD = 0 := by
  refine ⟨by decide, by decide, by decide, by decide, ?_, ?_, ?_, ?_, ?_, by decide, by decide, by decide, by decide, by decide⟩
  · show fixedBodyLengths[33]? = some 2; decide
  · show ¬ fixedBodyLengths[33]? = some 1; decide
  · exact .inl rfl
  · rintro (h | h) <;> cases h
  · exact ⟨0, 1, _, rfl, rfl⟩

end Sys2Proof.Tests
end

section
/-! PROOFS. The Berth Table: device reset, staging, STAGE DISCARD, and the tests of attributes (chapter 1). -/

namespace Sys2Proof.Machine

/-! ## Device reset (R9, R171) -/

/-- What holds of the part after a device reset, whatever commands wait, holds after a device reset of either cause. -/
theorem afterDeviceReset_of {P : State → Prop} (h : ∀ s, P (deviceReset s)) : AfterDeviceReset P := by
  refine ⟨fun s hlow => ⟨deviceReset s, ?_, h s⟩, fun s r hup htx => ⟨deviceReset s, ?_, h s⟩⟩
  · show Host.Outcome.next (if s.resetLow then deviceReset s else s) = _
    rw [if_pos hlow]
  · show Host.Outcome.next (whenUp s sendEnds) = _
    rw [whenUp_of_up hup]
    simp only [sendEnds, htx]

@[simp] theorem berth_deviceReset (s : State) (b : BerthNo) : (deviceReset s).berth b = .reset :=
  Table.get_fill _ b

@[simp] theorem live_deviceReset (s : State) (b : BerthNo) : (deviceReset s).live b = Berth.reset.live :=
  congrArg Berth.live (berth_deviceReset s b)

@[simp] theorem staged_deviceReset (s : State) (b : BerthNo) : (deviceReset s).staged b = .empty :=
  congrArg Berth.staged (berth_deviceReset s b)

/-- After a device reset RESTARTED alone is set (R173). -/
theorem flag_deviceReset (s : State) (e : Event) : (deviceReset s).flag e = decide (e = .restarted) := by
  show Events.reset.flags.getLsbD (eventBit e) = _
  cases e <;> decide

/-- Settles O9: both causes leave the reset state, whose berth records are all alike. -/
theorem deviceResetBerthRecords : Obligations.DeviceResetBerthRecords :=
  afterDeviceReset_of fun s => by
    refine ⟨fun b => ?_, rfl, flag_deviceReset s .commitDone⟩
    rw [live_deviceReset, staged_deviceReset]
    exact ⟨rfl, rfl, rfl, rfl, rfl, rfl, rfl, fun n _ => BitVec.getLsbD_zero, rfl, rfl⟩

/-! ## BERTH STAGE (R12, R13) -/

theorem fits_eq_false {α : Type} {read : Byte → Option α} {v : Option Byte} :
    fits read v = false ↔ ∃ b, v = some b ∧ read b = none := by
  cases v <;> simp [fits]

theorem carriedProgramme_eq_none {v : Byte} : carriedProgramme v = none ↔ 8 ≤ v.toNat ∧ v ≠ 0xFF := by
  unfold carriedProgramme
  split
  · next h => simp [h]
  · next h => rw [Option.map_eq_none_iff, carriedFin_eq_none]; exact (and_iff_left h).symm

theorem carriedProgramme_eq_some {v : Byte} {p : Option ProgrammeNo} (h : carriedProgramme v = some p) :
    ReadsProgramme v p := by
  unfold carriedProgramme at h
  split at h
  · next hv => cases h; exact hv
  · obtain ⟨n, hn, rfl⟩ := Option.map_eq_some_iff.1 h
    exact carriedFin_eq_some.1 hn

theorem readsFlag_carriedFlag (v : Byte) : ReadsFlag v (carriedFlag v) := by
  simp [ReadsFlag, carriedFlag_eq]

/-- A field is staged as R13 says when every value its reading yields stands for the carried byte. -/
theorem stagedAs_staging {α : Type} {read : Byte → Option α} {reads : Byte → α → Prop} {v : Option Byte}
    (hfits : fits read v = true) (hreads : ∀ b a, read b = some a → reads b a) (old : Option α) :
    StagedAs reads v old (staging read v old) := by
  cases v with
  | none => rfl
  | some b =>
    obtain ⟨a, ha⟩ := Option.isSome_iff_exists.1 hfits
    exact ⟨a, hreads b a ha, ha⟩

/-- A field whose carried value always has a meaning: flags, and the Volume, which is clamped. -/
theorem stagedAs_staging_total {α : Type} {read : Byte → α} {reads : Byte → α → Prop} (hreads : ∀ b, reads b (read b))
    (v : Option Byte) (old : Option α) : StagedAs reads v old (staging (fun b => some (read b)) v old) :=
  stagedAs_staging (by cases v <;> rfl) (fun b a h => by cases h; exact hreads b) old

/-- R12 test 4 fails exactly when a named field that cannot be clamped is out of range. -/
theorem stageFits_eq_false (x : StageBody) :
    stageFits x = false ↔
      (∃ v, x.programme = some v ∧ 8 ≤ v.toNat ∧ v ≠ 0xFF) ∨ (∃ v, x.track = some v ∧ 2 ≤ v.toNat) ∨
        (∃ v, x.zone = some v ∧ 8 ≤ v.toNat) ∨ ∃ v, x.language = some v ∧ 2 ≤ v.toNat := by
  simp only [stageFits, Bool.and_eq_false_iff, fits_eq_false, carriedProgramme_eq_none, carriedFin_eq_none, or_assoc]

theorem fits_of_stageFits {x : StageBody} (h : stageFits x = true) :
    fits carriedProgramme x.programme = true ∧ fits (carriedFin 2) x.track = true ∧
      fits (carriedFin 8) x.zone = true ∧ fits (carriedFin 2) x.language = true := by
  simpa only [stageFits, Bool.and_eq_true, and_assoc] using h

theorem stageClamps_eq (x : StageBody) : stageClamps x = x.volume.any fun v => decide (96 < v.toNat) := by
  cases h : x.volume with
  | none => rw [stageClamps, h]; rfl
  | some v => rw [stageClamps, h]; simp [outside, volumeMax]; rfl

section
variable {n : Byte} {b : BerthNo} (hn : n.toNat = b.val) (x : StageBody) (s : State)
include hn

theorem berthStage_of_excluded (hp : s.presence b = .excluded) : berthStage n x s = refuse .badField s := by
  simp only [berthStage, carriedFin_of_eq hn, if_pos hp]

theorem berthStage_of_pending (hp : s.presence b ≠ .excluded) (hc : s.commitPending = true) :
    berthStage n x s = refuse .busy s := by
  simp only [berthStage, carriedFin_of_eq hn, if_neg hp, if_pos hc]

theorem berthStage_of_unfit (hp : s.presence b ≠ .excluded) (hc : s.commitPending = false)
    (hx : x.undefinedBit = true ∨ stageFits x = false) : berthStage n x s = refuse .badField s := by
  simp only [berthStage, carriedFin_of_eq hn, if_neg hp, hc]
  rcases hx with hx | hx <;> simp [hx]

theorem berthStage_of_fit (hp : s.presence b ≠ .excluded) (hc : s.commitPending = false)
    (hu : x.undefinedBit = false) (hx : stageFits x = true) :
    berthStage n x s = ⟨doneOrClamped (stageClamps x), [n], s.modStaged b (stageInto x)⟩ := by
  simp [berthStage, carriedFin_of_eq hn, hp, hc, hu, hx]

end

/-- Settles O17: the four tests in their order, then each staged field for itself. -/
theorem berthStageStoresNamedFields : Obligations.BerthStageStoresNamedFields := by
  intro s n x hs
  rw [exec_berthStage_of_ready hs]
  refine ⟨fun h => ?_, fun b hn => ⟨fun hp => ?_, fun hp hc => ?_, fun hp hc hx => ?_, fun hp hc hu hx => ?_⟩⟩
  · rw [berthStage, carriedFin_of_le h]; rfl
  · rw [berthStage_of_excluded hn x s hp]; rfl
  · rw [berthStage_of_pending hn x s hp hc]; rfl
  · rw [← stageFits_eq_false] at hx
    rw [berthStage_of_unfit hn x s hp hc hx]; rfl
  · rw [← stageFits_eq_false, Bool.not_eq_false] at hx
    obtain ⟨hprogramme, htrack, hzone, hlanguage⟩ := fits_of_stageFits hx
    have hfin : ∀ {k : Nat} (v : Byte) (i : Fin k), carriedFin k v = some i → ReadsFin v i :=
      fun _ _ => carriedFin_eq_some.1
    have hflag := @stagedAs_staging_total _ carriedFlag ReadsFlag readsFlag_carriedFlag
    have hvolume := @stagedAs_staging_total Nat (fun v => min volumeMax v.toNat) (fun v k => k = min 96 v.toNat) fun _ => rfl
    refine ⟨stageInto x (s.staged b), ?_, stagedAs_staging hprogramme (fun _ _ => carriedProgramme_eq_some) _,
      stagedAs_staging htrack hfin _, hflag _ _, hvolume _ _, stagedAs_staging hzone hfin _,
      stagedAs_staging hlanguage hfin _, hflag _ _, hflag _ _, hflag _ _, hflag _ _, hflag _ _, hflag _ _⟩
    rw [berthStage_of_fit hn x s hp hc hu hx, stageClamps_eq]
    rfl

/-! ## STAGE DISCARD (R14) -/

theorem stagedCount_eq (s : State) : stagedCount s = allBerths.countP fun b => decide (s.staged b ≠ .empty) :=
  s.berths.countP_cells _

theorem get_berths_emptyStaging (s : State) (b : BerthNo) :
    (emptyStaging s).berths.get b = { s.berth b with staged := .empty } :=
  Table.get_map ..

/-- Settles O18. -/
theorem stageDiscardEmptiesStaging : Obligations.StageDiscardEmptiesStaging := by
  intro s hs
  rw [exec_stageDiscard_of_ready hs]
  refine ⟨fun hc => ?_, fun hc => ⟨(emptyStaging s).berths, ?_, get_berths_emptyStaging s⟩⟩
  · rw [stageDiscard, if_pos hc]; rfl
  · rw [stageDiscard, if_neg (ne_true_of_eq_false hc), stagedCount_eq]; rfl

/-! ## Tests of attributes (R19) and eligibility (R122, R123) -/

/-- Two sets of attributes are equal when they have the same attributes. -/
theorem attrs_ext {x y : Byte} : x = y ↔ ∀ n, n < 8 → hasAttr x n = hasAttr y n :=
  ⟨fun h _ _ => h ▸ rfl, fun h => BitVec.eq_of_getLsbD_eq fun n hn => h n hn⟩

theorem hasAttr_and (x y : Byte) (n : Nat) : hasAttr (x &&& y) n = (hasAttr x n && hasAttr y n) :=
  BitVec.getLsbD_and

theorem hasAttr_zero (n : Nat) : hasAttr 0 n = false := BitVec.getLsbD_zero

/-- All attributes of the mask are set. -/
theorem and_eq_mask_iff (mask attrs : Byte) :
    attrs &&& mask = mask ↔ ∀ n, n < 8 → hasAttr mask n = true → hasAttr attrs n = true := by
  simp only [attrs_ext, hasAttr_and]
  refine forall₂_congr fun n _ => ?_
  cases hasAttr mask n <;> simp

/-- All attributes of the mask are clear. -/
theorem and_eq_zero_iff (mask attrs : Byte) :
    attrs &&& mask = 0 ↔ ∀ n, n < 8 → hasAttr mask n = true → hasAttr attrs n = false := by
  simp only [attrs_ext, hasAttr_and, hasAttr_zero]
  refine forall₂_congr fun n _ => ?_
  cases hasAttr mask n <;> simp

theorem passesTest_iff (mode : TestMode) (mask attrs : Byte) :
    passesTest mode mask attrs = true ↔ PassesR19 mode mask attrs := by
  cases mode with
  | none => simp [passesTest, PassesR19]
  | allSet => exact beq_iff_eq.trans (and_eq_mask_iff mask attrs)
  | allClear => exact beq_iff_eq.trans (and_eq_zero_iff mask attrs)
  | anySet =>
    refine bne_iff_ne.trans ((and_eq_zero_iff mask attrs).not.trans ?_)
    simp [PassesR19]
  | anyClear =>
    refine bne_iff_ne.trans ((and_eq_mask_iff mask attrs).not.trans ?_)
    simp [PassesR19]

/-- Settles O21: the modes one by one, the empty mask, and the four conditions of eligibility. -/
theorem attributeTestsAndEligibility : Obligations.AttributeTestsAndEligibility := by
  refine ⟨passesTest_iff, fun attrs => ?_, fun s b e => ?_⟩
  · simp [passesTest]
  · simp only [eligible, Bool.and_eq_true, beq_iff_eq, decide_eq_true_eq, passesTest_iff, and_assoc]
    rfl

end Sys2Proof.Machine
end

section
/-! SUPPORT. Lane work in the words of R71 to R75: what a release and an acquisition leave, and that neither reads the
berth link records. -/

namespace Sys2Proof

/-! ## A table changed twice -/

theorem Table.modify_comm {α : Type} {n : Nat} (t : Table α n) (i j : Fin n) {f g : α → α}
    (h : ∀ x, f (g x) = g (f x)) : (t.modify i f).modify j g = (t.modify j g).modify i f := by
  apply Table.ext_get
  intro k
  simp only [Table.get_modify]
  split <;> split <;> simp [h]

theorem Table.modify_modify {α : Type} {n : Nat} (t : Table α n) (i : Fin n) (f g : α → α) :
    (t.modify i f).modify i g = t.modify i fun x => g (f x) := by
  apply Table.ext_get
  intro k
  simp only [Table.get_modify]
  split <;> rfl

end Sys2Proof

namespace Sys2Proof.Machine

/-! ## Records but for the items that lane work changes -/

/-- A berth whose staged record stands, and whose live record stands but for its picture lane field. -/
theorem berth_eq_of_rest {s t : State} {b : BerthNo} (hlive : rest (t.live b) = rest (s.live b))
    (hstaged : t.staged b = s.staged b) :
    t.berth b = { s.berth b with live := { s.live b with lane := (t.live b).lane } } := by
  show Berth.mk { rest (t.live b) with lane := (t.live b).lane } (t.staged b) = _
  rw [hlive, hstaged]
  rfl

theorem line_eq_of_bare {x y : Line} (h : bare x = bare y) : x = { y with queues := x.queues } := by
  show { bare x with queues := x.queues } = _
  rw [h]
  rfl

/-! ## Lane work and the berth link records -/

theorem State.modLine_comm (s : State) (l m : LineNo) {f g : Line → Line} (h : ∀ x, f (g x) = g (f x)) :
    (s.modLine l f).modLine m g = (s.modLine m g).modLine l f :=
  congrArg s.setLines (Table.modify_comm s.lines l m h)

section
variable (c : BerthNo) (f : LinkRecord → LinkRecord) (s : State)

theorem setLaneField_modLinkOf (b : BerthNo) (v : LaneField) :
    setLaneField b v (s.modLinkOf c f) = (setLaneField b v s).modLinkOf c f := rfl

theorem setLane_modLinkOf (l : LineNo) (n : LaneNo) (v : Lane) :
    setLane l n v (s.modLinkOf c f) = (setLane l n v s).modLinkOf c f := rfl

theorem setWaits_modLinkOf (l : LineNo) (ws : List BerthNo) :
    setWaits l ws (s.modLinkOf c f) = (setWaits l ws s).modLinkOf c f := rfl

theorem freeTheLane_modLinkOf (l : LineNo) (n : LaneNo) :
    freeTheLane l n (s.modLinkOf c f) = (freeTheLane l n s).modLinkOf c f :=
  (setLane l n .free s).modLine_comm (lineOf c) l (f := fun x => { x with links := x.links.modify (slotOf c) f })
    (g := fun x => { x with queues := x.queues.set n [] }) fun _ => rfl

theorem acquire_modLinkOf (b : BerthNo) : acquire b (s.modLinkOf c f) = (acquire b s).modLinkOf c f := by
  have hwants : wantsLane (s.modLinkOf c f) b = wantsLane s b := rfl
  unfold acquire
  simp only [hwants, State.laneSet_modLinkOf, State.live_modLinkOf]
  (repeat' split) <;> rfl

theorem forEach_setLaneField_modLinkOf (v : LaneField) (bs : List BerthNo) :
    forEach bs (fun t b => setLaneField b v t) (s.modLinkOf c f) =
      (forEach bs (fun t b => setLaneField b v t) s).modLinkOf c f := by
  induction bs generalizing s with
  | nil => rfl
  | cons b bs ih => exact ih (setLaneField b v s)

theorem handOver_modLinkOf (l : LineNo) (n : LaneNo) (w : BerthNo) :
    handOver l n w (s.modLinkOf c f) = (handOver l n w s).modLinkOf c f := by
  unfold handOver
  simp only [State.live_modLinkOf, State.laneSet_modLinkOf]
  split
  · exact freeTheLane_modLinkOf c f s l n
  · rw [setLane_modLinkOf, setWaits_modLinkOf, forEach_setLaneField_modLinkOf]

theorem releaseLane_modLinkOf (b : BerthNo) (n : LaneNo) :
    releaseLane b n (s.modLinkOf c f) = (releaseLane b n s).modLinkOf c f := by
  unfold releaseLane
  simp only [setLaneField_modLinkOf, State.laneSet_modLinkOf]
  split
  · rfl
  · split
    · rfl
    · split
      · exact freeTheLane_modLinkOf c f _ _ n
      · exact handOver_modLinkOf c f _ _ n _

theorem releaseRoute_modLinkOf (b : BerthNo) :
    releaseRoute b (s.modLinkOf c f) = (releaseRoute b s).modLinkOf c f := by
  unfold releaseRoute
  simp only [State.live_modLinkOf]
  split
  · rfl
  · exact releaseLane_modLinkOf c f s b _
  · rfl

theorem routeChange_modLinkOf (b : BerthNo) :
    routeChange b (s.modLinkOf c f) = (routeChange b s).modLinkOf c f := by
  rw [routeChange, releaseRoute_modLinkOf, acquire_modLinkOf, routeChange]

end

/-! ## Lane work and the drop counts -/

theorem drops_modLaneSet (s : State) (l m : LineNo) {g : LaneSet → LaneSet} (h : ∀ x, (g x).drops = x.drops) :
    ((s.modLaneSet l g).laneSet m).drops = (s.laneSet m).drops := by
  rw [State.laneSet_modLaneSet]
  split
  · exact h _
  · rfl

@[simp] theorem drops_setLaneField (b : BerthNo) (v : LaneField) (s : State) (m : LineNo) :
    ((setLaneField b v s).laneSet m).drops = (s.laneSet m).drops := rfl

@[simp] theorem drops_setLane (l : LineNo) (n : LaneNo) (v : Lane) (s : State) (m : LineNo) :
    ((setLane l n v s).laneSet m).drops = (s.laneSet m).drops := drops_modLaneSet s l m fun _ => rfl

@[simp] theorem drops_setWaits (l : LineNo) (ws : List BerthNo) (s : State) (m : LineNo) :
    ((setWaits l ws s).laneSet m).drops = (s.laneSet m).drops := drops_modLaneSet s l m fun _ => rfl

@[simp] theorem drops_freeTheLane (l : LineNo) (n : LaneNo) (s : State) (m : LineNo) :
    ((freeTheLane l n s).laneSet m).drops = (s.laneSet m).drops := drops_setLane l n .free s m

@[simp] theorem drops_acquire (b : BerthNo) (s : State) (m : LineNo) :
    ((acquire b s).laneSet m).drops = (s.laneSet m).drops := by
  unfold acquire
  dsimp only
  (repeat' split) <;> simp

@[simp] theorem drops_handOver (l : LineNo) (n : LaneNo) (w : BerthNo) (s : State) (m : LineNo) :
    ((handOver l n w s).laneSet m).drops = (s.laneSet m).drops := by
  unfold handOver
  split
  · simp
  · exact (forEach_keeps (fun t => (t.laneSet m).drops) (fun t b => by simp) _ _).trans (by simp)

@[simp] theorem drops_releaseLane (b : BerthNo) (n : LaneNo) (s : State) (m : LineNo) :
    ((releaseLane b n s).laneSet m).drops = (s.laneSet m).drops := by
  unfold releaseLane
  dsimp only
  (repeat' split) <;> simp

@[simp] theorem drops_releaseWait (b : BerthNo) (s : State) (m : LineNo) :
    ((releaseWait b s).laneSet m).drops = (s.laneSet m).drops := by
  simp [releaseWait]

@[simp] theorem drops_releaseRoute (b : BerthNo) (s : State) (m : LineNo) :
    ((releaseRoute b s).laneSet m).drops = (s.laneSet m).drops := by
  unfold releaseRoute
  split <;> simp

@[simp] theorem drops_routeChange (b : BerthNo) (s : State) (m : LineNo) :
    ((routeChange b s).laneSet m).drops = (s.laneSet m).drops := by
  simp [routeChange]

/-! ## Acquisition (R71) -/

theorem wantsLaneFor_iff (s : State) (b : BerthNo) (p : ProgrammeNo) :
    WantsLaneFor s b p ↔ wantsLane s b = true ∧ (s.live b).programme = some p := by
  unfold WantsLaneFor wantsLane State.presence
  cases h : (s.live b).programme with
  | none => simp
  | some q =>
    simp only [Bool.and_eq_true, beq_iff_eq, Option.some.injEq, and_assoc]
    constructor
    · rintro ⟨hp, hpic, rfl, hq⟩; exact ⟨hp, hpic, hq, rfl⟩
    · rintro ⟨hp, hpic, hq, rfl⟩; exact ⟨hp, hpic, rfl, hq⟩

theorem carrierOf_eq (s : State) (l : LineNo) (p : ProgrammeNo) :
    carrierOf (s.laneSet l) p = (List.finRange laneCount).find? fun n => carriedBy s l n == some p := by
  unfold carrierOf
  congr 1
  funext n
  unfold carriedBy
  cases (s.laneSet l).lanes.get n <;> rfl

/-- The lowest number with a property is the one found. -/
theorem find?_finRange_eq_some {n : Nat} {q : Fin n → Bool} {i : Fin n} (hi : q i = true)
    (hlow : ∀ j, j < i → q j = false) : (List.finRange n).find? q = some i := by
  refine List.find?_eq_some_iff_getElem.2 ⟨hi, i.val, by simp, by simp, fun j hj => ?_⟩
  simpa using hlow ⟨j, hj.trans i.isLt⟩ hj

theorem carrierOf_of_carries {s : State} {l : LineNo} {n : LaneNo} {p : ProgrammeNo} (hn : Carries s l n p)
    (hlow : ∀ m, m < n → ¬ Carries s l m p) : carrierOf (s.laneSet l) p = some n := by
  rw [carrierOf_eq]
  exact find?_finRange_eq_some (by simpa [carries_iff] using hn) fun m hm => by simpa [carries_iff] using hlow m hm

theorem carrierOf_of_none {s : State} {l : LineNo} {p : ProgrammeNo} (h : ∀ n, ¬ Carries s l n p) :
    carrierOf (s.laneSet l) p = none := by
  rw [carrierOf_eq, List.find?_eq_none]
  intro n _
  simpa [carries_iff] using h n

theorem freeLane_of_free {x : LaneSet} {n : LaneNo} (hn : x.lanes.get n = .free)
    (hlow : ∀ m, m < n → x.lanes.get m ≠ .free) : freeLane x = some n :=
  find?_finRange_eq_some (by simp [hn]) fun m hm => by simpa using hlow m hm

theorem freeLane_of_none {x : LaneSet} (h : ∀ n, x.lanes.get n ≠ .free) : freeLane x = none := by
  unfold freeLane
  rw [List.find?_eq_none]
  intro n _
  simpa using h n

section
variable {s : State} {b : BerthNo}

/-- A berth that wants no lane acquires none. -/
theorem acquire_of_not_wants (h : ∀ p, ¬ WantsLaneFor s b p) : acquire b s = s := by
  unfold acquire
  split
  · next hwants =>
    dsimp only
    split
    · rfl
    · next p hprog => exact absurd ((wantsLaneFor_iff s b p).2 ⟨hwants, hprog⟩) (h p)
  · rfl

variable {p : ProgrammeNo} (h : WantsLaneFor s b p)
include h

/-- It joins the lane that carries its Programme. -/
theorem acquire_of_carrier {n : LaneNo} {c : Nat} (hn : carrierOf (s.laneSet (lineOf b)) p = some n)
    (hc : (s.laneSet (lineOf b)).lanes.get n = .carrying p c) :
    acquire b s = withLaneField s b (.lane n)
      { s.laneSet (lineOf b) with lanes := (s.laneSet (lineOf b)).lanes.set n (.carrying p (c + 1)) } := by
  obtain ⟨hwants, hprog⟩ := (wantsLaneFor_iff s b p).1 h
  simp only [acquire, hwants, hprog, hn, hc, if_true]
  rfl

/-- With no lane that carries its Programme, it takes the lowest FREE lane. -/
theorem acquire_of_free {n : LaneNo} (hp : carrierOf (s.laneSet (lineOf b)) p = none)
    (hn : freeLane (s.laneSet (lineOf b)) = some n) :
    acquire b s = withLaneField s b (.lane n)
      { s.laneSet (lineOf b) with lanes := (s.laneSet (lineOf b)).lanes.set n (.carrying p 1) } := by
  obtain ⟨hwants, hprog⟩ := (wantsLaneFor_iff s b p).1 h
  simp only [acquire, hwants, hprog, hp, hn, if_true]
  rfl

/-- With no such lane and no FREE one, it waits. -/
theorem acquire_of_full (hp : carrierOf (s.laneSet (lineOf b)) p = none)
    (hn : freeLane (s.laneSet (lineOf b)) = none) :
    acquire b s = withLaneField s b .waiting
      { s.laneSet (lineOf b) with waits := (s.laneSet (lineOf b)).waits ++ [b] } := by
  obtain ⟨hwants, hprog⟩ := (wantsLaneFor_iff s b p).1 h
  simp only [acquire, hwants, hprog, hp, hn, if_true]
  rfl

end

/-- `acquire` is the acquisition of R71. -/
theorem acquired_acquire (b : BerthNo) (s : State) : Acquired s (acquire b s) b :=
  ⟨acquire_of_not_wants, fun _ hp =>
    ⟨fun _ c hn hlow => acquire_of_carrier hp (carrierOf_of_carries ⟨c, hn⟩ hlow) hn,
      fun hnone _ hn hlow => acquire_of_free hp (carrierOf_of_none hnone) (freeLane_of_free hn hlow),
      fun hnone hfull => acquire_of_full hp (carrierOf_of_none hnone) (freeLane_of_none hfull)⟩⟩

/-! ## Release (R72 to R74) -/

theorem berth_setLaneField (b : BerthNo) (v : LaneField) (s : State) (c : BerthNo) :
    (setLaneField b v s).berth c = if b = c then { s.berth c with live := { s.live c with lane := v } } else s.berth c :=
  s.berth_modLive b c _

/-- The picture lane fields of a list of berths set, and nothing else. -/
theorem forEach_setLaneField_eq (v : LaneField) (bs : List BerthNo) (s : State) :
    forEach bs (fun t b => setLaneField b v t) s =
      { s with berths := (forEach bs (fun t b => setLaneField b v t) s).berths } := by
  induction bs generalizing s with
  | nil => rfl
  | cons b bs ih => exact ih (setLaneField b v s)

theorem berth_forEach_setLaneField (v : LaneField) (bs : List BerthNo) (s : State) (c : BerthNo) :
    (forEach bs (fun t b => setLaneField b v t) s).berth c =
      if c ∈ bs then { s.berth c with live := { s.live c with lane := v } } else s.berth c := by
  induction bs generalizing s with
  | nil => rfl
  | cons b bs ih =>
    refine (ih (setLaneField b v s)).trans ?_
    rw [berth_setLaneField]
    by_cases hbc : b = c
    · subst hbc; simp [setLaneField]
    · have hcb : c ≠ b := fun h => hbc h.symm
      rw [if_neg hbc]
      simp only [List.mem_cons, hcb, false_or, setLaneField, State.live_modLive, if_neg hbc]

section
variable {s : State} {b : BerthNo} {n : LaneNo} {p : ProgrammeNo} {c : Nat}
  (hn : (s.laneSet (lineOf b)).lanes.get n = .carrying p c)
include hn

/-- A lane with further holders goes on with one fewer (R72). -/
theorem releaseLane_of_shared (hc : 2 ≤ c) :
    releaseLane b n s = withLaneField s b .none
      { s.laneSet (lineOf b) with lanes := (s.laneSet (lineOf b)).lanes.set n (.carrying p (c - 1)) } := by
  have hn' : ((setLaneField b .none s).laneSet (lineOf b)).lanes.get n = .carrying p c := hn
  have hc' : 1 < c := hc
  simp only [releaseLane, hn', if_pos hc']
  rfl

/-- A lane without further holders and without waiters becomes FREE, and its send queue is emptied (R72). -/
theorem releaseLane_of_last (hc : c ≤ 1) (hw : (s.laneSet (lineOf b)).waits = []) :
    releaseLane b n s = { withLaneField s b .none
        { s.laneSet (lineOf b) with lanes := (s.laneSet (lineOf b)).lanes.set n .free } with
      lines := s.lines.set (lineOf b) { s.line (lineOf b) with queues := (s.line (lineOf b)).queues.set n [] } } := by
  have hn' : ((setLaneField b .none s).laneSet (lineOf b)).lanes.get n = .carrying p c := hn
  have hw' : ((setLaneField b .none s).laneSet (lineOf b)).waits = [] := hw
  simp only [releaseLane, hn', if_neg (Nat.not_lt.2 hc), hw']
  rfl

/-- A lane without further holders goes to the programme of the oldest waiter (R73). -/
theorem releaseLane_of_waiter (hc : c ≤ 1) {w : BerthNo} {ws : List BerthNo}
    (hw : (s.laneSet (lineOf b)).waits = w :: ws) :
    releaseLane b n s = handOver (lineOf b) n w (setLaneField b .none s) := by
  have hn' : ((setLaneField b .none s).laneSet (lineOf b)).lanes.get n = .carrying p c := hn
  have hw' : ((setLaneField b .none s).laneSet (lineOf b)).waits = w :: ws := hw
  simp only [releaseLane, hn', if_neg (Nat.not_lt.2 hc), hw']

end

/-- The waiters of a line for programme `q`. -/
def waitersFor (s : State) (l : LineNo) (q : ProgrammeNo) : List BerthNo :=
  (s.laneSet l).waits.filter fun c => (s.live c).programme = some q

theorem programme_live_setLaneField (b : BerthNo) (v : LaneField) (s : State) (c : BerthNo) :
    ((setLaneField b v s).live c).programme = (s.live c).programme :=
  programme_of_rest (rest_live_setLaneField b v s c)

theorem setWaits_setLane (l : LineNo) (n : LaneNo) (v : Lane) (ws : List BerthNo) (s : State) :
    setWaits l ws (setLane l n v s) =
      { s with lanes := s.lanes.set l { s.laneSet l with lanes := (s.laneSet l).lanes.set n v, waits := ws } } :=
  congrArg s.setLanes (Table.modify_modify s.lanes l (fun x => { x with lanes := x.lanes.set n v })
    fun x => { x with waits := ws })

/-- A hand-over: the lane carries the programme of the oldest waiter for all that wait for it, and they leave the wait
list (R73). -/
theorem handOver_eq {s : State} {l : LineNo} {n : LaneNo} {w : BerthNo} {q : ProgrammeNo}
    (hq : (s.live w).programme = some q) :
    handOver l n w s = forEach (waitersFor s l q) (fun t b => setLaneField b (.lane n) t) { s with
      lanes := s.lanes.set l { s.laneSet l with
        lanes := (s.laneSet l).lanes.set n (.carrying q (waitersFor s l q).length)
        waits := (s.laneSet l).waits.filter fun c => (s.live c).programme ≠ some q } } := by
  have hjoin : ∀ c, ((s.live c).programme == some q) = decide ((s.live c).programme = some q) := fun c =>
    Bool.eq_iff_iff.2 (by rw [beq_iff_eq, decide_eq_true_iff])
  simp only [handOver, hq, hjoin, setWaits_setLane, waitersFor, ne_eq, decide_not]

/-- `releaseLane` is the release of R72 and R73. -/
theorem leftLane_releaseLane (b : BerthNo) (n : LaneNo) (s : State) : LeftLane s (releaseLane b n s) b n := by
  intro p c hn hb
  refine ⟨releaseLane_of_shared hn, releaseLane_of_last hn, fun w ws q hc hw hq => ?_⟩
  have hjoins : waitersFor (setLaneField b .none s) (lineOf b) q = waitersFor s (lineOf b) q := by
    simp only [waitersFor, programme_live_setLaneField]
    rfl
  have hself : b ∉ waitersFor s (lineOf b) q := fun h => hb (List.mem_of_mem_filter h)
  have hoff : ∀ d, (setLaneField b .none s).berth d =
      if b = d then { s.berth d with live := { s.live d with lane := .none } } else s.berth d :=
    berth_setLaneField b .none s
  rw [releaseLane_of_waiter hn hc hw, handOver_eq ((programme_live_setLaneField ..).trans hq), hjoins]
  refine ⟨?_, ?_, ?_, fun d hd => ?_⟩
  · rw [forEach_setLaneField_eq]
    simp only [programme_live_setLaneField]
    rfl
  · rw [berth_forEach_setLaneField, if_neg hself]
    exact (hoff b).trans (if_pos rfl)
  · exact List.length_pos_of_mem (List.mem_filter.2 ⟨hw ▸ List.mem_cons_self, by simpa using hq⟩)
  · rw [berth_forEach_setLaneField]
    have hon : { (setLaneField b .none s).berth d with live := { (setLaneField b .none s).live d with lane := .lane n } } =
        { s.berth d with live := { s.live d with lane := .lane n } } := by
      show Berth.mk { ((setLaneField b .none s).berth d).live with lane := _ } ((setLaneField b .none s).berth d).staged = _
      rw [hoff d, if_neg hd.symm]
      rfl
    exact if_congr Iff.rfl hon ((hoff d).trans (if_neg hd.symm))

/-- `releaseRoute` is the release of R72 to R74. -/
theorem released_releaseRoute (b : BerthNo) (s : State) : Released s (releaseRoute b s) b := by
  unfold Released releaseRoute
  cases (s.live b).lane with
  | none => rfl
  | lane n => exact leftLane_releaseLane b n s
  | waiting => rfl

end Sys2Proof.Machine
end

section
/-! PROOFS. Reply slots, and the berth requests that GOOD replies carry (R22 to R25, R35 to R39). -/

namespace Sys2Proof.Machine

/-! ## The reply slot of a berth completes (R35) -/

section
variable {s : State} {l : LineNo} {b : BerthNo} (h : SlotOf s l b)
include h

theorem slotBerth_of_slotOf : slotBerth s l = b := by
  obtain ⟨_, _, rfl, hcalled, _⟩ := h
  have hslot : (⟨slotCalled s, Nat.mod_lt _ (by decide)⟩ : SlotNo) = slotOf b := Fin.ext hcalled.symm
  unfold slotBerth
  rw [hslot, berthAt_lineOf_slotOf]

theorem slotExamined_of_slotOf (hp : s.presence b = .absent ∨ s.presence b = .present) : slotExamined s l = true := by
  have hfitted : slotCalled s < (s.line l).fitted := lt_of_eq_of_lt h.called.symm h.fitted
  unfold slotExamined
  rw [slotBerth_of_slotOf h]
  simpa [hfitted] using hp

/-- What the slot received is classed and applied to its berth. -/
theorem exec_replySlotComplete_of_slotOf (hp : s.presence b = .absent ∨ s.presence b = .present) (signal : SlotSignal) :
    exec (.replySlotComplete l signal) s =
      .next (applyOutcome b (classify signal) (s.modLine l fun x => { x with slotOpen := false })) := by
  show Host.Outcome.next (whenUp s (completeSlot l signal)) = _
  rw [whenUp_of_up h.up, completeSlot, if_pos h.opened]
  dsimp only
  rw [if_pos (slotExamined_of_slotOf h hp), slotBerth_of_slotOf h]

end

/-- The link record changed once the slot has completed. -/
theorem modLinkOf_modLine_eq_slotDone (s : State) (b : BerthNo) (f : LinkRecord → LinkRecord) :
    (s.modLine (lineOf b) fun x => { x with slotOpen := false }).modLinkOf b f = slotDone s (lineOf b) b (f (s.linkOf b)) :=
  congrArg s.setLines (Table.modify_modify s.lines (lineOf b) (fun x => { x with slotOpen := false })
    fun x => { x with links := x.links.modify (slotOf b) f })

theorem State.modLinkOf_modLinkOf (s : State) (b : BerthNo) (f g : LinkRecord → LinkRecord) :
    (s.modLinkOf b f).modLinkOf b g = s.modLinkOf b fun r => g (f r) := by
  simp only [State.modLinkOf, State.modLine, State.setLines, Table.modify_modify]

/-- Four bytes whose sum is 0 are a GOOD reply (R36, R182). -/
theorem classify_of_sum {k a f v : Byte} (h : k + a + f + v = 0) :
    classify (.sent [k, a, f, v]) = .good (replyRequest k a) (f.getLsbD 0) (f.getLsbD 1) (f.getLsbD 2) := by
  have hsum : byteSum [k, a, f, v] = 0 := by simpa [byteSum] using h
  rw [classify, if_pos hsum]

/-! ## The indications of a GOOD reply (R2, R39) -/

/-- The sensed attributes are bits 1 and 2 of the flags byte, and the others stay. -/
theorem putSensed_eq (x f : Byte) :
    putAttr (putAttr x attrOccupied (f.getLsbD 1)) attrHeadphone (f.getLsbD 2) = (x &&& 0xFC) ||| ((f >>> 1) &&& 3) := by
  rw [attrs_ext]
  intro n hn
  rw [hasAttr_putAttr _ _ _ _ hn, hasAttr_putAttr _ _ _ _ hn]
  unfold hasAttr attrOccupied attrHeadphone
  interval_cases n <;> simp

theorem hasAttr_lock_putSensed (x : Byte) (o h : Bool) :
    hasAttr (putAttr (putAttr x attrOccupied o) attrHeadphone h) attrLock = hasAttr x attrLock := by
  rw [hasAttr_putAttr _ _ _ _ (by decide), if_neg (by decide), hasAttr_putAttr _ _ _ _ (by decide), if_neg (by decide)]

/-! ## What a berth request asks of the live record (R23 to R25) -/

/-- The live record after a request of kind 1 to 9, in the numbers of R23 to R25. -/
def requestedRecord (s : State) (kind : Nat) (a : Byte) (r : LiveRecord) : LiveRecord :=
  match kind with
  | 1 => if h : a.toNat < 8 then
      { r with programme := some ⟨a.toNat, h⟩,
               track := if (s.programme ⟨a.toNat, h⟩).trackCount = 2 then r.language else 0 } else r
  | 2 => { r with programme := none }
  | 3 => if h : a.toNat < 2 ∧ r.programme.any (fun p => a.toNat < (s.programme p).trackCount) = true then
      { r with track := ⟨a.toNat, h.1⟩ } else r
  | 4 => { r with picture := true }
  | 5 => { r with picture := false }
  | 6 => { r with volume := r.volume - 4 }
  | 7 => { r with volume := min 96 (r.volume + 4) }
  | 8 => { r with attrs := r.attrs ||| 0x04 }
  | 9 => { r with attrs := r.attrs &&& 0xFB }
  | _ => r

section
variable (s : State) (a : Byte) (r : LiveRecord)

theorem applyRequest_channel : applyRequest s (.channel a) r = requestedRecord s 1 a r := by
  by_cases h : a.toNat < 8
  · have hfin : carriedFin programmeCount a = some ⟨a.toNat, h⟩ := carriedFin_of_eq rfl
    simp only [applyRequest, hfin, requestedRecord, dif_pos h]
  · simp only [applyRequest, carriedFin_of_le (Nat.not_lt.1 h), requestedRecord, dif_neg h]

theorem applyRequest_track : applyRequest s (.track a) r = requestedRecord s 3 a r := by
  by_cases h : a.toNat < 2
  · have hfin : carriedFin 2 a = some ⟨a.toNat, h⟩ := carriedFin_of_eq rfl
    cases hp : r.programme with
    | none => simp [applyRequest, requestedRecord, hp]
    | some p =>
      by_cases ht : a.toNat < (s.programme p).trackCount <;> simp [applyRequest, requestedRecord, hp, hfin, h, ht]
  · have hfin : carriedFin 2 a = none := carriedFin_of_le (Nat.not_lt.1 h)
    simp [applyRequest, requestedRecord, hfin, h]

end

/-- The requests of kinds 1 to 9 are the Berth Table's, and ask of the live record what R23 to R25 say. -/
theorem exists_request_of_kind {k : Byte} (a : Byte) (h1 : 1 ≤ k.toNat) (h9 : k.toNat ≤ 9) :
    ∃ q, replyRequest k a = some q ∧ (∀ b s, handOnRequest b q s = takeBerthRequest b q s) ∧
      ∀ s r, applyRequest s q r = requestedRecord s k.toNat a r := by
  unfold replyRequest
  generalize k.toNat = n at h1 h9
  match n with
  | 1 => exact ⟨.channel a, rfl, fun _ _ => rfl, fun s r => applyRequest_channel s a r⟩
  | 2 => exact ⟨.channelOff, rfl, fun _ _ => rfl, fun _ _ => rfl⟩
  | 3 => exact ⟨.track a, rfl, fun _ _ => rfl, fun s r => applyRequest_track s a r⟩
  | 4 => exact ⟨.pictureOn, rfl, fun _ _ => rfl, fun _ _ => rfl⟩
  | 5 => exact ⟨.pictureOff, rfl, fun _ _ => rfl, fun _ _ => rfl⟩
  | 6 => exact ⟨.volumeUp, rfl, fun _ _ => rfl, fun _ _ => rfl⟩
  | 7 => exact ⟨.volumeDown, rfl, fun _ _ => rfl, fun _ _ => rfl⟩
  | 8 => exact ⟨.dndOn, rfl, fun _ _ => rfl, fun _ _ => rfl⟩
  | 9 => exact ⟨.dndOff, rfl, fun _ _ => rfl, fun _ _ => rfl⟩

/-- No request sets the picture lane field. -/
theorem lane_applyRequest (s : State) (q : BerthRequest) (r : LiveRecord) : (applyRequest s q r).lane = r.lane := by
  cases q <;> simp only [applyRequest]
  case channel p => split <;> rfl
  case track t =>
    split
    · split <;> rfl
    · rfl

/-! ## A taken berth request at the Berth Table (R22) -/

theorem routeChange_eq (b : BerthNo) (s : State) : routeChange b s =
    { s with berths := (routeChange b s).berths, lanes := (routeChange b s).lanes, lines := (routeChange b s).lines } := by
  obtain ⟨hdevice, hcount, hlink, hevents, hpending, hmedia, hann, hchimes, hmix, hcoach, hlow, hboundary, hqueue⟩ :=
    routeChange_frame b s
  generalize routeChange b s = t at *
  cases s
  cases t
  simp_all

/-- The part with the live record of `b` replaced by `new`, and its route changed where Programme or Picture differ
(R7, R75). -/
def changedLive (b : BerthNo) (new : LiveRecord) (s : State) : State :=
  if new.programme ≠ (s.live b).programme ∨ new.picture ≠ (s.live b).picture then
    routeChange b (s.modLive b fun _ => new)
  else s.modLive b fun _ => new

/-- With LOCK clear a PRESENT berth's live record changes, and BERTH_CHANGED is raised when a field did. -/
theorem takeBerthRequest_of_unlocked {s : State} {b : BerthNo} (q : BerthRequest) (hp : s.presence b = .present)
    (hlock : hasAttr (s.live b).attrs attrLock = false) :
    takeBerthRequest b q s =
      if applyRequest s q (s.live b) = s.live b then changedLive b (applyRequest s q (s.live b)) s
      else raise .berthChanged (changedLive b (applyRequest s q (s.live b)) s) := by
  have hp' : (s.live b).presence = .present := hp
  simp only [takeBerthRequest, hlock, hp', true_and, Bool.false_eq_true, if_false]
  rfl

section
variable (b : BerthNo) (new : LiveRecord) (s : State)

theorem changedLive_of_route (h : new.programme ≠ (s.live b).programme ∨ new.picture ≠ (s.live b).picture) :
    changedLive b new s = routeChange b (s.modLive b fun _ => new) := if_pos h

theorem changedLive_of_no_route (hp : new.programme = (s.live b).programme) (hpic : new.picture = (s.live b).picture) :
    changedLive b new s = s.modLive b fun _ => new := if_neg (by simp [hp, hpic])

/-- Whatever route changes leave, the change of a live record leaves if the record's replacement does. -/
theorem changedLive_keeps {α : Type} (g : State → α) (hroute : ∀ t, g (routeChange b t) = g t) :
    g (changedLive b new s) = g (s.modLive b fun _ => new) := by
  unfold changedLive
  split
  · exact hroute _
  · rfl

theorem rest_live_changedLive (c : BerthNo) :
    rest ((changedLive b new s).live c) = if b = c then rest new else rest (s.live c) := by
  rw [changedLive_keeps b new s (fun t => rest (t.live c)) fun t => rest_live_routeChange b t c, State.live_modLive,
    apply_ite rest]

theorem staged_changedLive (c : BerthNo) : (changedLive b new s).staged c = s.staged c := by
  rw [changedLive_keeps b new s (fun t => t.staged c) fun t => staged_routeChange b t c, State.staged_modLive]

theorem bare_line_changedLive (m : LineNo) : bare ((changedLive b new s).line m) = bare (s.line m) :=
  changedLive_keeps b new s (fun t => bare (t.line m)) fun t => bare_line_routeChange b t m

theorem drops_changedLive (m : LineNo) : ((changedLive b new s).laneSet m).drops = (s.laneSet m).drops :=
  changedLive_keeps b new s (fun t => (t.laneSet m).drops) fun t => drops_routeChange b t m

theorem changedLive_eq : changedLive b new s =
    { s with berths := (changedLive b new s).berths, lanes := (changedLive b new s).lanes,
             lines := (changedLive b new s).lines } := by
  unfold changedLive
  split
  · exact routeChange_eq b _
  · rfl

end

theorem applyRequest_modLinkOf (c : BerthNo) (f : LinkRecord → LinkRecord) (s : State) (q : BerthRequest)
    (r : LiveRecord) : applyRequest (s.modLinkOf c f) q r = applyRequest s q r := by
  cases q <;> rfl

theorem changedLive_modLinkOf (c : BerthNo) (f : LinkRecord → LinkRecord) (b : BerthNo) (new : LiveRecord) (s : State) :
    changedLive b new (s.modLinkOf c f) = (changedLive b new s).modLinkOf c f := by
  unfold changedLive
  rw [State.live_modLinkOf]
  split
  · exact routeChange_modLinkOf c f (s.modLive b fun _ => new) b
  · rfl

theorem takeBerthRequest_modLinkOf (c : BerthNo) (f : LinkRecord → LinkRecord) {s : State} {b : BerthNo}
    (q : BerthRequest) (hp : s.presence b = .present) (hlock : hasAttr (s.live b).attrs attrLock = false) :
    takeBerthRequest b q (s.modLinkOf c f) = (takeBerthRequest b q s).modLinkOf c f := by
  rw [takeBerthRequest_of_unlocked q hp hlock, takeBerthRequest_of_unlocked (s := s.modLinkOf c f) q hp hlock,
    State.live_modLinkOf, applyRequest_modLinkOf, changedLive_modLinkOf]
  split <;> rfl

/-! ## A GOOD reply from a PRESENT berth, with a request of the Berth Table (R39) -/

/-- The part with the reply slot of berth `b` completed and its link record and live record replaced. -/
def replied (s : State) (b : BerthNo) (link : LinkRecord) (live : LiveRecord) : State :=
  { slotDone s (lineOf b) b link with berths := s.berths.set b { s.berth b with live := live } }

section
variable (s : State) (b : BerthNo) (link : LinkRecord) (live : LiveRecord)

theorem berth_replied (c : BerthNo) :
    (replied s b link live).berth c = if b = c then { s.berth b with live := live } else s.berth c :=
  Table.get_set ..

theorem live_replied_same : (replied s b link live).live b = live :=
  congrArg Berth.live ((berth_replied s b link live b).trans (if_pos rfl))

theorem live_replied_of_ne {c : BerthNo} (h : c ≠ b) : (replied s b link live).live c = s.live c :=
  congrArg Berth.live ((berth_replied s b link live c).trans (if_neg h.symm))

theorem staged_replied (c : BerthNo) : (replied s b link live).staged c = s.staged c := by
  have hberth := congrArg Berth.staged (berth_replied s b link live c)
  split at hberth
  · subst_vars; exact hberth
  · exact hberth

theorem modLive_replied (new : LiveRecord) :
    ((replied s b link live).modLive b fun _ => new) = replied s b link new := by
  have hberths : ((s.berths.set b { s.berth b with live := live }).modify b fun x => { x with live := new }) =
      s.berths.set b { s.berth b with live := new } :=
    Table.modify_modify s.berths b (fun x => { x with live := live }) fun x => { x with live := new }
  exact congrArg (slotDone s (lineOf b) b link).setBerths hberths

end

/-- A request taken from a GOOD reply is carried out on the berth with its link record and indications up to date: the
Berth Table reads no link record, so that the toggle may as well be taken first. -/
theorem goodFromPresent_eq_takeBerthRequest {s : State} {b : BerthNo} {q : BerthRequest} {toggle o h : Bool}
    (hp : s.presence b = .present) (hlock : hasAttr (s.live b).attrs attrLock = false)
    (htoggle : toggle ≠ (s.linkOf b).takenToggle) (howner : ∀ u, handOnRequest b q u = takeBerthRequest b q u) :
    goodFromPresent b (some q) toggle o h (s.modLine (lineOf b) fun x => { x with slotOpen := false }) =
      takeBerthRequest b q (replied s b { goodLink (s.linkOf b) with takenToggle := toggle }
        { s.live b with attrs := putAttr (putAttr (s.live b).attrs attrOccupied o) attrHeadphone h }) := by
  let closed := s.modLine (lineOf b) fun x => { x with slotOpen := false }
  have htoggle' : toggle ≠ (closed.linkOf b).takenToggle := by
    simpa [closed, State.linkOf] using htoggle
  let sensed := writeSensed b o h (closed.modLinkOf b goodLink)
  have hlive : sensed.live b =
      { s.live b with attrs := putAttr (putAttr (s.live b).attrs attrOccupied o) attrHeadphone h } :=
    State.live_modLive_same ..
  have hp' : sensed.presence b = .present := (congrArg LiveRecord.presence hlive).trans hp
  have hlock' : hasAttr (sensed.live b).attrs attrLock = false := by
    rw [hlive, hasAttr_lock_putSensed, hlock]
  have hreplied : sensed.modLinkOf b (fun r => { r with takenToggle := toggle }) =
      replied s b { goodLink (s.linkOf b) with takenToggle := toggle }
        { s.live b with attrs := putAttr (putAttr (s.live b).attrs attrOccupied o) attrHeadphone h } := by
    have hslot := (closed.modLinkOf_modLinkOf b goodLink fun r => { r with takenToggle := toggle }).trans
      (modLinkOf_modLine_eq_slotDone s b fun r => { goodLink r with takenToggle := toggle })
    exact congrArg (fun t => writeSensed b o h t) hslot
  show putToggle b toggle (if toggle = (closed.linkOf b).takenToggle then sensed else handOnRequest b q sensed) = _
  rw [if_neg htoggle', howner, ← hreplied, takeBerthRequest_modLinkOf b _ q hp' hlock']
  rfl

/-- The GOOD reply of a PRESENT berth that is not locked, with a new request of kinds 1 to 9, is carried out at the Berth
Table. -/
theorem exec_replySlotComplete_of_request {s : State} {b : BerthNo} {k a f v : Byte} {q : BerthRequest}
    (hslot : SlotOf s (lineOf b) b) (hp : s.presence b = .present) (hsum : k + a + f + v = 0)
    (htoggle : f.getLsbD 0 ≠ (s.linkOf b).takenToggle) (hlock : hasAttr (s.live b).attrs attrLock = false)
    (hq : replyRequest k a = some q) (howner : ∀ u, handOnRequest b q u = takeBerthRequest b q u) :
    exec (.replySlotComplete (lineOf b) (.sent [k, a, f, v])) s =
      .next (takeBerthRequest b q (replied s b { goodLink (s.linkOf b) with takenToggle := f.getLsbD 0 }
        { s.live b with attrs := ((s.live b).attrs &&& 0xFC) ||| ((f >>> 1) &&& 3) })) := by
  rw [exec_replySlotComplete_of_slotOf hslot (.inr hp), classify_of_sum hsum, hq, ← putSensed_eq]
  show Host.Outcome.next (if s.presence b = .present then _ else _) = _
  rw [if_pos hp, goodFromPresent_eq_takeBerthRequest hp hlock htoggle howner]

/-! ## What a taken berth request leaves of the part -/

section
variable {s : State} {b : BerthNo} (q : BerthRequest) (hp : s.presence b = .present)
  (hlock : hasAttr (s.live b).attrs attrLock = false)
include hp hlock

/-- What no event flag shows, the change of the live record has made. -/
theorem takeBerthRequest_keeps {α : Type} (g : State → α) (hraise : ∀ e t, g (raise e t) = g t) :
    g (takeBerthRequest b q s) = g (changedLive b (applyRequest s q (s.live b)) s) := by
  rw [takeBerthRequest_of_unlocked q hp hlock]
  split
  · rfl
  · exact hraise _ _

theorem takeBerthRequest_eq_changedLive : takeBerthRequest b q s =
    { changedLive b (applyRequest s q (s.live b)) s with
      events := { s.events with flags := (takeBerthRequest b q s).events.flags } } := by
  have hevents : (changedLive b (applyRequest s q (s.live b)) s).events = s.events :=
    changedLive_keeps b _ s State.events fun t => by simp
  rw [takeBerthRequest_of_unlocked q hp hlock, ← hevents]
  split <;> rfl

/-- Live records, lanes, send queues and flags of events are all that a berth request changes. -/
theorem takeBerthRequest_eq : takeBerthRequest b q s =
    { s with berths := (takeBerthRequest b q s).berths, lanes := (takeBerthRequest b q s).lanes,
             lines := (takeBerthRequest b q s).lines,
             events := { s.events with flags := (takeBerthRequest b q s).events.flags } } := by
  rw [takeBerthRequest_keeps q hp hlock State.berths fun _ _ => rfl,
    takeBerthRequest_keeps q hp hlock State.lanes fun _ _ => rfl,
    takeBerthRequest_keeps q hp hlock State.lines fun _ _ => rfl]
  exact (takeBerthRequest_eq_changedLive q hp hlock).trans
    (congrArg (fun t : State => { t with events := { s.events with flags := (takeBerthRequest b q s).events.flags } })
      (changedLive_eq b _ s))

/-- BERTH_CHANGED is raised exactly when a live field changed. -/
theorem flag_takeBerthRequest (e : Event) : (takeBerthRequest b q s).flag e =
    (s.flag e || (decide (e = .berthChanged) && decide (applyRequest s q (s.live b) ≠ s.live b))) := by
  have hflag : (changedLive b (applyRequest s q (s.live b)) s).flag e = s.flag e :=
    changedLive_keeps b _ s (fun t => t.flag e) fun t => by simp [State.flag]
  rw [takeBerthRequest_of_unlocked q hp hlock]
  split
  · next h => rw [hflag]; simp [h]
  · next h => simp [flag_raise, hflag, h, eq_comm]

theorem rest_live_takeBerthRequest (c : BerthNo) : rest ((takeBerthRequest b q s).live c) =
    if b = c then rest (applyRequest s q (s.live b)) else rest (s.live c) :=
  (takeBerthRequest_keeps q hp hlock (fun t => rest (t.live c)) fun _ _ => rfl).trans (rest_live_changedLive ..)

theorem staged_takeBerthRequest (c : BerthNo) : (takeBerthRequest b q s).staged c = s.staged c :=
  (takeBerthRequest_keeps q hp hlock (fun t => t.staged c) fun _ _ => rfl).trans (staged_changedLive ..)

theorem bare_line_takeBerthRequest (m : LineNo) : bare ((takeBerthRequest b q s).line m) = bare (s.line m) :=
  (takeBerthRequest_keeps q hp hlock (fun t => bare (t.line m)) fun _ _ => rfl).trans (bare_line_changedLive ..)

theorem drops_takeBerthRequest (m : LineNo) :
    ((takeBerthRequest b q s).laneSet m).drops = (s.laneSet m).drops :=
  (takeBerthRequest_keeps q hp hlock (fun t => (t.laneSet m).drops) fun _ _ => rfl).trans (drops_changedLive ..)

end

/-- Settles O30: the reply hands its request on to the Berth Table; what that leaves is the change of the live record,
and its route change is a release and then an acquisition. -/
theorem berthRequestsChangeLiveRecord : Obligations.BerthRequestsChangeLiveRecord := by
  intro s l b k a f v hslot hp hsum htoggle h1 h9 hlock r' r new
  obtain ⟨q, hq, howner, hrequest⟩ := exists_request_of_kind a h1 h9
  obtain rfl := hslot.line
  have hexec : exec (.replySlotComplete (lineOf b) (.sent [k, a, f, v])) s =
      .next (takeBerthRequest b q (replied s b r' r)) :=
    exec_replySlotComplete_of_request hslot hp hsum htoggle hlock hq (howner b)
  have hlive : (replied s b r' r).live b = r := live_replied_same s b r' r
  have hp' : (replied s b r' r).presence b = .present := (congrArg LiveRecord.presence hlive).trans hp
  have hlock' : hasAttr ((replied s b r' r).live b).attrs attrLock = false := by
    rw [hlive, ← hlock]
    show hasAttr (_ ||| _) _ = _
    rw [← putSensed_eq, hasAttr_lock_putSensed]
  have hnew : applyRequest (replied s b r' r) q ((replied s b r' r).live b) = new := by
    rw [hlive]
    exact hrequest _ _
  have hlane : new.lane = r.lane := by rw [← hnew, lane_applyRequest, hlive]
  have ht := takeBerthRequest_eq_changedLive q hp' hlock'
  have hrest := rest_live_takeBerthRequest q hp' hlock'
  have hflag := flag_takeBerthRequest q hp' hlock'
  rw [hnew] at ht hflag hrest
  rw [hlive] at hflag
  clear_value new r r'
  refine ⟨_, hexec, takeBerthRequest_eq q hp' hlock', ?_,
    (staged_takeBerthRequest q hp' hlock' b).trans (staged_replied ..), hflag,
    fun m => ⟨line_eq_of_bare (bare_line_takeBerthRequest q hp' hlock' m), drops_takeBerthRequest q hp' hlock' m⟩,
    fun c hc => berth_eq_of_rest ?_ ((staged_takeBerthRequest q hp' hlock' c).trans (staged_replied ..)),
    fun hroute => ?_, fun hprogramme hpicture => ?_⟩
  · rw [← hlane]
    exact congrArg (fun x : LiveRecord => { x with lane := new.lane }) ((hrest b).trans (if_pos rfl))
  · rw [hrest, if_neg hc.symm, live_replied_of_ne s b r' r hc]
  · rw [← hlive] at hroute
    rw [changedLive_of_route b new _ hroute, modLive_replied] at ht
    exact ⟨_, _, released_releaseRoute b _, acquired_acquire b _, ht⟩
  · rw [← hlive] at hprogramme hpicture
    rw [changedLive_of_no_route b new _ hprogramme hpicture, modLive_replied] at ht
    exact ht

end Sys2Proof.Machine
end

section
/-! PROOFS. The Line Controllers: device reset and LINE SETUP (R28, R30). -/

namespace Sys2Proof.Machine

/-! ## Device reset (R28) -/

@[simp] theorem line_deviceReset (s : State) (l : LineNo) : (deviceReset s).line l = .reset :=
  Table.get_fill _ l

/-- Settles O10: both causes leave the reset state, whose lines are all alike and whose berths are all EXCLUDED. -/
theorem deviceResetLineControllers : Obligations.DeviceResetLineControllers :=
  afterDeviceReset_of fun s l => by
    have hlink : ∀ k, Line.reset.links.get k = .clear := Table.get_fill _
    rw [line_deviceReset]
    refine ⟨rfl, rfl, rfl, rfl, rfl, rfl, Table.get_fill _, fun k => ⟨?_, ?_⟩⟩
    · rw [State.presence, live_deviceReset]
      rfl
    · rw [hlink]
      exact ⟨rfl, rfl, rfl, rfl, rfl, rfl, rfl, rfl, rfl, rfl, rfl, rfl⟩

/-! ## Presence notifications between ABSENT and EXCLUDED (R3, R42) -/

/-- A berth that is neither PRESENT nor CONFLICT: what LINE SETUP finds at each slot (R3, R30). -/
def OutOfUse (s : State) (b : BerthNo) : Prop := s.presence b = .absent ∨ s.presence b = .excluded

theorem outOfUse_of_line_not_running {s : State} (h : LanesHold s) {b : BerthNo}
    (hline : (s.line (lineOf b)).state ≠ .running) : OutOfUse s b := by
  obtain ⟨hpresent, hconflict⟩ := h.quietLine b hline
  unfold OutOfUse
  cases hp : s.presence b with
  | excluded => exact .inr rfl
  | absent => exact .inl rfl
  | present => exact absurd hp hpresent
  | conflict => exact absurd hp hconflict

/-- A live record given the presence it has stays as it is. -/
theorem modLive_presence_self (s : State) (b : BerthNo) :
    (s.modLive b fun r => { r with presence := s.presence b }) = s := by
  have hberths : (s.berths.modify b fun x => { x with live := { x.live with presence := s.presence b } }) = s.berths := by
    apply Table.ext_get
    intro c
    rw [Table.get_modify]
    split
    · subst_vars; rfl
    · rfl
  exact congrArg s.setBerths hberths

/-- LINE SETUP's presence of a slot (R30). -/
def setupPresence (count : Nat) (b : BerthNo) : Presence := if (slotOf b).val < count then .absent else .excluded

section
variable {s : State} {b : BerthNo} (count : Nat) (h : OutOfUse s b)
include h

/-- LINE SETUP's notification stores the slot's presence, and the change from EXCLUDED to ABSENT alone has its event. -/
theorem setupNotice_eq : setupNotice count s b =
    if s.presence b = .excluded ∧ (slotOf b).val < count then
      raise .berthPresence (s.modLive b fun r => { r with presence := setupPresence count b })
    else s.modLive b fun r => { r with presence := setupPresence count b } := by
  have hself := modLive_presence_self s b
  unfold setupNotice setupPresence notify
  by_cases hslot : (slotOf b).val < count
  · rcases h with hp | hp
    · rw [hp] at hself; simp [hslot, hp, hself]
    · simp [hslot, hp]
  · rcases h with hp | hp
    · simp [hslot, hp]
    · rw [hp] at hself; simp [hslot, hp, hself]

theorem berth_setupNotice (c : BerthNo) : (setupNotice count s b).berth c =
    if b = c then { s.berth c with live := { s.live c with presence := setupPresence count c } } else s.berth c := by
  have hraise : ∀ t : State, (raise .berthPresence t).berth c = t.berth c := fun _ => rfl
  rw [setupNotice_eq count h, apply_ite (fun t : State => t.berth c), hraise, ite_self, State.berth_modLive]
  split
  · subst_vars; rfl
  · rfl

theorem flag_setupNotice (e : Event) : (setupNotice count s b).flag e =
    (s.flag e || (decide (e = .berthPresence) && (decide ((slotOf b).val < count) && s.presence b == .excluded))) := by
  have hlive : ∀ f, (s.modLive b f).flag e = s.flag e := fun _ => rfl
  rw [setupNotice_eq count h]
  split
  · next hchange => simp [flag_raise, hlive, hchange, eq_comm]
  · next hchange =>
    rw [hlive]
    by_cases hp : s.presence b = .excluded <;> simp_all

end

/-- Live records and flags of events are all that LINE SETUP's notification changes. -/
theorem setupNotice_eq_with {s : State} {b : BerthNo} (count : Nat) (h : OutOfUse s b) : setupNotice count s b =
    { s with berths := (setupNotice count s b).berths,
             events := { s.events with flags := (setupNotice count s b).events.flags } } := by
  rw [setupNotice_eq count h]
  split <;> rfl

theorem presence_setupNotice (count : Nat) (s : State) (b c : BerthNo) :
    (setupNotice count s b).presence c = if b = c then setupPresence count b else s.presence c :=
  presence_notify ..

theorem outOfUse_setupNotice (count : Nat) {s : State} (b : BerthNo) {c : BerthNo} (h : OutOfUse s c) :
    OutOfUse (setupNotice count s b) c := by
  unfold OutOfUse
  rw [presence_setupNotice]
  split
  · unfold setupPresence
    split
    · exact .inl rfl
    · exact .inr rfl
  · exact h

theorem outOfUse_after_setupNotice (count : Nat) {b : BerthNo} {bs : List BerthNo} {s : State}
    (h : ∀ c ∈ b :: bs, OutOfUse s c) : ∀ c ∈ bs, OutOfUse (setupNotice count s b) c :=
  fun c hc => outOfUse_setupNotice count b (h c (List.mem_cons_of_mem b hc))

/-! ## The notifications of a whole line (R30) -/

/-- LINE SETUP's notifications of the berths `bs`, one after the other. -/
def setupNotices (count : Nat) (bs : List BerthNo) (s : State) : State := forEach bs (setupNotice count) s

theorem setupNotices_cons (count : Nat) (b : BerthNo) (bs : List BerthNo) (s : State) :
    setupNotices count (b :: bs) s = setupNotices count bs (setupNotice count s b) := rfl

theorem setupNotices_eq_with (count : Nat) {bs : List BerthNo} {s : State} (h : ∀ b ∈ bs, OutOfUse s b) :
    setupNotices count bs s =
      { s with berths := (setupNotices count bs s).berths,
               events := { s.events with flags := (setupNotices count bs s).events.flags } } := by
  induction bs generalizing s with
  | nil => rfl
  | cons b bs ih =>
    rw [setupNotices_cons, ih (outOfUse_after_setupNotice count h), setupNotice_eq_with count (h b List.mem_cons_self)]

theorem berth_setupNotices (count : Nat) {bs : List BerthNo} {s : State} (h : ∀ b ∈ bs, OutOfUse s b) (c : BerthNo) :
    (setupNotices count bs s).berth c =
      if c ∈ bs then { s.berth c with live := { s.live c with presence := setupPresence count c } } else s.berth c := by
  induction bs generalizing s with
  | nil => rfl
  | cons b bs ih =>
    have hb := berth_setupNotice count (h b List.mem_cons_self) c
    have hlive : (setupNotice count s b).live c = ((setupNotice count s b).berth c).live := rfl
    rw [setupNotices_cons, ih (outOfUse_after_setupNotice count h), hlive, hb]
    by_cases hbc : b = c
    · subst hbc; simp
    · simp [hbc, Ne.symm hbc, State.live, State.berth]

theorem flag_setupNotices (count : Nat) {bs : List BerthNo} {s : State} (h : ∀ b ∈ bs, OutOfUse s b) (hnodup : bs.Nodup)
    (e : Event) : (setupNotices count bs s).flag e =
      (s.flag e || (decide (e = .berthPresence) &&
        bs.any fun b => decide ((slotOf b).val < count) && s.presence b == .excluded)) := by
  induction bs generalizing s with
  | nil => simp [setupNotices, forEach]
  | cons b bs ih =>
    obtain ⟨hb, hbs⟩ := List.nodup_cons.1 hnodup
    have hsame : ∀ c ∈ bs, (setupNotice count s b).presence c = s.presence c := fun c hc => by
      rw [presence_setupNotice, if_neg fun hbc : b = c => hb (hbc ▸ hc)]
    have hany : (bs.any fun c => decide ((slotOf c).val < count) && (setupNotice count s b).presence c == .excluded) =
        bs.any fun c => decide ((slotOf c).val < count) && s.presence c == .excluded := by
      rw [Bool.eq_iff_iff, List.any_eq_true, List.any_eq_true]
      exact exists_congr fun c => and_congr_right fun hc => by rw [hsame c hc]
    rw [setupNotices_cons, ih (outOfUse_after_setupNotice count h) hbs, hany, List.any_cons,
      flag_setupNotice count (h b List.mem_cons_self), Bool.and_or_distrib_left, Bool.or_assoc]

theorem nodup_berthsOf (l : LineNo) : (berthsOf l).Nodup :=
  (List.nodup_finRange slotCount).map fun j k hjk => by simpa using congrArg slotOf hjk

/-! ## LINE SETUP (R30) -/

/-- The part with the fitted count of line `l` stored, which LINE SETUP does first. -/
def storeFitted (l : LineNo) (count : Nat) (s : State) : State := s.modLine l fun x => { x with fitted := count }

section
variable {line : Byte} {l : LineNo} (hl : line.toNat = l.val) {count : Byte} {s : State}
include hl

theorem lineSetup_of_busy (hrun : s.device = .run) (hline : (s.line l).state ≠ .off) :
    lineSetup line count s = refuse .wrongState s := by
  simp [lineSetup, carriedFin_of_eq hl, hrun, hline]

theorem lineSetup_of_large (hfree : s.device = .config ∨ (s.line l).state = .off) (hcount : 12 < count.toNat) :
    lineSetup line count s = refuse .badField s := by
  have hbusy : ¬ (s.device = .run ∧ (s.line l).state ≠ .off) := by rcases hfree with h | h <;> simp [h]
  simp only [lineSetup, carriedFin_of_eq hl, hbusy, if_false]
  rw [if_pos hcount]

theorem lineSetup_of_fit (hfree : s.device = .config ∨ (s.line l).state = .off) (hcount : count.toNat ≤ 12) :
    lineSetup line count s =
      ⟨.done, [line, count], clearLinks l (setupNotices count.toNat (berthsOf l) (storeFitted l count.toNat s))⟩ := by
  have hbusy : ¬ (s.device = .run ∧ (s.line l).state ≠ .off) := by rcases hfree with h | h <;> simp [h]
  simp only [lineSetup, carriedFin_of_eq hl, hbusy, if_false]
  rw [if_neg (Nat.not_lt.2 hcount)]
  rfl

end

/-- The fitted count is stored before the notifications and the link records are cleared after them, which meet in the
line's record. -/
theorem clearLinks_eq_of_notices {s u : State} {l : LineNo} {count : Nat}
    (hu : u = { storeFitted l count s with berths := u.berths, events := { s.events with flags := u.events.flags } }) :
    clearLinks l u =
      { s with lines := s.lines.set l { s.line l with fitted := count, links := .fill slotCount .clear },
               berths := u.berths, events := { s.events with flags := u.events.flags } } := by
  have hlines := Table.modify_modify s.lines l (fun x => { x with fitted := count })
    fun x => { x with links := .fill slotCount .clear }
  generalize u.berths = berths, u.events.flags = flags at hu
  subst hu
  exact congrArg (fun lines => { s with lines := lines, berths := berths, events := { s.events with flags := flags } })
    hlines

/-- Settles O23: LanesHold leaves ABSENT and EXCLUDED alone on a line that LINE SETUP is accepted on, so that each slot's
notification stores its presence and does nothing else but raise its event. -/
theorem lineSetupStoresFittedCount : Obligations.LineSetupStoresFittedCount := by
  intro s line count hready hlanes
  rw [exec_lineSetup_of_ready hready]
  refine ⟨fun h => ?_, fun l hl => ⟨fun hrun hline => ?_, fun hfree hcount => ?_, fun hfree hcount => ?_⟩⟩
  · rw [lineSetup, carriedFin_of_le h]; rfl
  · rw [lineSetup_of_busy hl hrun hline]; rfl
  · rw [lineSetup_of_large hl hfree hcount]; rfl
  · have hoff : (s.line l).state = .off := hfree.elim (fun h => hlanes.configOff h l) id
    have hquiet : ∀ b ∈ berthsOf l, OutOfUse s b := fun b hb => by
      obtain rfl := (mem_berthsOf l b).1 hb
      exact outOfUse_of_line_not_running hlanes (by simp [hoff])
    have hu := setupNotices_eq_with count.toNat (s := storeFitted l count.toNat s) hquiet
    have hberth := berth_setupNotices count.toNat (s := storeFitted l count.toNat s) hquiet
    have hflag := flag_setupNotices count.toNat (s := storeFitted l count.toNat s) hquiet (nodup_berthsOf l)
    simp only [mem_berthsOf] at hberth
    rw [lineSetup_of_fit hl hfree hcount]
    generalize setupNotices count.toNat (berthsOf l) (storeFitted l count.toNat s) = u at hu hberth hflag ⊢
    exact ⟨clearLinks l u, rfl, clearLinks_eq_of_notices hu, fun b hb => (hberth b).trans (if_neg hb),
      fun b hb => (hberth b).trans (if_pos hb), hflag⟩

end Sys2Proof.Machine
end

section
/-! PROOFS. A GOOD reply from an ABSENT berth (R5, R38, R71). -/

namespace Sys2Proof

theorem Table.set_get_self {α : Type} {n : Nat} (t : Table α n) (i : Fin n) : t.set i (t.get i) = t :=
  Table.modify_id t i

end Sys2Proof

namespace Sys2Proof.Machine

/-! ## An acquisition changes one picture lane field and one line's lanes (R71) -/

section
variable (s : State) (b : BerthNo) (field : LaneField) (held : LaneSet)

theorem lane_withLaneField : ((withLaneField s b field held).live b).lane = field := by
  simp [withLaneField, State.live]

theorem laneSet_withLaneField : (withLaneField s b field held).laneSet (lineOf b) = held := by
  simp [withLaneField, State.laneSet]

theorem withLaneField_self : withLaneField s b (s.live b).lane (s.laneSet (lineOf b)) = s := by
  unfold withLaneField
  rw [State.laneSet, Table.set_get_self]
  exact congrArg s.setBerths (Table.set_get_self s.berths b)

theorem acquire_eq_withLaneField :
    acquire b s = withLaneField s b ((acquire b s).live b).lane ((acquire b s).laneSet (lineOf b)) := by
  have hshape : ∃ field held, acquire b s = withLaneField s b field held := by
    unfold acquire
    dsimp only
    split
    · split
      · exact ⟨_, _, (withLaneField_self s b).symm⟩
      · split
        · exact ⟨_, _, rfl⟩
        · split
          · exact ⟨_, _, rfl⟩
          · exact ⟨_, _, rfl⟩
    · exact ⟨_, _, (withLaneField_self s b).symm⟩
  obtain ⟨field, held, h⟩ := hshape
  rw [h, lane_withLaneField, laneSet_withLaneField]

end

/-- What the acquisition leaves, read of its result. -/
theorem lane_and_laneSet_of_acquire {s : State} {b : BerthNo} {field : LaneField} {held : LaneSet}
    (h : acquire b s = withLaneField s b field held) :
    ((acquire b s).live b).lane = field ∧ (acquire b s).laneSet (lineOf b) = held := by
  rw [h]
  exact ⟨lane_withLaneField s b field held, laneSet_withLaneField s b field held⟩

/-! ## A berth enters PRESENT (R5, R42) -/

/-- With Picture OFF a berth wants no lane, so that the entry into PRESENT is an acquisition whatever Picture is. -/
theorem entersPresent_eq_acquire (b : BerthNo) (s : State) : entersPresent b s = acquire b (mixEntersPresent b s) := by
  unfold entersPresent
  dsimp only
  split
  · rfl
  · next hpicture =>
    exact (acquire_of_not_wants fun p ⟨_, hp, _⟩ => hpicture hp).symm

theorem notify_present_of_absent {s : State} {b : BerthNo} (h : s.presence b = .absent) :
    notify .present b s =
      raise .berthPresence (acquire b (mixEntersPresent b (s.modLive b fun r => { r with presence := .present }))) := by
  simp [notify, h, entersPresent_eq_acquire]

/-! ## What the reply leaves (R38) -/

/-- The mix state of a berth that has just become PRESENT (R130). -/
def enteredMix (m : MixState) : MixState :=
  { m with floor := none, gate := 127, duck := 0, gateTarget := 127, duckTarget := 0 }

/-- The part at the acquisition of a berth that a GOOD reply makes PRESENT: its slot completed, and its link record, presence
and mix state as the reply leaves them. -/
def entering (s : State) (b : BerthNo) (link : LinkRecord) : State :=
  { slotDone s (lineOf b) b link with
    berths := s.berths.set b { s.berth b with live := { s.live b with presence := .present } }
    mix := s.mix.set b (enteredMix (s.mixOf b)) }

section
variable (s : State) (b : BerthNo) (link : LinkRecord)

theorem live_entering : (entering s b link).live b = { s.live b with presence := .present } := by
  simp [entering, State.live]

theorem wantsLaneFor_entering_iff (p : ProgrammeNo) : WantsLaneFor (entering s b link) b p ↔
    (s.live b).picture = true ∧ (s.live b).programme = some p ∧ (s.programme p).picture = true := by
  unfold WantsLaneFor State.presence
  rw [live_entering]
  simp [entering, State.programme, slotDone]

end

/-- The part once a GOOD reply has made berth `b` PRESENT, with attributes, picture lane field and lanes of its line. -/
def entered (s : State) (b : BerthNo) (link : LinkRecord) (attrs : Byte) (field : LaneField) (held : LaneSet) : State :=
  { slotDone s (lineOf b) b link with
    berths := s.berths.set b { s.berth b with
      live := { s.live b with presence := .present, attrs := attrs, lane := field } }
    lanes := s.lanes.set (lineOf b) held
    mix := s.mix.set b (enteredMix (s.mixOf b))
    events := { s.events with flags := s.events.flags ||| eventMask .berthPresence } }

section
variable (s : State) (b : BerthNo) (link : LinkRecord) (attrs : Byte) (field : LaneField) (held : LaneSet)

theorem berth_entered (c : BerthNo) : (entered s b link attrs field held).berth c =
    if b = c then
      { s.berth b with live := { s.live b with presence := .present, attrs := attrs, lane := field } }
    else s.berth c := Table.get_set ..

theorem mixOf_entered (c : BerthNo) : (entered s b link attrs field held).mixOf c =
    if b = c then enteredMix (s.mixOf b) else s.mixOf c := Table.get_set ..

theorem lane_entered : ((entered s b link attrs field held).live b).lane = field :=
  congrArg (fun x : Berth => x.live.lane) ((berth_entered s b link attrs field held b).trans (if_pos rfl))

theorem laneSet_entered (l : LineNo) : (entered s b link attrs field held).laneSet l =
    if lineOf b = l then held else s.laneSet l := Table.get_set ..

/-- The indications come after the acquisition, which does not read them. -/
theorem writeSensed_withLaneField_entering (occupied headphone : Bool) :
    writeSensed b occupied headphone (raise .berthPresence (withLaneField (entering s b link) b field held)) =
      entered s b link (putAttr (putAttr (s.live b).attrs attrOccupied occupied) attrHeadphone headphone) field held := by
  have hberths := (congrArg (fun t => Table.modify t b fun x => { x with
      live := { x.live with attrs := putAttr (putAttr x.live.attrs attrOccupied occupied) attrHeadphone headphone } })
    (Table.modify_modify s.berths b (fun x => { x with live := { x.live with presence := .present } })
      fun x => { x with live := { x.live with lane := field } })).trans (Table.modify_modify s.berths b ..)
  exact congrArg (entered s b link
    (putAttr (putAttr (s.live b).attrs attrOccupied occupied) attrHeadphone headphone) field held).setBerths hberths

end

/-- A GOOD reply from an ABSENT berth: its link record, its presence, an acquisition and its indications. -/
theorem goodFromAbsent_eq {s : State} {b : BerthNo} (h : s.presence b = .absent) (toggle occupied headphone : Bool)
    {field : LaneField} {held : LaneSet} {link : LinkRecord}
    (hlink : link = { goodLink (s.linkOf b) with takenToggle := toggle })
    (hacquire : acquire b (entering s b link) = withLaneField (entering s b link) b field held) :
    goodFromAbsent b toggle occupied headphone (s.modLine (lineOf b) fun x => { x with slotOpen := false }) =
      entered s b link (putAttr (putAttr (s.live b).attrs attrOccupied occupied) attrHeadphone headphone) field held := by
  have hslot : putToggle b toggle ((s.modLine (lineOf b) fun x => { x with slotOpen := false }).modLinkOf b goodLink) =
      slotDone s (lineOf b) b link := by
    rw [hlink]
    exact (State.modLinkOf_modLinkOf ..).trans
      (modLinkOf_modLine_eq_slotDone s b fun r => { goodLink r with takenToggle := toggle })
  have hentering : mixEntersPresent b ((slotDone s (lineOf b) b link).modLive b fun r => { r with presence := .present }) =
      entering s b link := rfl
  rw [goodFromAbsent, hslot, notify_present_of_absent (s := slotDone s (lineOf b) b link) h, hentering, hacquire,
    writeSensed_withLaneField_entering]

/-- The slot of an ABSENT berth completes with a GOOD reply. -/
theorem exec_replySlotComplete_of_absent {s : State} {b : BerthNo} {k a f v : Byte} {link : LinkRecord}
    (hslot : SlotOf s (lineOf b) b) (hp : s.presence b = .absent) (hsum : k + a + f + v = 0)
    (hlink : link = { goodLink (s.linkOf b) with takenToggle := f.getLsbD 0 }) :
    exec (.replySlotComplete (lineOf b) (.sent [k, a, f, v])) s =
      .next (entered s b link (((s.live b).attrs &&& 0xFC) ||| ((f >>> 1) &&& 3))
        ((acquire b (entering s b link)).live b).lane ((acquire b (entering s b link)).laneSet (lineOf b))) := by
  have hpresent : s.presence b ≠ .present := by simp [hp]
  rw [exec_replySlotComplete_of_slotOf hslot (.inl hp), classify_of_sum hsum, ← putSensed_eq]
  show Host.Outcome.next (if s.presence b = .present then _ else _) = _
  rw [if_neg hpresent, goodFromAbsent_eq hp _ _ _ hlink (acquire_eq_withLaneField ..)]

/-! ## What LanesHold says of an ABSENT berth and of the lanes (R67, R69) -/

theorem lane_of_not_present {s : State} (h : LanesHold s) {b : BerthNo} (hp : s.presence b ≠ .present) :
    (s.live b).lane = .none := by
  have hwants : wantsLane s b = false := by
    have hlive : (s.live b).presence ≠ .present := hp
    simp [wantsLane, hlive]
  have hfield := h.fields b
  unfold LaneFieldRight at hfield
  split at hfield
  · assumption
  · simp [hwants] at hfield
  · simp [hwants] at hfield

/-- No two lanes of a line carry the same programme. -/
theorem not_carries_of_ne {s : State} (h : LanesHold s) {l : LineNo} {m n : LaneNo} {p : ProgrammeNo} {c : Nat}
    (hn : (s.laneSet l).lanes.get n = .carrying p c) (hmn : m ≠ n) : ¬ Carries s l m p := by
  have hright := h.lanes l n
  simp only [LaneRight, hn] at hright
  exact hright.2.2 m hmn

/-- Settles O28: the berth enters PRESENT with no lane of its own, and what it holds afterwards is what the acquisition of
R71 gives it. -/
theorem goodReplyFromAbsentBerth : Obligations.GoodReplyFromAbsentBerth := by
  intro s l b k a f v hslot hlanes hp hsum r' held
  obtain rfl := hslot.line
  have hexec := exec_replySlotComplete_of_absent (link := r') hslot hp hsum rfl
  obtain ⟨hkeeps, htakes⟩ := acquired_acquire b (entering s b r')
  have hreads := @lane_and_laneSet_of_acquire (entering s b r') b
  generalize ((s.live b).attrs &&& 0xFC) ||| ((f >>> 1) &&& 3) = attrs at hexec ⊢
  generalize ((acquire b (entering s b r')).live b).lane = field at hexec hreads
  generalize (acquire b (entering s b r')).laneSet (lineOf b) = lanes at hexec hreads
  have hlane := lane_entered s b r' attrs field lanes
  have hset := laneSet_entered s b r' attrs field lanes
  refine ⟨_, hexec, rfl, ?_, (mixOf_entered ..).trans (if_pos rfl),
    fun c hc => ⟨(berth_entered ..).trans (if_neg hc.symm), (mixOf_entered ..).trans (if_neg hc.symm)⟩,
    fun m hm => (hset m).trans (if_neg hm.symm), ?_, ?_⟩
  · rw [hlane, berth_entered, if_pos rfl]
  · intro hno
    have hnone : ∀ p, ¬ WantsLaneFor (entering s b r') b p := fun p hwants => by
      obtain ⟨hpicture, hprogramme, hcarried⟩ := (wantsLaneFor_entering_iff s b r' p).1 hwants
      rcases hno with hoff | hno
      · simp [hoff] at hpicture
      · simp [hno p hprogramme] at hcarried
    obtain ⟨hfield, hunchanged⟩ := hreads ((hkeeps hnone).trans (withLaneField_self _ b).symm)
    rw [live_entering] at hfield
    rw [hlane, hset, if_pos rfl, hfield, hunchanged]
    exact ⟨rfl, lane_of_not_present hlanes (by simp [hp])⟩
  · intro p hprogramme hpicture hcarried
    obtain ⟨hjoins, hfree, hwaits⟩ :=
      htakes p ((wantsLaneFor_entering_iff s b r' p).2 ⟨hpicture, hprogramme, hcarried⟩)
    rw [hlane, hset, if_pos rfl]
    exact ⟨fun n c hn => hreads (hjoins n c hn fun m hm => not_carries_of_ne hlanes hn hm.ne),
      fun hnone n hn hlow => hreads (hfree hnone n hn hlow), fun hnone hfull => hreads (hwaits hnone hfull)⟩

end Sys2Proof.Machine
end

section
/-! PROOFS. Media frames that pass the tests: AUDIO, PICTURE and RECORDED arrivals (chapter 3). -/

namespace Sys2Proof.Machine

/-! ## The media header and the payload (R49, R50, R183) -/

theorem toNat_halfOf (hi lo : Byte) : (halfOf hi lo).toNat = 256 * hi.toNat + lo.toNat := by
  rw [halfOf, BitVec.toNat_append, ← Nat.shiftLeft_add_eq_or_of_lt lo.isLt, Nat.shiftLeft_eq, Nat.mul_comm]

theorem mediaHeader_cons (k name trk seq fl hi lo : Byte) (held : List Byte) :
    mediaHeader (k :: name :: trk :: seq :: fl :: hi :: lo :: held) =
      ⟨k, name, trk, seq, fl.getLsbD 0, 256 * hi.toNat + lo.toNat, held⟩ := by
  rw [← toNat_halfOf]
  rfl

/-- A media frame that is neither damaged nor foreign goes by its header alone. -/
theorem exec_mediaFrame_of_bytes {s : State} {f : EthernetFrame} {k name trk seq fl hi lo : Byte} {held : List Byte}
    (hup : Up s) (hgood : f.checkGood = true) (htype : f.etherType = 0x8C51)
    (hbytes : f.bytes = k :: name :: trk :: seq :: fl :: hi :: lo :: held) :
    exec (.mediaFrame f) s =
      .next (takeMediaFrame ⟨k, name, trk, seq, fl.getLsbD 0, 256 * hi.toNat + lo.toNat, held⟩ s) := by
  show Host.Outcome.next (whenUp s fun s => arriveFrame f s) = _
  rw [whenUp_of_up hup, ← mediaHeader_cons, ← hbytes]
  simp [arriveFrame, hgood, htype, mediaType]

/-- Sample `i` of a payload of 96 bytes is its bytes 2i and 2i + 1, most significant first (R50). -/
theorem get_blockOf_take {held : List Byte} (h : 96 ≤ held.length) (i : Fin 48) :
    some ((blockOf (held.take 96)).get i) =
      held[2 * i.val]?.bind fun hi => held[2 * i.val + 1]?.map fun lo => halfOf hi lo := by
  have hhi : 2 * i.val < held.length := by omega
  have hlo : 2 * i.val + 1 < held.length := by omega
  have hcut : 2 * i.val + 1 < 96 := by omega
  simp [blockOf, hhi, hlo, hcut, Nat.lt_of_succ_lt hcut]

/-! ## Where a frame goes that passes the tests (R50) -/

section
variable {s : State} {name trk seq : Byte} {e : Bool} {len : Nat} {held : List Byte} {p : ProgrammeNo}

theorem takeMediaFrame_audio {k : TrackNo} (hheld : 96 ≤ held.length) (hp : name.toNat = p.val) (hk : trk.toNat = k.val)
    (hcount : k.val < (s.programme p).trackCount) :
    takeMediaFrame ⟨1, name, trk, seq, e, 96, held⟩ s = s.modTrack p k (audioArrival seq (blockOf (held.take 96))) := by
  have hroute : routeMedia s ⟨1, name, trk, seq, e, 96, held⟩ = .audio p k := by
    simp [routeMedia, mediaKind, lengthFits, hheld, carriedFin_of_eq hp, carriedFin_of_eq hk, hcount]
  simp only [takeMediaFrame, hroute]

theorem takeMediaFrame_picture (hmin : 1 ≤ len) (hmax : len ≤ 1400) (hheld : len ≤ held.length) (hp : name.toNat = p.val)
    (hpicture : (s.programme p).picture = true) :
    takeMediaFrame ⟨2, name, trk, seq, e, len, held⟩ s = forwardPicture p (held.take len) s := by
  have hroute : routeMedia s ⟨2, name, trk, seq, e, len, held⟩ = .picture p := by
    simp [routeMedia, mediaKind, lengthFits, hmin, hmax, hheld, carriedFin_of_eq hp, hpicture]
  simp only [takeMediaFrame, hroute]

theorem takeMediaFrame_recorded (hheld : 96 ≤ held.length) :
    takeMediaFrame ⟨3, name, trk, seq, e, 96, held⟩ s = recordedArrival name ⟨blockOf (held.take 96), e⟩ s := by
  have hroute : routeMedia s ⟨3, name, trk, seq, e, 96, held⟩ = .recorded := by
    simp [routeMedia, mediaKind, lengthFits, hheld]
  simp only [takeMediaFrame, hroute]

end

/-! ## AUDIO arrivals (R56, R57) -/

theorem get_slide (m : Nat) (slots : Table (Option Block) jitterSlots) (i : Fin jitterSlots) :
    (slide m slots).get i = if h : i.val + m < jitterSlots then slots.get ⟨i.val + m, h⟩ else none :=
  Table.get_ofFn _ i

section
variable {n : Byte} {blk : Block} {x : Track}

theorem audioArrival_of_not_flowing (h : x.state ≠ .flowing) : audioArrival n blk x = synchronise n blk x := by
  unfold audioArrival
  split
  · contradiction
  · rfl

theorem audioArrival_of_flowing (h : x.state = .flowing) : audioArrival n blk x = placeArrival n blk x := by
  simp only [audioArrival, h]

/-- Distances 0 to 3 are in the window. -/
theorem placeArrival_of_within (h : (n - x.expected).toNat < jitterSlots) :
    placeArrival n blk x = { x with slots := x.slots.set ⟨(n - x.expected).toNat, h⟩ (some blk), accepted := x.accepted + 1 } :=
  dif_pos h

/-- Distances 4 to 127 are ahead of the window, which slides until the arrival is in its last slot. -/
theorem placeArrival_of_ahead (hmin : 4 ≤ (n - x.expected).toNat) (hmax : (n - x.expected).toNat ≤ 127) :
    placeArrival n blk x = { x with
      slots := (slide ((n - x.expected).toNat - 3) x.slots).set 3 (some blk)
      expected := n - 3
      skipped := min 65535 (x.skipped + ((n - x.expected).toNat - 3))
      accepted := x.accepted + 1 } :=
  (dif_neg (Nat.not_lt.2 hmin)).trans (if_pos (Nat.lt_succ_of_le hmax))

/-- Distances 128 to 255 are behind the window. -/
theorem placeArrival_of_behind (h : 128 ≤ (n - x.expected).toNat) :
    placeArrival n blk x = { x with late := min 65535 (x.late + 1) } :=
  (dif_neg (Nat.not_lt.2 (le_trans (by decide) h))).trans (if_neg (Nat.not_lt.2 h))

end

/-- Settles O34: the frame changes its one track by `audioArrival`, whose cases are the track's state and the distance. -/
theorem audioArrivals : Obligations.AudioArrivals := by
  intro s f name trk seq fl held p k hup hgood htype hbytes hheld hp hk hcount x d
  refine ⟨blockOf (held.take 96), audioArrival seq (blockOf (held.take 96)) x, get_blockOf_take hheld, ?_, ?_, ?_⟩
  · exact (exec_mediaFrame_of_bytes hup hgood htype hbytes).trans
      (congrArg Host.Outcome.next (takeMediaFrame_audio hheld hp hk hcount))
  · intro hstate
    rw [audioArrival_of_not_flowing hstate]
    refine ⟨rfl, fun i => ?_⟩
    exact (Table.get_set ..).trans (if_congr eq_comm rfl (Table.get_fill ..))
  · intro hstate
    rw [audioArrival_of_flowing hstate]
    refine ⟨fun hwithin => ?_, fun hmin hmax => ?_, placeArrival_of_behind⟩
    · rw [placeArrival_of_within (Nat.lt_succ_of_le hwithin)]
      refine ⟨rfl, fun i => ?_⟩
      exact (Table.get_set ..).trans (if_congr (by rw [Fin.ext_iff, eq_comm]) rfl rfl)
    · rw [placeArrival_of_ahead hmin hmax]
      refine ⟨rfl, fun i => ?_⟩
      exact (Table.get_set ..).trans (if_congr (by rw [Fin.ext_iff, eq_comm]; rfl) rfl (get_slide ..))

/-! ## PICTURE arrivals (R61) -/

/-- The programme's pictures received counter rises. -/
def countReceived (r : Programme) : Programme := { r with received := r.received + 1 }

/-- The programme's pictures unplaced counter rises. -/
def countUnplaced (r : Programme) : Programme := { r with unplaced := r.unplaced + 1 }

theorem State.modProgramme_modProgramme (s : State) (p : ProgrammeNo) (f g : Programme → Programme) :
    (s.modProgramme p f).modProgramme p g = s.modProgramme p fun r => g (f r) :=
  congrArg (fun ps => s.modMedia fun m => { m with programmes := ps }) (Table.modify_modify s.media.programmes p f g)

/-- What picture forwarding reads and changes of a line: its Line Controller and its lanes. -/
def lineAndLanes (l : LineNo) (s : State) : Line × LaneSet := (s.line l, s.laneSet l)

theorem lineAndLanes_modProgramme (s : State) (l : LineNo) (p : ProgrammeNo) (f : Programme → Programme) :
    lineAndLanes l (s.modProgramme p f) = lineAndLanes l s := rfl

/-- One line's turn of picture forwarding. -/
def offerAtLine (p : ProgrammeNo) (pk : Packet) (s : State) (l : LineNo) : State :=
  match pictureLane s p l with
  | some n => offerPacket pk l n s
  | none => s

/-- Turns that each read and change their own item alone leave every item as its own turn, taken first, leaves it. -/
theorem forEach_own_turn {ι α : Type} [DecidableEq ι] (g : ι → State → α) {f : State → ι → State}
    (hown : ∀ s t i, g i s = g i t → g i (f s i) = g i (f t i)) (hother : ∀ s i j, i ≠ j → g j (f s i) = g j s) {is : List ι}
    (hnodup : is.Nodup) (s : State) {j : ι} (hj : j ∈ is) : g j (forEach is f s) = g j (f s j) := by
  induction is generalizing s with
  | nil => cases hj
  | cons i is ih =>
    obtain ⟨hi, hnodup⟩ := List.nodup_cons.1 hnodup
    show g j (forEach is f (f s i)) = _
    rcases List.mem_cons.1 hj with rfl | hj
    · exact forEach_invariant (fun t => g j t = g j (f s j)) is
        (fun t i' hi' ht => (hother t i' j (fun h => hi (h ▸ hi'))).trans ht) rfl
    · have hij : i ≠ j := fun h => hi (h ▸ hj)
      exact (ih hnodup (f s i) hj).trans (hown _ _ j (hother s i j hij))

section
variable {s : State} {l : LineNo} {n : LaneNo} {p : ProgrammeNo} {pk : Packet}

theorem offerPacket_of_room (h : ((s.line l).queues.get n).length < 8) :
    offerPacket pk l n s =
      s.modLine l fun x => { x with queues := x.queues.set n ((s.line l).queues.get n ++ [pk]) } :=
  if_pos h

theorem offerPacket_of_full (h : 8 ≤ ((s.line l).queues.get n).length) :
    offerPacket pk l n s = s.modLaneSet l fun x => { x with drops := x.drops.modify n countHalf } :=
  if_neg (Nat.not_lt.2 h)

theorem pictureLane_of_carries (hrun : (s.line l).state = .running) (hn : Carries s l n p)
    (hlow : ∀ m, m < n → ¬ Carries s l m p) : pictureLane s p l = some n := by
  rw [pictureLane, if_pos hrun, carrierOf_of_carries hn hlow]

theorem pictureLane_eq_none (h : ¬ ((s.line l).state = .running ∧ ∃ n, Carries s l n p)) : pictureLane s p l = none := by
  unfold pictureLane
  split
  · next hrun => exact carrierOf_of_none fun n hn => h ⟨hrun, n, hn⟩
  · rfl

theorem lineCarries_iff : lineCarries s p l = true ↔ (s.line l).state = .running ∧ ∃ n, Carries s l n p := by
  refine ⟨fun h => by_contra fun hno => ?_, fun ⟨hrun, n, hn⟩ => ?_⟩
  · simp [lineCarries, pictureLane_eq_none hno] at h
  · unfold lineCarries pictureLane
    rw [if_pos hrun, carrierOf_eq, List.find?_isSome]
    exact ⟨n, List.mem_finRange n, by simpa [carries_iff] using hn⟩

theorem offerAtLine_of_lane (h : pictureLane s p l = some n) : offerAtLine p pk s l = offerPacket pk l n s := by
  simp only [offerAtLine, h]

theorem offerAtLine_of_no_lane (h : pictureLane s p l = none) : offerAtLine p pk s l = s := by
  simp only [offerAtLine, h]

end

section
variable (p : ProgrammeNo) (pk : Packet)

/-- A line's turn changes lines and lanes alone. -/
theorem offerAtLine_eq (s : State) (l : LineNo) : offerAtLine p pk s l =
    { s with lines := (offerAtLine p pk s l).lines, lanes := (offerAtLine p pk s l).lanes } := by
  unfold offerAtLine offerPacket
  dsimp only
  (repeat' split) <;> rfl

/-- A line's turn leaves the other lines. -/
theorem lineAndLanes_offerAtLine_of_ne (s : State) {l m : LineNo} (h : l ≠ m) :
    lineAndLanes m (offerAtLine p pk s l) = lineAndLanes m s := by
  unfold offerAtLine
  split
  · unfold offerPacket
    dsimp only
    split <;> simp [lineAndLanes, State.line_modLine, State.laneSet_modLaneSet, h]
  · rfl

/-- A line's turn goes by that line alone. -/
theorem lineAndLanes_offerAtLine_congr {s t : State} {l : LineNo} (h : lineAndLanes l s = lineAndLanes l t) :
    lineAndLanes l (offerAtLine p pk s l) = lineAndLanes l (offerAtLine p pk t l) := by
  obtain ⟨hline, hlanes⟩ := Prod.mk.inj h
  have hlane : pictureLane s p l = pictureLane t p l := by rw [pictureLane, pictureLane, hline, hlanes]
  unfold offerAtLine
  rw [hlane]
  split
  · unfold offerPacket
    rw [hline]
    dsimp only
    split <;> simp [lineAndLanes, hline, hlanes]
  · exact h

/-- The four turns change lines and lanes alone. -/
theorem forEach_offerAtLine_eq (ls : List LineNo) (s : State) :
    ∃ lines lanes, forEach ls (offerAtLine p pk) s = { s with lines := lines, lanes := lanes } := by
  refine forEach_invariant (fun t => ∃ lines lanes, t = { s with lines := lines, lanes := lanes }) ls ?_ ⟨_, _, rfl⟩
  rintro _ l - ⟨_, _, rfl⟩
  exact ⟨_, _, offerAtLine_eq p pk _ l⟩

/-- The frame is counted as received, each line has its turn, and the frame is counted as unplaced if no line took it. -/
theorem forwardPicture_eq_forEach (s : State) : forwardPicture p pk s =
    if (List.finRange lineCount).any (lineCarries s p) then
      forEach (List.finRange lineCount) (offerAtLine p pk) (s.modProgramme p countReceived)
    else
      (forEach (List.finRange lineCount) (offerAtLine p pk) (s.modProgramme p countReceived)).modProgramme p countUnplaced :=
  rfl

/-- Forwarding changes lines, lanes and the programme's two picture counters. -/
theorem forwardPicture_eq (s : State) : ∃ lines lanes, forwardPicture p pk s =
    { s with
      lines := lines
      lanes := lanes
      media := { s.media with programmes := s.media.programmes.set p { s.programme p with
        received := (s.programme p).received + 1
        unplaced := if (List.finRange lineCount).any (lineCarries s p) then (s.programme p).unplaced
          else (s.programme p).unplaced + 1 } } } := by
  obtain ⟨lines, lanes, h⟩ := forEach_offerAtLine_eq p pk (List.finRange lineCount) (s.modProgramme p countReceived)
  refine ⟨lines, lanes, ?_⟩
  rw [forwardPicture_eq_forEach, h]
  split
  · rfl
  · exact congrArg (fun t : State => { t with lines := lines, lanes := lanes })
      (s.modProgramme_modProgramme p countReceived countUnplaced)

/-- What forwarding leaves of a line is what the line's own turn leaves of it. -/
theorem lineAndLanes_forwardPicture (s : State) (l : LineNo) :
    lineAndLanes l (forwardPicture p pk s) = lineAndLanes l (offerAtLine p pk s l) :=
  calc lineAndLanes l (forwardPicture p pk s)
    _ = lineAndLanes l (forEach (List.finRange lineCount) (offerAtLine p pk) (s.modProgramme p countReceived)) := by
      rw [forwardPicture_eq_forEach]
      split
      · rfl
      · exact lineAndLanes_modProgramme ..
    _ = lineAndLanes l (offerAtLine p pk (s.modProgramme p countReceived) l) :=
      forEach_own_turn lineAndLanes (fun _ _ _ => lineAndLanes_offerAtLine_congr p pk)
        (fun s _ _ => lineAndLanes_offerAtLine_of_ne p pk s) (List.nodup_finRange lineCount) _ (List.mem_finRange l)
    _ = lineAndLanes l (offerAtLine p pk s l) := lineAndLanes_offerAtLine_congr p pk (lineAndLanes_modProgramme ..)

end

/-! ## RECORDED arrivals (R64) -/

section
variable {s : State} {h : Byte} {b : RecordedBlock}

theorem recordedArrival_of_room (htarget : s.media.recorded.target = some h) (hroom : s.media.recorded.blocks.length < 64) :
    recordedArrival h b s =
      s.modRecorded fun r => { r with blocks := r.blocks ++ [b], appended := r.appended + 1 } :=
  (if_pos htarget).trans (if_pos hroom)

theorem recordedArrival_of_full (htarget : s.media.recorded.target = some h) (hfull : 64 ≤ s.media.recorded.blocks.length) :
    recordedArrival h b s = raise .mediaError (s.modRecorded fun r => { r with full := countHalf r.full }) :=
  (if_pos htarget).trans (if_neg (Nat.not_lt.2 hfull))

theorem recordedArrival_of_stray (hstray : s.media.recorded.target ≠ some h) :
    recordedArrival h b s = s.modRecorded fun r => { r with stray := countHalf r.stray } :=
  if_neg hstray

end

/-- A RECORDED frame that passes the tests is the recorded buffer's to judge (R50 note 1, R64). -/
theorem exec_recordedFrame {s : State} {f : EthernetFrame} {h trk seq fl : Byte} {held : List Byte} (hup : Up s)
    (hgood : f.checkGood = true) (htype : f.etherType = 0x8C51)
    (hbytes : f.bytes = 3 :: h :: trk :: seq :: fl :: 0 :: 96 :: held) (hheld : 96 ≤ held.length) :
    exec (.mediaFrame f) s = .next (recordedArrival h ⟨blockOf (held.take 96), fl.getLsbD 0⟩ s) :=
  (exec_mediaFrame_of_bytes hup hgood htype hbytes).trans (congrArg Host.Outcome.next (takeMediaFrame_recorded hheld))

/-- Settles O36: each line's lanes and send queues are left as the line's own turn leaves them; a RECORDED frame is
`recordedArrival`. -/
theorem pictureAndRecordedArrivals : Obligations.PictureAndRecordedArrivals := by
  refine ⟨?_, ?_⟩
  · intro s f name trk seq fl hi lo held p hup hgood htype hbytes len pk hmin hmax hheld hp hpicture takes
    have hexec : exec (.mediaFrame f) s = .next (forwardPicture p pk s) :=
      (exec_mediaFrame_of_bytes hup hgood htype hbytes).trans
        (congrArg Host.Outcome.next (takeMediaFrame_picture hmin hmax hheld hp hpicture))
    have htakes : (List.finRange lineCount).any (lineCarries s p) = true ↔ ∃ l, takes l := by
      simp [takes, lineCarries_iff]
    obtain ⟨lines, lanes, heq⟩ := forwardPicture_eq p pk s
    refine ⟨_, _, hexec, by rw [heq], fun hsome => if_pos (htakes.2 hsome),
      fun hnone => if_neg fun hany => (htakes.1 hany).elim hnone, fun l => ?_⟩
    obtain ⟨hline, hlanes⟩ := Prod.mk.inj (lineAndLanes_forwardPicture p pk s l)
    rw [hline, hlanes]
    refine ⟨fun hno => ?_, fun n hrun hn hlow => ?_⟩
    · rw [offerAtLine_of_no_lane (pictureLane_eq_none hno)]
      exact ⟨rfl, rfl⟩
    · rw [offerAtLine_of_lane (pictureLane_of_carries hrun hn hlow)]
      refine ⟨fun hroom => ?_, fun hfull => ?_⟩
      · rw [offerPacket_of_room hroom]
        exact ⟨State.line_modLine_same .., rfl⟩
      · rw [offerPacket_of_full hfull]
        exact ⟨rfl, State.laneSet_modLaneSet_same ..⟩
  · intro s f h trk seq fl held hup hgood htype hbytes hheld r
    have hexec := exec_recordedFrame hup hgood htype hbytes hheld
    refine ⟨blockOf (held.take 96), get_blockOf_take hheld, fun htarget hroom => ?_, fun htarget hfull => ?_, fun hstray => ?_⟩
    · rw [hexec, recordedArrival_of_room htarget hroom]
      rfl
    · rw [hexec, recordedArrival_of_full htarget hfull]
      rfl
    · rw [hexec, recordedArrival_of_stray hstray]
      rfl

end Sys2Proof.Machine
end

section
/-! PROOFS. Releases and hand-overs, and the route change of PICTURE OFF (R25, R72 to R75). -/

namespace Sys2Proof.Machine

/-! ## A route change with Picture OFF (R69, R75) -/

/-- With Picture OFF a berth wants no lane, so that its route change is the release alone. -/
theorem routeChange_of_picture_off {s : State} {b : BerthNo} (h : (s.live b).picture = false) :
    routeChange b s = releaseRoute b s := by
  have hkept : ((releaseRoute b s).live b).picture = false := (picture_of_rest (rest_live_releaseRoute b s b)).trans h
  exact acquire_of_not_wants fun p ⟨_, hpicture, _⟩ => absurd (hkept.symm.trans hpicture) Bool.false_ne_true

/-! ## PICTURE OFF at the Berth Table (R22, R25) -/

/-- PICTURE OFF of a PRESENT berth that is not locked and whose Picture is ON: a release, and BERTH_CHANGED. -/
theorem takeBerthRequest_pictureOff {s : State} {b : BerthNo} (hp : s.presence b = .present)
    (hlock : hasAttr (s.live b).attrs attrLock = false) (hpicture : (s.live b).picture = true) :
    takeBerthRequest b .pictureOff s =
      raise .berthChanged (releaseRoute b (s.modLive b fun _ => { s.live b with picture := false })) := by
  have hpictureChanges : false ≠ (s.live b).picture := by simp [hpicture]
  have hchanges : applyRequest s .pictureOff (s.live b) ≠ s.live b := fun h =>
    hpictureChanges (congrArg LiveRecord.picture h)
  rw [takeBerthRequest_of_unlocked .pictureOff hp hlock, if_neg hchanges,
    changedLive_of_route b _ s (.inr hpictureChanges),
    routeChange_of_picture_off (congrArg LiveRecord.picture (State.live_modLive_same ..))]
  rfl

/-- The indications of a reply leave LOCK. -/
theorem hasAttr_lock_sensed (x f : Byte) :
    hasAttr ((x &&& 0xFC) ||| ((f >>> 1) &&& 3)) attrLock = hasAttr x attrLock := by
  rw [← putSensed_eq, hasAttr_lock_putSensed]

/-- A release leaves the event flags, so that the event comes on top of those before it. -/
theorem raise_releaseRoute (e : Event) (b : BerthNo) (s : State) :
    raise e (releaseRoute b s) =
      { releaseRoute b s with events := { s.events with flags := s.events.flags ||| eventMask e } } := by
  have hevents : (releaseRoute b s).events = s.events := by simp
  rw [← hevents]
  rfl

/-- Settles O31: `releaseRoute` is the release of R72 to R74, and PICTURE OFF, after which its berth
wants no lane, is that release and BERTH_CHANGED. -/
theorem releasesAndHandOvers : Obligations.ReleasesAndHandOvers := by
  refine ⟨fun s b => released_releaseRoute b s, ?_⟩
  intro s l b a f v hslot hp hsum htoggle hlock hpicture r' off
  obtain rfl := hslot.line
  let sensed : LiveRecord := { s.live b with attrs := ((s.live b).attrs &&& 0xFC) ||| ((f >>> 1) &&& 3) }
  have hlive : (replied s b r' sensed).live b = sensed := live_replied_same s b r' sensed
  have hp' : (replied s b r' sensed).presence b = .present := (congrArg LiveRecord.presence hlive).trans hp
  have hpicture' : ((replied s b r' sensed).live b).picture = true := (congrArg LiveRecord.picture hlive).trans hpicture
  have hlock' : hasAttr ((replied s b r' sensed).live b).attrs attrLock = false := by
    rw [hlive]
    exact (hasAttr_lock_sensed _ f).trans hlock
  have hoff : (replied s b r' sensed).modLive b
      (fun _ => { (replied s b r' sensed).live b with picture := false }) = off := by
    rw [hlive]
    exact modLive_replied s b r' sensed _
  refine ⟨releaseRoute b off, released_releaseRoute b off, ?_⟩
  calc exec (.replySlotComplete (lineOf b) (.sent [5, a, f, v])) s
    _ = .next (takeBerthRequest b .pictureOff (replied s b r' sensed)) :=
      exec_replySlotComplete_of_request hslot hp hsum htoggle hlock rfl fun _ => rfl
    _ = .next (raise .berthChanged (releaseRoute b off)) := by
      rw [takeBerthRequest_pictureOff hp' hlock' hpicture', hoff]
    _ = _ := congrArg Host.Outcome.next (raise_releaseRoute .berthChanged b off)

end Sys2Proof.Machine
end

section
/-! PROOFS. CUT, with what entering TAIL, a removal and a hand-over of the recorded source leave (R105, R110, R115, R116,
R118, R129). -/

namespace Sys2Proof.Machine

/-! ## The entry that a handle names (R88) -/

/-- No two entries share a handle, so that an entry of the table is the one found by its handle. -/
theorem entry?_of_mem {s : State} (h : AnnouncementsHold s) {e : Entry} (he : e ∈ s.ann.entries) :
    s.entry? e.handle = some e := by
  obtain ⟨f, hf⟩ : ∃ f, s.entry? e.handle = some f :=
    Option.isSome_iff_exists.1 (List.find?_isSome.2 ⟨e, he, by simp⟩)
  rw [hf, List.inj_on_of_nodup_map h.handles.1 (State.entry?_mem _ hf) he (State.entry?_handle _ hf)]

theorem entry?_of_absent {s : State} {h : Byte} (hnone : ∀ e ∈ s.ann.entries, e.handle ≠ h) : s.entry? h = none :=
  List.find?_eq_none.2 fun e he => by simpa using hnone e he

/-- The recorded queue holds QUEUED entries alone (R91). -/
theorem handle_not_mem_queue {s : State} (h : AnnouncementsHold s) {e : Entry} (he : e ∈ s.ann.entries)
    (hphase : e.phase ≠ .queued) : e.handle ∉ s.ann.queue := fun hmem => by
  obtain ⟨f, hf, hhandle, hqueued⟩ := (h.queueRight e.handle).1 hmem
  exact hphase (List.inj_on_of_nodup_map h.handles.1 hf he hhandle ▸ hqueued)

/-- A removal of an entry that is not QUEUED leaves the recorded queue. -/
theorem queue_filter_of_not_queued {s : State} (h : AnnouncementsHold s) {e : Entry} (he : e ∈ s.ann.entries)
    (hphase : e.phase ≠ .queued) : (s.ann.queue.filter fun k => k ≠ e.handle) = s.ann.queue :=
  List.filter_eq_self.2 fun k hk => by
    simpa using fun hkey : k = e.handle => handle_not_mem_queue h he hphase (hkey ▸ hk)

/-! ## The voice of an entry that ends (R140) -/

theorem playsFor_iff {s : State} {v : Source} {h : Byte} :
    playsFor s v h = true ↔ ∃ p, (s.voice v).playing = some p ∧ p.entry = h := by
  cases hplaying : (s.voice v).playing <;> simp [playsFor, hplaying]

/-- The Chime Voices with the voice stopped that plays for entry `e`, if it does. -/
def stoppedFor (s : State) (e : Entry) : Chimes :=
  if playsFor s e.source e.handle then (stopVoice e.source s).chimes else s.chimes

/-- The voice is stopped in a state `t` with the Chime Voices of `s`. -/
theorem stopVoice_if_playsFor {s t : State} (ht : t.chimes = s.chimes) (e : Entry) :
    (if playsFor s e.source e.handle then stopVoice e.source t else t) = t.modChimes fun _ => stoppedFor s e := by
  unfold stoppedFor
  split
  · simp only [stopVoice, State.modVoice, State.modChimes, ht]
  · simp only [State.modChimes, ← ht]

theorem voiceStopped_of_chimes {s t : State} {e : Entry} (h : t.chimes = stoppedFor s e) : VoiceStopped s t e := by
  unfold stoppedFor at h
  split at h
  · rename_i hplays
    have hvoice : ∀ v, t.voice v = (stopVoice e.source s).voice v := fun v => by simp only [State.voice, h]
    obtain ⟨p, hp, hentry⟩ := playsFor_iff.1 hplays
    refine ⟨?_, fun _ _ _ => ?_, fun hidle => absurd hentry (hidle p hp), fun v hv => ?_⟩
    · rw [h]
      cases e.source <;> rfl
    · rw [hvoice, stopVoice, State.voice_modVoice, if_pos rfl]
    · rw [hvoice, stopVoice, State.voice_modVoice, if_neg hv.symm]
  · rename_i hplays
    have hvoice : ∀ v, t.voice v = s.voice v := fun v => by simp only [State.voice, h]
    exact ⟨by rw [h], fun p hp hentry => absurd (playsFor_iff.2 ⟨p, hp, hentry⟩) hplays, fun _ => hvoice _,
      fun v _ => hvoice v⟩

/-! ## The recorded buffer of an entry that ends (R66) -/

/-- The recorded buffer when entry `e` leaves the table: closed if it was the target. -/
def bufferWithout (e : Entry) (r : RecordedBuffer) : RecordedBuffer := if holdsBuffer e then flushedTo none r else r

theorem closeRecorded_if_holdsBuffer (e : Entry) (t : State) :
    (if holdsBuffer e then closeRecorded t else t) = t.modRecorded (bufferWithout e) := by
  unfold bufferWithout
  split <;> rfl

theorem closeRecorded_if_recorded (e : Entry) (t : State) :
    (if e.source = .r then closeRecorded t else t) = t.modRecorded (closedFor e.source) := by
  cases e.source <;> rfl

theorem bufferWithout_of_queued {e : Entry} (h : e.phase = .queued) (r : RecordedBuffer) : bufferWithout e r = r := by
  simp [bufferWithout, holdsBuffer, candidatePhase, h]

/-- An active entry holds the buffer if it is recorded and not yet in TAIL. -/
theorem bufferWithout_of_active {e : Entry} (h : e.phase ≠ .queued) (r : RecordedBuffer) :
    bufferWithout e r = if e.phase = .tail then r else closedFor e.source r := by
  cases hphase : e.phase with
  | queued => exact absurd hphase h
  | tail => simp [bufferWithout, holdsBuffer, candidatePhase, hphase]
  | lead | chime | live =>
    cases hsource : e.source <;> simp [bufferWithout, holdsBuffer, candidatePhase, closedFor, hphase, hsource]

/-- A buffer closed and opened is a buffer opened: the close has left no block to count. -/
theorem flushedTo_bufferWithout (target : Option Byte) (e : Entry) (r : RecordedBuffer) :
    flushedTo target (bufferWithout e r) = flushedTo target r := by
  unfold bufferWithout
  split
  · simp [flushedTo]
  · rfl

/-! ## Entering TAIL (R110) -/

theorem enterTail_eq {s : State} {e : Entry} (he : s.entry? e.handle = some e) (why : EndReason) :
    enterTail e.handle why s = ((s.modEntry e.handle fun x =>
      { x with phase := .tail, endReason := some why, timer := x.params.tail, earlyRelease := false }).modChimes
        fun _ => stoppedFor s e).modRecorded (closedFor e.source) := by
  simp only [enterTail, he, closeRecorded_if_recorded]
  rw [stopVoice_if_playsFor (s := s)]
  rfl

theorem enteredTail_enterTail {s : State} {e : Entry} (he : s.entry? e.handle = some e) (why : EndReason) :
    EnteredTail s (enterTail e.handle why s) e why := by
  rw [enterTail_eq he]
  exact ⟨rfl, voiceStopped_of_chimes rfl⟩

/-! ## A removal, steps 1 to 5 (R116, R118, R129) -/

theorem removeEntry_eq {s : State} {e : Entry} (he : s.entry? e.handle = some e) (cause : EndReason) :
    removeEntry e.handle cause s = raise .annFinished (writeFinished (finishedRecord s e cause)
      (clearFloors e.handle e.params.release
        (((s.modChimes fun _ => stoppedFor s e).modRecorded (bufferWithout e)).modAnn fun a =>
          { a with entries := a.entries.filter fun x => x.handle ≠ e.handle,
                   queue := a.queue.filter fun k => k ≠ e.handle }))) := by
  simp only [removeEntry, he, closeRecorded_if_holdsBuffer]
  rw [stopVoice_if_playsFor rfl]

/-- A floor is cleared exactly at the berths whose floor is the entry (R129). -/
theorem mixOf_clearFloors (h : Byte) (release : Nat) (s : State) (b : BerthNo) :
    (clearFloors h release s).mixOf b =
      if (s.mixOf b).floor = some h then clearedFloor release (s.mixOf b) else s.mixOf b :=
  Table.get_map ..

theorem removedEntry_removeEntry {s : State} {e : Entry} (he : s.entry? e.handle = some e) (cause : EndReason) :
    RemovedEntry s (removeEntry e.handle cause s) e cause := by
  rw [removeEntry_eq he]
  exact {
    frame := by
      simp only [raise, writeFinished, clearFloors, State.modEvents, State.modAnn, State.setMix, State.modRecorded,
        State.modMedia, State.modChimes]
    finished := rfl
    event := by simp [flag_raise]
    floors := mixOf_clearFloors e.handle e.params.release _
    voices := voiceStopped_of_chimes rfl }

theorem leftTable_removeEntry {s : State} {e : Entry} (he : s.entry? e.handle = some e) (cause : EndReason) :
    LeftTable s (removeEntry e.handle cause s) e (bufferWithout e s.media.recorded) := by
  rw [removeEntry_eq he]
  exact ⟨rfl, rfl, rfl, rfl⟩

/-! ## The recorded source is handed on (R105) -/

theorem handOn_of_empty {s : State} (h : s.ann.queue = []) : handOn s = s := by
  simp only [handOn, h]

theorem handOn_of_head {s : State} {g : Byte} {rest : List Byte} (h : s.ann.queue = g :: rest) :
    handOn s = raise .recordedGo (openRecorded g ((s.modAnn fun a => { a with queue := rest }).modEntry g fun x =>
      { x with phase := .lead, timer := x.params.lead })) := by
  simp only [handOn, h]

/-- What a removal leaves beside the table, the queue, the buffer and the flags, a hand-over leaves too. -/
theorem removedEntry_handOn {s t : State} {e : Entry} {cause : EndReason} (h : RemovedEntry s t e cause) :
    RemovedEntry s (handOn t) e cause := by
  cases hqueue : t.ann.queue with
  | nil => rwa [handOn_of_empty hqueue]
  | cons g rest =>
    obtain ⟨hframe, hfinished, hevent, hfloors, hpatterns, hplaying, hidle, hothers⟩ := h
    rw [handOn_of_head hqueue]
    refine ⟨?_, hfinished, ?_, hfloors, hpatterns, hplaying, hidle, hothers⟩
    · conv_lhs => rw [hframe]
      rfl
    · rw [flag_raise]
      exact Bool.or_eq_true_iff.2 (.inl hevent)

theorem handedOn_handOn {s t : State} {e : Entry} {g : Byte} {rest : List Byte}
    (h : LeftTable s t e (bufferWithout e s.media.recorded)) (hqueue : t.ann.queue = g :: rest) :
    HandedOn s (handOn t) e g rest := by
  rw [handOn_of_head hqueue]
  exact {
    entries := congrArg (List.map _) h.entries
    queue := rfl
    recorded := (congrArg (flushedTo (some g)) h.recorded).trans (flushedTo_bufferWithout ..)
    flags := congrArg (· ||| eventMask .recordedGo) h.flags }

/-! ## A removal that is no preemption (R116, steps 1 to 6) -/

theorem activeRecorded_iff {e : Entry} : activeRecorded e = true ↔ e.source = .r ∧ e.phase ≠ .queued := by
  simp [activeRecorded]

theorem removeAndHandOn_eq {s : State} {e : Entry} (he : s.entry? e.handle = some e) (cause : EndReason) :
    removeAndHandOn e.handle cause s =
      if activeRecorded e then handOn (removeEntry e.handle cause s) else removeEntry e.handle cause s := by
  simp only [removeAndHandOn, he]

theorem removedEntry_removeAndHandOn {s : State} {e : Entry} (he : s.entry? e.handle = some e) (cause : EndReason) :
    RemovedEntry s (removeAndHandOn e.handle cause s) e cause := by
  have hremoved := removedEntry_removeEntry he cause
  rw [removeAndHandOn_eq he]
  split
  · exact removedEntry_handOn hremoved
  · exact hremoved

/-- With no recorded entry waiting, or for a microphone's entry, nothing is handed on. -/
theorem leftTable_removeAndHandOn {s : State} {e : Entry} (he : s.entry? e.handle = some e) (cause : EndReason)
    (hidle : e.source ≠ .r ∨ s.ann.queue = []) :
    LeftTable s (removeAndHandOn e.handle cause s) e (bufferWithout e s.media.recorded) := by
  have hleft := leftTable_removeEntry he cause
  rw [removeAndHandOn_eq he]
  split
  · rename_i hactive
    have hempty := hidle.resolve_left (not_not_intro (activeRecorded_iff.1 hactive).1)
    rwa [handOn_of_empty (by rw [hleft.queue, hempty]; rfl)]
  · exact hleft

theorem handedOn_removeAndHandOn {s : State} (h : AnnouncementsHold s) {e : Entry} (he : e ∈ s.ann.entries)
    (cause : EndReason) (hphase : e.phase ≠ .queued) (hsource : e.source = .r) {g : Byte} {rest : List Byte}
    (hqueue : s.ann.queue = g :: rest) : HandedOn s (removeAndHandOn e.handle cause s) e g rest := by
  have hfound := entry?_of_mem h he
  have hleft := leftTable_removeEntry hfound cause
  rw [removeAndHandOn_eq hfound, if_pos (activeRecorded_iff.2 ⟨hsource, hphase⟩)]
  exact handedOn_handOn hleft (by rw [hleft.queue, queue_filter_of_not_queued h he hphase, hqueue])

/-! ## CUT (R115) -/

theorem cut_of_config {s : State} (h : s.device = .config) (handle mode : Byte) :
    cut handle mode s = refuse .wrongState s := if_pos h

theorem cut_of_badField {s : State} (hrun : s.device = .run) {handle mode : Byte} (h : handle = 0 ∨ 1 < mode.toNat) :
    cut handle mode s = refuse .badField s := by
  simp only [cut, hrun, h, reduceCtorEq, if_false, if_true]

/-- The fields of a CUT pass its first two tests (R115). -/
theorem cut_fields_pass {handle mode : Byte} (h : handle ≠ 0) (hmode : mode.toNat ≤ 1) :
    ¬ (handle = 0 ∨ 1 < mode.toNat) := not_or.2 ⟨h, Nat.not_lt.2 hmode⟩

theorem cut_of_absent {s : State} (hrun : s.device = .run) {handle mode : Byte} (h : handle ≠ 0) (hmode : mode.toNat ≤ 1)
    (hnone : s.entry? handle = none) : cut handle mode s = refuse .notFound s := by
  simp only [cut, hrun, cut_fields_pass h hmode, hnone, reduceCtorEq, if_false]

theorem cut_of_entry {s : State} (hrun : s.device = .run) {handle mode : Byte} (h : handle ≠ 0) (hmode : mode.toNat ≤ 1)
    {e : Entry} (he : s.entry? handle = some e) : cut handle mode s =
      ⟨.done, [handle, BitVec.ofNat 8 (codePhase e.phase)], cutEntry e (mode = 1) s⟩ := by
  simp only [cut, hrun, cut_fields_pass h hmode, he, byte1, reduceCtorEq, if_false]

theorem cutEntry_of_queued {e : Entry} (h : e.phase = .queued) (hard : Bool) (s : State) :
    cutEntry e hard s = removeEntry e.handle .cut s := by
  simp only [cutEntry, h]

theorem cutEntry_soft_of_tail {e : Entry} (h : e.phase = .tail) (s : State) : cutEntry e false s = s := by
  simp only [cutEntry, h]

theorem cutEntry_soft {e : Entry} (hqueued : e.phase ≠ .queued) (htail : e.phase ≠ .tail) (s : State) :
    cutEntry e false s = enterTail e.handle .cut s := by
  cases h : e.phase with
  | queued => exact absurd h hqueued
  | tail => exact absurd h htail
  | lead | chime | live => simp only [cutEntry, h]

theorem cutEntry_hard {e : Entry} (hqueued : e.phase ≠ .queued) (s : State) :
    cutEntry e true s = removeAndHandOn e.handle .cut s := by
  cases h : e.phase with
  | queued => exact absurd h hqueued
  | lead | chime | live | tail => simp only [cutEntry, h]

/-- Settles O42: CUT's tests in their order; then a QUEUED entry is removed, a SOFT cut enters TAIL, and a HARD cut is a
removal that hands the recorded source on. -/
theorem cutByPhaseAndMode : Obligations.CutByPhaseAndMode := by
  intro s h mode hready hann
  simp only [exec_cut_of_ready hready]
  refine ⟨fun hconfig => ?_, fun hrun hbad => ?_, fun hrun hh hmode hnone => ?_, ?_⟩
  · rw [cut_of_config hconfig]
    rfl
  · rw [cut_of_badField hrun hbad]
    rfl
  · rw [cut_of_absent hrun hh hmode (entry?_of_absent hnone)]
    rfl
  · rintro e he rfl hrun hmode
    have hfound := entry?_of_mem hann he
    have hsoft : mode = 0 → decide (mode = 1) = false := by rintro rfl; rfl
    have hhard : mode = 1 → decide (mode = 1) = true := decide_eq_true
    refine ⟨cutEntry e (mode = 1) s, ?_, fun hqueued => ?_, fun hm htail => ?_, fun hm hqueued htail => ?_,
      fun hm hqueued => ?_, fun hm hqueued hidle => ?_, fun g rest hm hqueued hsource hqueue => ?_⟩
    · rw [cut_of_entry hrun (hann.handles.2 e he) hmode hfound]
    · rw [cutEntry_of_queued hqueued]
      exact ⟨removedEntry_removeEntry hfound .cut,
        bufferWithout_of_queued hqueued s.media.recorded ▸ leftTable_removeEntry hfound .cut⟩
    · rw [hsoft hm, cutEntry_soft_of_tail htail]
    · rw [hsoft hm, cutEntry_soft hqueued htail]
      exact enteredTail_enterTail hfound .cut
    · rw [hhard hm, cutEntry_hard hqueued]
      exact removedEntry_removeAndHandOn hfound .cut
    · rw [hhard hm, cutEntry_hard hqueued, ← bufferWithout_of_active hqueued]
      exact leftTable_removeAndHandOn hfound .cut hidle
    · rw [hhard hm, cutEntry_hard hqueued]
      exact handedOn_removeAndHandOn hann he .cut hqueued hsource hqueue

end Sys2Proof.Machine
end

section
/-! PROOFS. CHIME LOAD: the notes carried, the voices on a pattern, and the tests in their order (R141). -/

namespace Sys2Proof.Machine

/-! ## Carried notes (R141, R179) -/

/-- A tone is carried as a programme is: 0 to 7, or FFh for REST. -/
theorem carriedTone_eq (b : Byte) : carriedTone b = carriedProgramme b := rfl

/-- R141 test 3 fails a note for its tone alone. -/
theorem loadNote_eq_none {n : NoteBody} : loadNote n = none ↔ 8 ≤ n.tone.toNat ∧ n.tone ≠ 0xFF := by
  rw [loadNote, Option.map_eq_none_iff, carriedTone_eq, carriedProgramme_eq_none]

theorem loadNote_eq_some {n : NoteBody} {m : Note} (h : loadNote n = some m) :
    ReadsProgramme n.tone m.tone ∧ m.duty = max 1 (min 4 n.duty.toNat) ∧
      m.duration = max 1 (min 2000 n.duration.toNat) ∧ m.a0 = min 126 n.a0.toNat ∧ m.decay = n.decay.toNat := by
  obtain ⟨t, ht, rfl⟩ := Option.map_eq_some_iff.1 h
  exact ⟨carriedProgramme_eq_some ht, rfl, rfl, rfl, rfl⟩

theorem readsProgramme_iff {v : Byte} {p : Option ProgrammeNo} :
    ReadsProgramme v p ↔ (p = none → v = 0xFF) ∧ ∀ k, p = some k → v.toNat = k.val := by
  cases p <;> simp [ReadsProgramme]

theorem noteClamps_eq (n : NoteBody) : noteClamps n =
    decide (n.duty.toNat = 0 ∨ 4 < n.duty.toNat ∨ n.duration.toNat = 0 ∨ 2000 < n.duration.toNat ∨
      126 < n.a0.toNat) := by
  simp [noteClamps, outside, Bool.or_assoc]

/-! ## The whole pattern -/

/-- The notes stored are those carried, one for one and in their order. -/
theorem loadNotes_eq_some {notes : List NoteBody} {stored : List Note} :
    loadNotes notes = some stored ↔ List.Forall₂ (fun n m => loadNote n = some m) notes stored := by
  induction notes generalizing stored with
  | nil => simp [loadNotes, eq_comm]
  | cons n ns ih =>
    rw [loadNotes, List.forall₂_cons_left_iff]
    simp only [← ih]
    cases loadNote n <;> cases loadNotes ns <;> simp [eq_comm]

/-- One note with no tone refuses the whole pattern. -/
theorem loadNotes_eq_none {notes : List NoteBody} : loadNotes notes = none ↔ ∃ n ∈ notes, loadNote n = none := by
  induction notes with
  | nil => simp [loadNotes]
  | cons n ns ih =>
    simp only [loadNotes, List.mem_cons, exists_eq_or_imp, ← ih]
    cases loadNote n <;> cases loadNotes ns <;> simp

theorem loadNote_of_loadNotes {notes : List NoteBody} {stored : List Note} (h : loadNotes notes = some stored) {i : Nat}
    {n : NoteBody} {m : Note} (hn : notes[i]? = some n) (hm : stored[i]? = some m) : loadNote n = some m := by
  obtain ⟨hi, rfl⟩ := List.getElem?_eq_some_iff.1 hn
  obtain ⟨hj, rfl⟩ := List.getElem?_eq_some_iff.1 hm
  exact (loadNotes_eq_some.1 h).get hi hj

/-! ## Voices on a pattern -/

theorem playsPattern_iff {p : PatternNo} {v : Voice} :
    playsPattern p v = true ↔ ∃ q, v.playing = some q ∧ q.pattern = p := by
  cases h : v.playing <;> simp [playsPattern, h]

theorem patternBusy_iff {s : State} {p : PatternNo} :
    patternBusy s p = true ↔ ∃ v q, (s.voice v).playing = some q ∧ q.pattern = p := by
  simp only [patternBusy, Bool.or_eq_true, playsPattern_iff]
  constructor
  · rintro ((h | h) | h)
    · exact ⟨.d, h⟩
    · exact ⟨.c, h⟩
    · exact ⟨.r, h⟩
  · rintro ⟨_ | _ | _, h⟩
    · exact .inl (.inl h)
    · exact .inl (.inr h)
    · exact .inr h

/-! ## CHIME LOAD's tests in their order (R141) -/

section
variable {pattern : Byte} {notes : List NoteBody} (s : State)

theorem chimeLoad_of_badField
    (h : 4 ≤ pattern.toNat ∨ notes = [] ∨ 4 < notes.length ∨ ∃ n ∈ notes, loadNote n = none) :
    chimeLoad pattern notes s = refuse .badField s := by
  rw [chimeLoad]
  split
  · rfl
  · next p hp =>
    have hlt : pattern.toNat < 4 := carriedFin_eq_some.1 hp ▸ p.isLt
    rw [or_iff_right (Nat.not_le.2 hlt), ← or_assoc, ← List.length_eq_zero_iff] at h
    split
    · rfl
    · next hcount => rw [loadNotes_eq_none.2 (h.resolve_left hcount)]

variable {p : PatternNo} (hp : pattern.toNat = p.val) (hne : notes ≠ []) (hle : notes.length ≤ 4) {stored : List Note}
  (hstored : loadNotes notes = some stored)
include hp hne hle hstored

/-- The fields of a CHIME LOAD pass its first three tests. -/
theorem chimeLoad_of_fit : chimeLoad pattern notes s =
    if patternBusy s p then refuse .busy s
    else ⟨doneOrClamped (notes.any noteClamps), [pattern, BitVec.ofNat 8 notes.length],
      s.modChimes fun c => { c with patterns := c.patterns.set p stored }⟩ := by
  have hcount : ¬ (notes.length = 0 ∨ 4 < notes.length) :=
    not_or.2 ⟨List.length_eq_zero_iff.not.2 hne, Nat.not_lt.2 hle⟩
  simp only [chimeLoad, carriedFin_of_eq hp, if_neg hcount, hstored]
  rfl

end

/-- Settles O46: the three tests of the fields, the test of the voices, and then the notes stored one for one. -/
theorem chimeLoadStoresNotes : Obligations.ChimeLoadStoresNotes := by
  intro s pattern notes hready
  simp only [exec_chimeLoad_of_ready hready, ← loadNote_eq_none, ← patternBusy_iff, ← funext noteClamps_eq]
  refine ⟨fun hbad => ?_, fun p hp hne hle htone => ?_⟩
  · rw [chimeLoad_of_badField s hbad]
    rfl
  · obtain ⟨stored, hstored⟩ := Option.ne_none_iff_exists'.1 (loadNotes_eq_none.not.2 htone)
    rw [chimeLoad_of_fit s hp hne hle hstored]
    refine ⟨fun hbusy => ?_, fun hidle => ⟨stored, ?_, (loadNotes_eq_some.1 hstored).length_eq.symm,
      fun i m n hm hn => ?_⟩⟩
    · rw [if_pos hbusy]
      rfl
    · rw [if_neg hidle]
      rfl
    · obtain ⟨htone, hrest⟩ := loadNote_eq_some (loadNote_of_loadNotes hstored hn hm)
      obtain ⟨hnone, hsome⟩ := readsProgramme_iff.1 htone
      exact ⟨hnone, hsome, hrest⟩

end Sys2Proof.Machine
end

section
/-! PROOFS. COACH SET: the test of an optional value, the value it stores, and the two outcomes (R160). -/

namespace Sys2Proof.Machine

/-! ## Optional values with a limit (R53, R160) -/

theorem above_iff {hi : Nat} {v : Option Byte} : above hi v = true ↔ ∃ b, v = some b ∧ hi < b.toNat := by
  cases v <;> simp [above]

theorem storing_eq_elim (hi : Nat) (v : Option Byte) (old : Nat) :
    storing hi v old = v.elim old fun b => min hi b.toNat := by
  cases v <;> rfl

/-- A value within its limit is stored as carried. -/
theorem storing_of_not_above {hi : Nat} {v : Option Byte} (h : ¬ above hi v = true) (old : Nat) :
    storing hi v old = v.elim old fun b => b.toNat := by
  cases v with
  | none => rfl
  | some b => exact Nat.min_eq_right (Nat.not_lt.1 fun hb => h (decide_eq_true hb))

theorem doneOrClamped_of_clamped {c : Bool} (h : c = true) : doneOrClamped c = .clamped := if_pos h

theorem doneOrClamped_of_not_clamped {c : Bool} (h : ¬ c = true) : doneOrClamped c = .done := if_neg h

/-! ## COACH SET (R160) -/

/-- COACH SET's tests: a field number that it does not define, or a card above 63. -/
def coachUnfit (x : CoachBody) : Bool := x.undefinedBit || above cardMax x.alarmCard || above cardMax x.busyCard

/-- A limit on the quiet level or on the loudness limit changes a carried value. -/
def coachClamps (x : CoachBody) : Bool := above 3 x.quiet || above volumeMax x.limit

theorem coachUnfit_iff (x : CoachBody) : coachUnfit x = true ↔
    x.undefinedBit = true ∨ (∃ v, x.alarmCard = some v ∧ 63 < v.toNat) ∨ ∃ v, x.busyCard = some v ∧ 63 < v.toNat := by
  simp only [coachUnfit, Bool.or_eq_true, above_iff, or_assoc, cardMax]

theorem coachClamps_iff (x : CoachBody) : coachClamps x = true ↔
    (∃ v, x.quiet = some v ∧ 3 < v.toNat) ∨ ∃ v, x.limit = some v ∧ 96 < v.toNat := by
  simp only [coachClamps, Bool.or_eq_true, above_iff, volumeMax]

theorem coachSet_of_unfit {x : CoachBody} (h : coachUnfit x = true) (s : State) : coachSet x s = refuse .badField s :=
  if_pos h

theorem coachSet_of_fit {x : CoachBody} (h : ¬ coachUnfit x = true) (s : State) : coachSet x s =
    ⟨doneOrClamped (coachClamps x), settingsBytes (storeSettings x s.coach), s.modCoach (storeSettings x)⟩ :=
  if_neg h

/-- The tests leave cards of at most 63, so that only the quiet level and the loudness limit meet their limits. -/
theorem storeSettings_of_fit {x : CoachBody} (h : ¬ coachUnfit x = true) (k : Coach) : storeSettings x k =
    { k with quiet := x.quiet.elim k.quiet fun v => min 3 v.toNat,
             limit := x.limit.elim k.limit fun v => min 96 v.toNat,
             alarmCard := x.alarmCard.elim k.alarmCard fun v => v.toNat,
             busyCard := x.busyCard.elim k.busyCard fun v => v.toNat } := by
  simp only [coachUnfit, Bool.or_eq_true, not_or] at h
  obtain ⟨⟨-, halarm⟩, hbusy⟩ := h
  rw [storeSettings, storing_of_not_above halarm, storing_of_not_above hbusy, storing_eq_elim, storing_eq_elim, volumeMax]

/-- Settles O52: an unfit request is refused whole, and a fit one stores and reports the same four settings. -/
theorem coachSetStoresSettings : Obligations.CoachSetStoresSettings := by
  intro s x hready
  simp only [exec_coachSet_of_ready hready, ← coachUnfit_iff, ← coachClamps_iff]
  refine ⟨fun hunfit => ?_, fun hfit => ⟨doneOrClamped (coachClamps x), doneOrClamped_of_clamped,
    doneOrClamped_of_not_clamped, ?_⟩⟩
  · rw [coachSet_of_unfit hunfit]
    rfl
  · rw [coachSet_of_fit hfit, State.modCoach, storeSettings_of_fit hfit]
    rfl

end Sys2Proof.Machine
end

section
/-! PROOFS. What every command does, said once: a property that the owners' operations keep is kept by every command
and by every step. -/

namespace Sys2Proof.Machine

/-! ## The owners' operations -/

/-- The work of a host request, whether it comes as a command or as a record (12.2.1). -/
inductive HostWork : (State → Answer) → Prop
  | berthRead (b) : HostWork (berthRead b)
  | berthStage (b x) : HostWork (berthStage b x)
  | stageDiscard : HostWork stageDiscard
  | commitRequest : HostWork commitRequest
  | berthEdit (z am md op d x) : HostWork (berthEdit z am md op d x)
  | lineSetup (l c) : HostWork (lineSetup l c)
  | lineRead (l) : HostWork (lineRead l)
  | lineRestart (l) : HostWork (lineRestart l)
  | lineStop (l) : HostWork (lineStop l)
  | berthLinkRead (b) : HostWork (berthLinkRead b)
  | berthLinkClear (b) : HostWork (berthLinkClear b)
  | programmeSetup (p pic n t0 t1 c) : HostWork (programmeSetup p pic n t0 t1 c)
  | programmeTrim (p x) : HostWork (programmeTrim p x)
  | programmeRead (x) : HostWork (programmeRead x)
  | laneRead (l) : HostWork (laneRead l)
  | announce (x deadline) : HostWork (announce x deadline)
  | announcementRead (x c) : HostWork (announcementRead x c)
  | pttProfileSet (m x) : HostWork (pttProfileSet m x)
  | cut (h m) : HostWork (cut h m)
  | finishedRead (i) : HostWork (finishedRead i)
  | chimeLoad (p ns) : HostWork (chimeLoad p ns)
  | chimeRead (p) : HostWork (chimeRead p)
  | mixRead (b c) : HostWork (mixRead b c)
  | coachSet (x) : HostWork (coachSet x)
  | coachRead : HostWork coachRead
  | alarmRelease : HostWork alarmRelease
  | callTake : HostWork callTake
  | callClear (b) : HostWork (callClear b)
  | startRequest : HostWork startRequest
  | restartRequest : HostWork restartRequest
  | statusRead : HostWork statusRead
  | eventsRead : HostWork eventsRead
  | eventsClear (v) : HostWork (eventsClear v)
  | eventsEnable (v) : HostWork (eventsEnable v)

/-! ## The body of a record by its kind (12.2.1): the kinds whose length varies, one by one -/

theorem ownerOf_berthStage (body : List Byte) : ownerOf 0x02 body = match body with
    | b :: hi :: lo :: bs => (readStage hi lo bs).map (berthStage b)
    | _ => none := by
  rcases body with _ | ⟨b, _ | ⟨hi, _ | ⟨lo, bs⟩⟩⟩ <;> rfl

theorem ownerOf_programmeTrim (body : List Byte) : ownerOf 0x0D body = match body with
    | p :: hi :: lo :: bs => (readTrim hi lo bs).map (programmeTrim p)
    | _ => none := by
  rcases body with _ | ⟨p, _ | ⟨hi, _ | ⟨lo, bs⟩⟩⟩ <;> rfl

theorem ownerOf_coachSet (body : List Byte) : ownerOf 0x18 body = match body with
    | hi :: lo :: bs => (readCoach hi lo bs).map coachSet
    | _ => none := by
  rcases body with _ | ⟨hi, _ | ⟨lo, bs⟩⟩ <;> rfl

theorem ownerOf_announce (body : List Byte) : ownerOf 0x10 body = match readAnnounce body with
    | some (x, [hi, lo]) => some (announce x (halfOf hi lo))
    | _ => none := rfl

theorem ownerOf_pttProfileSet (body : List Byte) : ownerOf 0x12 body = match body with
    | m :: bs =>
      match readAnnounce bs with
      | some (x, []) => some (pttProfileSet m x)
      | _ => none
    | [] => none := by
  rcases body with _ | ⟨m, bs⟩ <;> rfl

theorem ownerOf_chimeLoad (body : List Byte) : ownerOf 0x15 body = match body with
    | p :: n :: bs =>
      match readNotes bs with
      | some ns => if ns.length = n.toNat then some (chimeLoad p ns) else none
      | none => none
    | _ => none := by
  rcases body with _ | ⟨p, _ | ⟨n, bs⟩⟩ <;> rfl

theorem ownerOf_beyond {kind : Nat} (h : 0x21 < kind) (body : List Byte) : ownerOf kind body = none := by
  obtain ⟨k, rfl⟩ := Nat.exists_eq_add_of_le' h
  rfl

/-- The kinds whose body is read field by field or note by note. -/
def variedKind (kind : Nat) : Bool := [0x02, 0x0D, 0x10, 0x12, 0x15, 0x18].contains kind

theorem hostWork_of_varied {kind : Nat} {body : List Byte} {work : State → Answer} (hk : variedKind kind = true)
    (h : ownerOf kind body = some work) : HostWork work := by
  have hmem : kind ∈ [0x02, 0x0D, 0x10, 0x12, 0x15, 0x18] := List.contains_iff_mem.1 hk
  simp only [List.mem_cons, List.not_mem_nil, or_false] at hmem
  rcases hmem with rfl | rfl | rfl | rfl | rfl | rfl
  · rw [ownerOf_berthStage] at h
    split at h
    · obtain ⟨x, -, rfl⟩ := Option.map_eq_some_iff.1 h
      exact .berthStage _ x
    · cases h
  · rw [ownerOf_programmeTrim] at h
    split at h
    · obtain ⟨x, -, rfl⟩ := Option.map_eq_some_iff.1 h
      exact .programmeTrim _ x
    · cases h
  · rw [ownerOf_announce] at h
    split at h
    · cases h; exact .announce _ _
    · cases h
  · rw [ownerOf_pttProfileSet] at h
    split at h
    · split at h
      · cases h; exact .pttProfileSet _ _
      · cases h
    · cases h
  · rw [ownerOf_chimeLoad] at h
    split at h
    · split at h
      · split at h
        · cases h; exact .chimeLoad _ _
        · cases h
      · cases h
    · cases h
  · rw [ownerOf_coachSet] at h
    split at h
    · obtain ⟨x, -, rfl⟩ := Option.map_eq_some_iff.1 h
      exact .coachSet x
    · cases h

/-- A record is only ever answered with the work of a host request. -/
theorem hostWork_of_ownerOf {kind : Nat} {body : List Byte} {work : State → Answer} (h : ownerOf kind body = some work) :
    HostWork work := by
  by_cases hvaried : variedKind kind = true
  · exact hostWork_of_varied hvaried h
  · by_cases hbeyond : 0x21 < kind
    · rw [ownerOf_beyond hbeyond] at h
      cases h
    · have hle : kind ≤ 0x21 := Nat.not_lt.1 hbeyond
      interval_cases kind
      all_goals first
        | exact absurd rfl hvaried
        | rcases body with _ | ⟨a, _ | ⟨b, _ | ⟨c, _ | ⟨d, _ | ⟨e, _ | ⟨f, _ | ⟨g, tl⟩⟩⟩⟩⟩⟩⟩ <;> cases h <;> constructor

theorem hostWork_of_takenAs {r : Record} {kind : Byte} {work : State → Answer} (h : takenAs r = .passed kind work) :
    HostWork work := by
  unfold takenAs at h
  split at h
  · cases h
  · split at h
    · cases h
    next k body _ =>
      split at h
      · cases h
      · split at h
        · cases h
        next hw =>
          cases h
          exact hostWork_of_ownerOf hw

/-! ## A property kept by every command -/

/-- What has to be shown of a property for every command to keep it: the Control Link's own state, the event flags, the
two resets, and each owner's operation. -/
structure CommandsKeep (P : State → Prop) : Prop where
  flags : ∀ s f, P s → P (s.modEvents f)
  link : ∀ s k, (ControlInRange s.link → ControlInRange k) → P s → P (s.modLink fun _ => k)
  boundary : ∀ s f, P s → P (s.modBoundary f)
  reset : ∀ s, P s → P (deviceReset s)
  low : ∀ s, P s → P ((s.setResetLow true).setLines (s.lines.map undrivenLine))
  request : ∀ work, HostWork work → ∀ s, P s → P (work s).state
  slot : ∀ l signal s, P s → P (completeSlot l signal s)
  conflict : ∀ l s, P s → P (driveConflict l s)
  media : ∀ f s, P s → P (arriveFrame f s)
  edge : ∀ c v s, P s → P (takeEdge c v s)
  sampled : ∀ c s k, k ≤ 2 → P s → P (s.setFilter c { s.filter c with run := k })
  begun : ∀ s, P s → P (beginBlock s)
  commit : ∀ s, P s → P (carryOutCommit s)
  track : ∀ p k s, P s → P (takeTrack p k s)
  voice : ∀ v s, P s → P (takeVoice s v)
  advance : ∀ h s, P s → P (advanceIfDue s h)
  mixed : ∀ micD micC b s, P s → P (mixBerth micD micC s b)
  sent : ∀ l s, P s → P (sendFrame s l)

namespace CommandsKeep

variable {P : State → Prop}

theorem whenUp_keeps {s : State} {f : State → State} (hf : ∀ t, P t → P (f t)) (hs : P s) : P (whenUp s f) := by
  unfold whenUp
  split
  · exact hs
  · exact hf s hs

variable (h : CommandsKeep P)
include h

theorem raise_keeps (e : Event) {s : State} (hs : P s) : P (raise e s) := h.flags s _ hs

/-- The Control Link's own state may change in any way that keeps its ranges. -/
theorem modLink_keeps {s : State} {f : ControlLink → ControlLink} (hf : ControlInRange s.link → ControlInRange (f s.link))
    (hs : P s) : P (s.modLink f) := h.link s (f s.link) hf hs

/-! ### The Control Link (11.1) -/

theorem startReply_keeps (kind : Byte) {a : Answer} (ha : P a.state) : P (startReply kind a) :=
  h.modLink_keeps (fun hk => hk) ha

theorem linkRefusal_keeps (kind : Byte) (st : Status) {s : State} (hs : P s) : P (linkRefusal kind st s) := by
  refine h.startReply_keeps kind ?_
  dsimp only
  split
  · exact h.modLink_keeps (fun ⟨h1, h2, h3, h4, h5, h6, h7, h8, h9⟩ =>
      ⟨h1, h2, h3, h4, h5, h6, h7, Nat.min_le_left _ _, h9⟩) hs
  · exact hs

theorem takeRecord_keeps (r : Record) {s : State} (hs : P s) : P (takeRecord r s) := by
  unfold takeRecord
  split
  next kind st _ => exact h.linkRefusal_keeps kind st hs
  next kind work htaken =>
    exact h.startReply_keeps kind (h.request work (hostWork_of_takenAs htaken) s hs)

theorem takeOldest_keeps {s : State} (hs : P s) : P (takeOldest s) := by
  unfold takeOldest
  split
  next r rest _ hbuffer =>
    refine h.takeRecord_keeps r (h.modLink_keeps ?_ hs)
    rintro ⟨h1, h2, h3, hrest⟩
    rw [hbuffer] at h3
    exact ⟨h1, h2, (Nat.le_succ _).trans h3, hrest⟩
  · exact hs

theorem sendEnds_keeps {s : State} (hs : P s) : P (sendEnds s) := by
  unfold sendEnds
  split
  · exact hs
  · exact h.reset s hs
  · exact h.takeOldest_keeps (h.modLink_keeps (fun hk => hk) hs)

theorem settle_keeps {s : State} (hs : P s) : P (settle s) := by
  unfold settle
  generalize s.link.buffer.length + 1 = n
  induction n generalizing s with
  | zero => exact hs
  | succ n ih =>
    unfold settleFor
    split
    · exact hs
    · exact ih (h.sendEnds_keeps hs)

theorem takeRequest_keeps (kind : Byte) {work : State → Answer} (hw : HostWork work) {s : State} (hs : P s) :
    P (takeRequest kind work s) :=
  whenUp_keeps (fun _ ht => h.startReply_keeps kind (h.request work hw _ (h.settle_keeps ht))) hs

theorem takeRefused_keeps (r : Record) {s : State} (hs : P s) : P (takeRefused r s) := by
  unfold takeRefused
  split
  · exact h.linkRefusal_keeps _ _ (h.settle_keeps hs)
  · exact hs

/-- What a frame that is discarded does: its counter rises and the receiver hunts. -/
theorem discardFrame_keeps {count : ControlLink → ControlLink} {s : State}
    (hc : ControlInRange s.link → ControlInRange { count s.link with receive := .hunt }) (hs : P s) :
    P (discardFrame count s) :=
  h.raise_keeps .linkError (h.modLink_keeps hc hs)

theorem completeFrame_keeps (r : Record) {s : State} (hs : P s) : P (completeFrame r s) := by
  unfold completeFrame
  split
  next hroom =>
    refine h.takeOldest_keeps (h.modLink_keeps ?_ hs)
    rintro ⟨h1, h2, -, hrest⟩
    refine ⟨h1, h2, ?_, hrest⟩
    rw [List.length_append]
    exact hroom
  · split
    · exact hs
    · exact h.raise_keeps .linkError (h.modLink_keeps (fun ⟨h1, h2, h3, h4, h5, h6, _, h8, h9⟩ =>
        ⟨h1, h2, h3, h4, h5, h6, Nat.min_le_left _ _, h8, h9⟩) hs)

end CommandsKeep

/-! ### What a received byte does to the ranges of the Control Link (R165 to R167) -/

section
variable {k : ControlLink} (hk : ControlInRange k)
include hk

theorem controlInRange_hunt : ControlInRange { k with receive := .hunt } := by
  obtain ⟨h1, -, h3, h4, h5, h6, h7, h8, -⟩ := hk
  exact ⟨h1, fun hne => absurd rfl hne, h3, h4, h5, h6, h7, h8, trivial⟩

theorem controlInRange_countStopBit : ControlInRange { countStopBit k with receive := .hunt } := by
  obtain ⟨h1, -, h3, h4, -, h6, h7, h8, -⟩ := hk
  exact ⟨h1, fun hne => absurd rfl hne, h3, h4, Nat.min_le_left _ _, h6, h7, h8, trivial⟩

theorem controlInRange_countBadLength : ControlInRange { countBadLength k with receive := .hunt } := by
  obtain ⟨h1, -, h3, -, h5, h6, h7, h8, -⟩ := hk
  exact ⟨h1, fun hne => absurd rfl hne, h3, Nat.min_le_left _ _, h5, h6, h7, h8, trivial⟩

theorem controlInRange_started : ControlInRange { k with age := 0, receive := .length } := by
  obtain ⟨-, -, h3, h4, h5, h6, h7, h8, -⟩ := hk
  exact ⟨Nat.zero_le _, fun _ => Nat.zero_lt_succ 19, h3, h4, h5, h6, h7, h8, trivial⟩

/-- While a frame goes on, its age stays as it is. -/
theorem controlInRange_receive {r : Receive} (hnow : k.receive ≠ .hunt) (hr : ReceiveInRange r) :
    ControlInRange { k with receive := r } := by
  obtain ⟨h1, h2, h3, h4, h5, h6, h7, h8, -⟩ := hk
  exact ⟨h1, fun _ => h2 hnow, h3, h4, h5, h6, h7, h8, hr⟩

theorem controlInRange_aged (hage : k.age + 1 < 20) : ControlInRange { k with age := k.age + 1 } := by
  obtain ⟨-, -, h3, h4, h5, h6, h7, h8, h9⟩ := hk
  exact ⟨hage.le, fun _ => hage, h3, h4, h5, h6, h7, h8, h9⟩

theorem controlInRange_timedOut (hnow : k.receive ≠ .hunt) :
    ControlInRange { countTimeout { k with age := k.age + 1 } with receive := .hunt } := by
  obtain ⟨-, h2, h3, h4, h5, -, h7, h8, -⟩ := hk
  exact ⟨h2 hnow, fun hne => absurd rfl hne, h3, h4, h5, Nat.min_le_left _ _, h7, h8, trivial⟩

theorem receiveInRange_of_controlInRange : ReceiveInRange k.receive := by
  obtain ⟨-, -, -, -, -, -, -, -, h9⟩ := hk
  exact h9

end

namespace CommandsKeep

variable {P : State → Prop} (h : CommandsKeep P)
include h

theorem receiveByte_keeps (x : RxByte) {s : State} (hs : P s) : P (receiveByte s x) := by
  unfold receiveByte
  split
  next =>
    split
    · exact h.modLink_keeps controlInRange_started hs
    · exact hs
  next hnow =>
    split
    · exact h.discardFrame_keeps controlInRange_countStopBit hs
    · split
      · exact h.discardFrame_keeps controlInRange_countBadLength hs
      next hlength =>
        refine h.modLink_keeps (fun hk => controlInRange_receive hk (by simp [hnow]) ?_) hs
        exact ⟨by omega, by omega, by simp only [List.length_nil]; omega⟩
  next n kept hnow =>
    split
    · exact h.discardFrame_keeps controlInRange_countStopBit hs
    · split
      next hlast =>
        refine h.modLink_keeps (fun hk => controlInRange_receive hk (by simp [hnow]) ?_) hs
        have hr := receiveInRange_of_controlInRange hk
        rw [hnow] at hr
        obtain ⟨hlow, hhigh, hlen⟩ := hr
        exact ⟨hlow, hhigh, by rw [List.length_append, List.length_singleton]; omega⟩
      next hmore =>
        refine h.modLink_keeps (fun hk => controlInRange_receive hk (by simp [hnow]) ?_) hs
        have hr := receiveInRange_of_controlInRange hk
        rw [hnow] at hr
        obtain ⟨hlow, hhigh, -⟩ := hr
        exact ⟨hlow, hhigh, by rw [List.length_append, List.length_singleton]; omega⟩
  next =>
    split
    · exact h.discardFrame_keeps controlInRange_countStopBit hs
    · exact h.completeFrame_keeps _ (h.modLink_keeps controlInRange_hunt hs)

theorem takeAge_keeps {s : State} (hs : P s) : P (takeAge s) := by
  unfold takeAge
  split
  · have ht := h.boundary s (fun v => { v with ageDue := false }) hs
    generalize s.modBoundary (fun v => { v with ageDue := false }) = t at ht ⊢
    unfold ageStep
    split
    · exact ht
    next hnow =>
      dsimp only
      split
      · refine h.raise_keeps .linkError (h.link t _ (fun hk => controlInRange_timedOut hk hnow) ht)
      next hage =>
        refine h.modLink_keeps (fun hk => controlInRange_aged hk ?_) ht
        exact Nat.not_le.1 hage
  · exact hs

/-! ### The block start (Introduction 1.5.1.2) -/

theorem openBoundary_keeps {s : State} (hs : P s) : P (openBoundary s) := by
  unfold openBoundary
  split
  · exact hs
  · exact h.begun _ (forEach_invariant P _ (fun t l _ ht => h.slot l .silent t ht) hs)

theorem takeCommit_keeps {s : State} (hs : P s) : P (takeCommit s) := by
  unfold takeCommit
  split
  · exact h.commit s hs
  · exact hs

theorem takeBoundary_keeps (micD micC : Block) (first : List BerthNo) {s : State} (hs : P s) :
    P (takeBoundary micD micC first s) := by
  have htracks : P (takeTracks (takeAge (takeCommit s))) := by
    refine forEach_invariant P _ (fun t x _ ht => ?_) (h.takeAge_keeps (h.takeCommit_keeps hs))
    unfold takeTrackIfDue
    split
    · exact h.track _ _ t ht
    · exact ht
  have hvoices : P (takeVoices (takeTracks (takeAge (takeCommit s)))) :=
    forEach_invariant P _ (fun t v _ ht => h.voice v t ht) htracks
  have hentries : P (takeEntries (takeVoices (takeTracks (takeAge (takeCommit s))))) :=
    forEach_invariant P _ (fun t k _ ht => h.advance k t ht) hvoices
  have hberths := forEach_invariant P (berthOrder first) (f := mixBerth micD micC)
    (fun t b _ ht => h.mixed micD micC b t ht) hentries
  exact h.boundary _ (fun _ => ⟨false, false, false⟩) (forEach_invariant P _ (fun t l _ ht => h.sent l t ht) hberths)

theorem atBoundary_keeps {cause : State → Bool} {work : State → State} (hwork : ∀ t, P t → P (work t)) {s : State}
    (hs : P s) : P (atBoundary cause work s) := by
  refine whenUp_keeps (fun t ht => ?_) hs
  split
  · exact hwork _ (h.openBoundary_keeps ht)
  · exact ht

/-! ### The contacts (R155, R156) -/

theorem edgeIfOther_keeps (c : Contact) (v : Bool) {s : State} (hs : P s) : P (edgeIfOther c v s) := by
  unfold edgeIfOther
  split
  · exact hs
  · exact h.edge c v s hs

theorem takeSample_keeps (c : Contact) (v : Bool) {s : State} (hs : P s) : P (takeSample c v s) := by
  unfold takeSample
  dsimp only
  split
  · exact h.sampled c s 0 (Nat.zero_le _) hs
  · split
    next hrun => exact h.sampled c s _ hrun hs
    · exact h.edge c v s hs

theorem resetNLow_keeps {s : State} (hs : P s) :
    P (((s.setResetLow true).modLink fun k => { k with tx := .free }).setLines (s.lines.map undrivenLine)) := by
  have hlow := h.low (s.modLink fun k => { k with tx := .free }) (h.modLink_keeps (fun hk => hk) hs)
  exact hlow

/-- Every command keeps the property. -/
theorem exec_keeps {c : Instr} {s t : State} (hs : P s) (he : exec c s = .next t) : P t := by
  cases c
  case controlFrameReceived bytes =>
    cases he
    exact whenUp_keeps (fun u hu => forEach_invariant P bytes (fun w x _ hw => h.receiveByte_keeps x hw) hu) hs
  case requestTakenLinkRefusal counted good =>
    cases he
    exact whenUp_keeps (fun u hu => h.takeRefused_keeps ⟨counted, good⟩ hu) hs
  case replySent => cases he; exact whenUp_keeps (fun u hu => h.sendEnds_keeps hu) hs
  case resetNLow => cases he; exact whenUp_keeps (fun u hu => h.resetNLow_keeps hu) hs
  case resetNHigh =>
    cases he
    split
    · exact h.reset s hs
    · exact hs
  case blockStart micD micC first =>
    cases he
    exact whenUp_keeps (fun u hu => h.takeBoundary_keeps micD micC first (h.openBoundary_keeps hu)) hs
  case frameTimeout => cases he; exact h.atBoundary_keeps (fun u hu => h.takeAge_keeps hu) hs
  case commitDue => cases he; exact h.atBoundary_keeps (fun u hu => h.takeCommit_keeps hu) hs
  case trackStarved p k => cases he; exact h.atBoundary_keeps (fun u hu => h.track p k u hu) hs
  case queueDeadlineExpiry handle => cases he; exact h.atBoundary_keeps (fun u hu => h.advance handle u hu) hs
  case leadEnd handle => cases he; exact h.atBoundary_keeps (fun u hu => h.advance handle u hu) hs
  case maximumLiveReached handle => cases he; exact h.atBoundary_keeps (fun u hu => h.advance handle u hu) hs
  case starvationRunLimit handle => cases he; exact h.atBoundary_keeps (fun u hu => h.advance handle u hu) hs
  case tailEnd handle => cases he; exact h.atBoundary_keeps (fun u hu => h.advance handle u hu) hs
  case envelopeDecayStep v => cases he; exact h.atBoundary_keeps (fun u hu => h.voice v u hu) hs
  case chimeNoteEnd v => cases he; exact h.atBoundary_keeps (fun u hu => h.voice v u hu) hs
  case chimeEnd v => cases he; exact h.atBoundary_keeps (fun u hu => h.voice v u hu) hs
  case replySlotComplete l signal => cases he; exact whenUp_keeps (fun u hu => h.slot l signal u hu) hs
  case berthDropped l signal =>
    cases he
    refine whenUp_keeps (fun u hu => ?_) hs
    split
    · exact h.slot l signal u hu
    · exact hu
  case berthConflict l =>
    cases he
    refine whenUp_keeps (fun u hu => ?_) hs
    split
    · exact h.slot l .collision u hu
    · exact hu
  case driveConflict l => cases he; exact whenUp_keeps (fun u hu => h.conflict l u hu) hs
  case mediaFrame f => cases he; exact whenUp_keeps (fun u hu => h.media f u hu) hs
  case pttPress m => cases he; exact whenUp_keeps (fun u hu => h.edgeIfOther_keeps _ _ hu) hs
  case pttRelease m => cases he; exact whenUp_keeps (fun u hu => h.edgeIfOther_keeps _ _ hu) hs
  case alarmInPress => cases he; exact whenUp_keeps (fun u hu => h.edgeIfOther_keeps _ _ hu) hs
  case alarmInRelease => cases he; exact whenUp_keeps (fun u hu => h.edgeIfOther_keeps _ _ hu) hs
  case ctlRxByte x => cases he; exact whenUp_keeps (fun u hu => h.receiveByte_keeps x hu) hs
  case contactSample c v => cases he; exact whenUp_keeps (fun u hu => h.takeSample_keeps c v hu) hs
  all_goals
    cases he
    exact h.takeRequest_keeps _ (by constructor) hs

/-- A step carries out the command in front, so a property that does not speak of the queue is kept by every step. -/
theorem step_keeps (hqueue : ∀ s q, P s → P (s.setPending q)) {s t : State} (hs : P s) (hstep : step s = .next t) :
    P t := by
  unfold step at hstep
  split at hstep
  · cases hstep; exact hs
  · exact h.exec_keeps (hqueue s _ hs) hstep

end CommandsKeep

end Sys2Proof.Machine
end

section
/-! PROOFS. Every step keeps the ranges (O5): one rule per update of the state, then one lemma per operation. -/

namespace Sys2Proof.Machine

/-! ## What a device reset leaves is in range -/

theorem rangesHold_reset : RangesHold State.reset where
  berths b := by
    show BerthInRange ((Table.fill berthCount Berth.reset).get b)
    rw [Table.get_fill]; decide
  lines l := by
    show LineInRange ((Table.fill lineCount Line.reset).get l)
    rw [Table.get_fill]; decide
  drops l n := by
    show (((Table.fill lineCount LaneSet.reset).get l).drops.get n) ≤ 65535
    rw [Table.get_fill]; revert n; decide
  programmes p := by
    show ProgrammeInRange ((Table.fill programmeCount Programme.reset).get p)
    rw [Table.get_fill]; decide
  recorded := by decide
  port := by decide
  entries e he := absurd he List.not_mem_nil
  driver := by decide
  crew := by decide
  finished := ⟨by decide, fun r hr => absurd hr List.not_mem_nil⟩
  patterns p := by
    show PatternInRange ((Table.ofFn defaultPattern).get p)
    rw [Table.get_ofFn]; revert p; decide
  voices v p hp := by cases v <;> cases hp
  mix b := by
    show MixInRange ((Table.fill berthCount MixState.reset).get b)
    rw [Table.get_fill]; decide
  coach := by decide
  link := by refine ⟨?_, fun hne => absurd rfl hne, ?_, ?_, ?_, ?_, ?_, ?_, trivial⟩ <;> decide

theorem rangesHold_setPending {s : State} (h : RangesHold s) (q : List Instr) : RangesHold (s.setPending q) :=
  { h with }

theorem rangesHold_deviceReset (s : State) : RangesHold (deviceReset s) :=
  rangesHold_setPending rangesHold_reset s.pending

/-! ## One rule per update of the state -/

theorem patterns_modVoice (s : State) (v : Source) (f : Voice → Voice) :
    (s.modVoice v f).chimes.patterns = s.chimes.patterns := by
  cases v <;> rfl

section
variable {s : State} (h : RangesHold s)
include h

theorem rangesHold_modEvents (f : Events → Events) : RangesHold (s.modEvents f) := { h with }

theorem rangesHold_raise (e : Event) : RangesHold (raise e s) := rangesHold_modEvents h _

theorem rangesHold_modBoundary (f : Boundary → Boundary) : RangesHold (s.modBoundary f) := { h with }

theorem rangesHold_setDevice (d : DeviceState) : RangesHold (s.setDevice d) := { h with }

theorem rangesHold_setCommitPending (v : Bool) : RangesHold (s.setCommitPending v) := { h with }

theorem rangesHold_setBerths {t : Table Berth berthCount} (ht : ∀ b, BerthInRange (t.get b)) :
    RangesHold (s.setBerths t) := { h with berths := ht }

theorem rangesHold_mapBerths {f : Berth → Berth} (hf : ∀ x, BerthInRange x → BerthInRange (f x)) :
    RangesHold (s.setBerths (s.berths.map f)) :=
  rangesHold_setBerths h fun b => by rw [Table.get_map]; exact hf _ (h.berths b)

theorem rangesHold_modLive {b : BerthNo} {f : LiveRecord → LiveRecord} (hf : (f (s.live b)).volume ≤ 96) :
    RangesHold (s.modLive b f) :=
  rangesHold_setBerths h fun c => by
    rw [Table.get_modify]
    split
    next hbc => subst hbc; exact ⟨hf, (h.berths b).2⟩
    · exact h.berths c

theorem rangesHold_modStaged {b : BerthNo} {f : StagedRecord → StagedRecord} (hf : (f (s.staged b)).volume.getD 0 ≤ 96) :
    RangesHold (s.modStaged b f) :=
  rangesHold_setBerths h fun c => by
    rw [Table.get_modify]
    split
    next hbc => subst hbc; exact ⟨(h.berths b).1, hf⟩
    · exact h.berths c

theorem rangesHold_setLines {t : Table Line lineCount} (ht : ∀ l, LineInRange (t.get l)) :
    RangesHold (s.setLines t) := { h with lines := ht }

theorem rangesHold_mapLines {f : Line → Line} (hf : ∀ x, LineInRange x → LineInRange (f x)) :
    RangesHold (s.setLines (s.lines.map f)) :=
  rangesHold_setLines h fun l => by rw [Table.get_map]; exact hf _ (h.lines l)

theorem rangesHold_modLine {l : LineNo} {f : Line → Line} (hf : LineInRange (s.line l) → LineInRange (f (s.line l))) :
    RangesHold (s.modLine l f) :=
  rangesHold_setLines h fun m => by
    rw [Table.get_modify]
    split
    next hlm => subst hlm; exact hf (h.lines l)
    · exact h.lines m

theorem rangesHold_modLinkOf {b : BerthNo} {f : LinkRecord → LinkRecord} (hf : ∀ r, LinkInRange r → LinkInRange (f r)) :
    RangesHold (s.modLinkOf b f) := by
  refine rangesHold_modLine h ?_
  rintro ⟨hfitted, hfault, hlinks, hqueues⟩
  refine ⟨hfitted, hfault, fun k => ?_, hqueues⟩
  dsimp only
  rw [Table.get_modify]
  split
  · exact hf _ (hlinks k)
  · exact hlinks k

theorem rangesHold_modLaneSet {l : LineNo} {f : LaneSet → LaneSet} (hf : ∀ n, (f (s.laneSet l)).drops.get n ≤ 65535) :
    RangesHold (s.modLaneSet l f) :=
  { h with
    drops := fun m n => by
      rw [s.laneSet_modLaneSet]
      split
      next hlm => subst hlm; exact hf n
      · exact h.drops m n }

theorem rangesHold_setMix {t : Table MixState berthCount} (ht : ∀ b, MixInRange (t.get b)) : RangesHold (s.setMix t) :=
  { h with mix := ht }

theorem rangesHold_mapMix {f : MixState → MixState} (hf : ∀ m, MixInRange m → MixInRange (f m)) :
    RangesHold (s.setMix (s.mix.map f)) :=
  rangesHold_setMix h fun b => by rw [Table.get_map]; exact hf _ (h.mix b)

theorem rangesHold_modMix {b : BerthNo} {f : MixState → MixState} (hf : MixInRange (s.mixOf b) → MixInRange (f (s.mixOf b))) :
    RangesHold (s.modMix b f) :=
  rangesHold_setMix h fun c => by
    rw [Table.get_modify]
    split
    next hbc => subst hbc; exact hf (h.mix b)
    · exact h.mix c

theorem rangesHold_modProgramme {p : ProgrammeNo} {f : Programme → Programme}
    (hf : ProgrammeInRange (s.programme p) → ProgrammeInRange (f (s.programme p))) : RangesHold (s.modProgramme p f) :=
  { h with
    programmes := fun q => by
      rw [s.programme_modProgramme]
      split
      next hpq => subst hpq; exact hf (h.programmes p)
      · exact h.programmes q }

theorem rangesHold_modTrack {p : ProgrammeNo} {k : TrackNo} {f : Track → Track}
    (hf : ∀ t, TrackInRange t → TrackInRange (f t)) : RangesHold (s.modTrack p k f) := by
  refine rangesHold_modProgramme h ?_
  rintro ⟨hcount, htrim0, htrim1, hcard, htracks⟩
  refine ⟨hcount, htrim0, htrim1, hcard, fun j => ?_⟩
  dsimp only
  rw [Table.get_modify]
  split
  · exact hf _ (htracks j)
  · exact htracks j

theorem rangesHold_modRecorded {f : RecordedBuffer → RecordedBuffer}
    (hf : RecordedInRange s.media.recorded → RecordedInRange (f s.media.recorded)) : RangesHold (s.modRecorded f) :=
  { h with recorded := hf h.recorded }

theorem rangesHold_modPort {f : PortCounters → PortCounters} (hf : ∀ p, PortInRange p → PortInRange (f p)) :
    RangesHold (s.modPort f) := { h with port := hf _ h.port }

theorem rangesHold_modVoice {v : Source} {f : Voice → Voice}
    (hf : ∀ p, (f (s.voice v)).playing = some p → PlayingInRange p) : RangesHold (s.modVoice v f) :=
  { h with
    patterns := fun p => by rw [patterns_modVoice]; exact h.patterns p
    voices := fun w p hp => by
      rw [s.voice_modVoice] at hp
      split at hp
      next hvw => subst hvw; exact hf p hp
      · exact h.voices w p hp }

theorem rangesHold_modCoach {f : Coach → Coach} (hf : CoachInRange s.coach → CoachInRange (f s.coach)) :
    RangesHold (s.modCoach f) := { h with coach := hf h.coach }

theorem rangesHold_setFilter {c : Contact} {v : Filter} (hv : v.run ≤ 2) : RangesHold (s.setFilter c v) := by
  refine rangesHold_modCoach h ?_
  rintro ⟨hd, hc, ha, hrest⟩
  cases c
  · exact ⟨hv, hc, ha, hrest⟩
  · exact ⟨hd, hv, ha, hrest⟩
  · exact ⟨hd, hc, hv, hrest⟩

theorem rangesHold_setEntries {es : List Entry} (hes : ∀ e ∈ es, EntryInRange e) :
    RangesHold (s.modAnn fun a => { a with entries := es }) := { h with entries := hes }

theorem rangesHold_modEntry {k : Byte} {f : Entry → Entry}
    (hf : ∀ e ∈ s.ann.entries, e.handle = k → EntryInRange e → EntryInRange (f e)) : RangesHold (s.modEntry k f) := by
  refine rangesHold_setEntries h fun e he => ?_
  obtain ⟨x, hx, rfl⟩ := List.mem_map.1 he
  split
  next hk => exact hf x hx hk (h.entries x hx)
  · exact h.entries x hx

end

/-- A berth that enters or leaves PRESENT holds no floor and its gate is shut (R4, R121). -/
theorem mixInRange_unfloored {m : MixState} (hm : MixInRange m) :
    MixInRange { m with floor := none, gate := mute, duck := 0, gateTarget := mute, duckTarget := 0 } := by
  obtain ⟨-, -, hds, hgs, -, -, hp, ha, hc, hclip⟩ := hm
  exact ⟨Nat.zero_le _, Nat.le_refl _, hds, hgs, Nat.zero_le _, Nat.le_refl _, hp, ha, hc, hclip⟩

/-! ## Lanes, presence and the lines (chapters 1, 2 and 4) -/

section
variable {s : State} (h : RangesHold s)
include h

theorem rangesHold_setLaneField (b : BerthNo) (v : LaneField) : RangesHold (setLaneField b v s) :=
  rangesHold_modLive h (h.berths b).1

theorem rangesHold_setLane (l : LineNo) (n : LaneNo) (v : Lane) : RangesHold (setLane l n v s) :=
  rangesHold_modLaneSet h (h.drops l)

theorem rangesHold_setWaits (l : LineNo) (ws : List BerthNo) : RangesHold (setWaits l ws s) :=
  rangesHold_modLaneSet h (h.drops l)

theorem rangesHold_freeTheLane (l : LineNo) (n : LaneNo) : RangesHold (freeTheLane l n s) := by
  refine rangesHold_modLine (rangesHold_setLane h l n .free) ?_
  rintro ⟨hfitted, hfault, hlinks, hqueues⟩
  refine ⟨hfitted, hfault, hlinks, fun m => ?_⟩
  dsimp only
  rw [Table.get_set]
  split
  · exact Nat.zero_le _
  · exact hqueues m

theorem rangesHold_acquire (b : BerthNo) : RangesHold (acquire b s) := by
  unfold acquire
  split
  · dsimp only
    split
    · exact h
    · split
      · exact rangesHold_setLaneField (rangesHold_setLane h _ _ _) _ _
      · split
        · exact rangesHold_setLaneField (rangesHold_setLane h _ _ _) _ _
        · exact rangesHold_setLaneField (rangesHold_setWaits h _ _) _ _
  · exact h

theorem rangesHold_handOver (l : LineNo) (n : LaneNo) (w : BerthNo) : RangesHold (handOver l n w s) := by
  unfold handOver
  split
  · exact rangesHold_freeTheLane h l n
  · exact forEach_invariant RangesHold _ (fun t b _ ht => rangesHold_setLaneField ht b _)
      (rangesHold_setWaits (rangesHold_setLane h _ _ _) _ _)

theorem rangesHold_releaseLane (b : BerthNo) (n : LaneNo) : RangesHold (releaseLane b n s) := by
  have hnone := rangesHold_setLaneField h b .none
  unfold releaseLane
  dsimp only
  split
  · exact hnone
  · split
    · exact rangesHold_setLane hnone _ _ _
    · split
      · exact rangesHold_freeTheLane hnone _ _
      · exact rangesHold_handOver hnone _ _ _

theorem rangesHold_releaseWait (b : BerthNo) : RangesHold (releaseWait b s) :=
  rangesHold_setLaneField (rangesHold_setWaits h _ _) b .none

theorem rangesHold_releaseRoute (b : BerthNo) : RangesHold (releaseRoute b s) := by
  unfold releaseRoute
  split
  · exact h
  · exact rangesHold_releaseLane h b _
  · exact rangesHold_releaseWait h b

theorem rangesHold_routeChange (b : BerthNo) : RangesHold (routeChange b s) :=
  rangesHold_acquire (rangesHold_releaseRoute h b) b

theorem rangesHold_batchUnwait (b : BerthNo) : RangesHold (batchUnwait s b) := by
  unfold batchUnwait
  split
  · exact rangesHold_releaseWait h b
  · exact h

theorem rangesHold_batchRelease (b : BerthNo) : RangesHold (batchRelease s b) := by
  unfold batchRelease
  split
  · exact rangesHold_releaseLane h b _
  · exact h

theorem rangesHold_applyBatch (batch : List BerthNo) : RangesHold (applyBatch batch s) :=
  forEach_invariant RangesHold _ (fun _ b _ ht => rangesHold_acquire ht b)
    (forEach_invariant RangesHold _ (fun _ b _ ht => rangesHold_batchRelease ht b)
      (forEach_invariant RangesHold _ (fun _ b _ ht => rangesHold_batchUnwait ht b) h))

/-- An audience is not among the ranges. -/
theorem rangesHold_loseAudience (k : Byte) : RangesHold (loseAudience k s) :=
  rangesHold_modEntry h fun _ _ _ he => he

theorem rangesHold_gainAudience (k : Byte) : RangesHold (gainAudience k s) :=
  rangesHold_modEntry h fun _ _ _ he => he

theorem rangesHold_dropFloorAudience (b : BerthNo) : RangesHold (dropFloorAudience b s) := by
  unfold dropFloorAudience
  split
  · exact h
  · exact rangesHold_loseAudience h _

theorem rangesHold_leavesPresent (b : BerthNo) : RangesHold (leavesPresent b s) :=
  rangesHold_modMix (rangesHold_dropFloorAudience (rangesHold_releaseRoute
    (rangesHold_modLive h (h.berths b).1) b) b) mixInRange_unfloored

theorem rangesHold_entersPresent (b : BerthNo) : RangesHold (entersPresent b s) := by
  have hmix : RangesHold (mixEntersPresent b s) := rangesHold_modMix h mixInRange_unfloored
  unfold entersPresent
  dsimp only
  split
  · exact rangesHold_acquire hmix b
  · exact hmix

theorem rangesHold_notify (v : Presence) (b : BerthNo) : RangesHold (notify v b s) := by
  unfold notify
  dsimp only
  split
  · exact h
  · have hlive : RangesHold (s.modLive b fun r => { r with presence := v }) := rangesHold_modLive h (h.berths b).1
    have hleft : RangesHold (if s.presence b = .present then leavesPresent b (s.modLive b fun r => { r with presence := v })
        else s.modLive b fun r => { r with presence := v }) := by
      split
      · exact rangesHold_leavesPresent hlive b
      · exact hlive
    generalize (if s.presence b = .present then leavesPresent b (s.modLive b fun r => { r with presence := v })
        else s.modLive b fun r => { r with presence := v }) = t at hleft ⊢
    have hentered : RangesHold (if v = .present then entersPresent b t else t) := by
      split
      · exact rangesHold_entersPresent hleft b
      · exact hleft
    split
    · exact hentered
    · exact rangesHold_raise hentered _

theorem rangesHold_dropLine (l : LineNo) : RangesHold (dropLine l s) := by
  refine forEach_invariant RangesHold _ (fun t b _ ht => ?_) h
  split
  · exact rangesHold_notify ht _ b
  · exact ht

theorem rangesHold_writeSensed (b : BerthNo) (o p : Bool) : RangesHold (writeSensed b o p s) :=
  rangesHold_modLive h (h.berths b).1

end

end Sys2Proof.Machine
end

section
/-! PROOFS. What each host request leaves: the state as it was, or the one change its owner's rule names. -/

namespace Sys2Proof.Machine

/-! ## Requests that read -/

@[simp] theorem berthRead_state (n : Byte) (s : State) : (berthRead n s).state = s := by
  unfold berthRead; split <;> rfl

@[simp] theorem lineRead_state (n : Byte) (s : State) : (lineRead n s).state = s := by
  unfold lineRead; split <;> rfl

@[simp] theorem berthLinkRead_state (n : Byte) (s : State) : (berthLinkRead n s).state = s := by
  unfold berthLinkRead; split <;> rfl

@[simp] theorem programmeRead_state (n : Byte) (s : State) : (programmeRead n s).state = s := by
  unfold programmeRead
  split
  · rfl
  · split <;> rfl

@[simp] theorem laneRead_state (n : Byte) (s : State) : (laneRead n s).state = s := by
  unfold laneRead; split <;> rfl

@[simp] theorem readHandle_state (h : Byte) (s : State) : (readHandle h s).state = s := by
  unfold readHandle
  split
  · rfl
  · split <;> rfl

@[simp] theorem readSource_state (v : Source) (s : State) : (readSource v s).state = s := by
  unfold readSource; split <;> rfl

@[simp] theorem announcementRead_state (x c : Byte) (s : State) : (announcementRead x c s).state = s := by
  unfold announcementRead
  split
  · split
    · rfl
    · exact readHandle_state c s
  · split
    · split
      · rfl
      · exact readSource_state _ s
    · rfl

@[simp] theorem finishedRead_state (n : Byte) (s : State) : (finishedRead n s).state = s := by
  unfold finishedRead; split <;> rfl

@[simp] theorem chimeRead_state (n : Byte) (s : State) : (chimeRead n s).state = s := by
  unfold chimeRead; split <;> rfl

@[simp] theorem coachRead_state (s : State) : (coachRead s).state = s := rfl

@[simp] theorem restartRequest_state (s : State) : (restartRequest s).state = s := rfl

@[simp] theorem statusRead_state (s : State) : (statusRead s).state = s := rfl

@[simp] theorem eventsRead_state (s : State) : (eventsRead s).state = s := rfl

/-! ## Requests that change something -/

theorem berthStage_state (n : Byte) (x : StageBody) (s : State) : (berthStage n x s).state = s ∨
    ∃ b, (berthStage n x s).state = s.modStaged b (stageInto x) := by
  unfold berthStage
  split
  · exact .inl rfl
  next b _ =>
    split
    · exact .inl rfl
    · split
      · exact .inl rfl
      · split
        · exact .inl rfl
        · split
          · exact .inl rfl
          · exact .inr ⟨b, rfl⟩

theorem stageDiscard_state (s : State) : (stageDiscard s).state = s ∨ (stageDiscard s).state = emptyStaging s := by
  unfold stageDiscard
  split
  · exact .inl rfl
  · exact .inr rfl

theorem commitRequest_state (s : State) :
    (commitRequest s).state = s ∨ (commitRequest s).state = s.setCommitPending true := by
  unfold commitRequest
  split
  · exact .inl rfl
  · exact .inr rfl

theorem berthEdit_state (z am md op d x : Byte) (s : State) : (berthEdit z am md op d x s).state = s ∨
    ∃ m o, (berthEdit z am md op d x s).state = s.setBerths (s.berths.map (editBerth z am m o d.toNat x.toNat)) := by
  unfold berthEdit
  split
  · split
    · exact .inl rfl
    · exact .inr ⟨_, _, rfl⟩
  · exact .inl rfl

theorem lineSetup_state (n count : Byte) (s : State) : (lineSetup n count s).state = s ∨
    ∃ l, ¬ (s.device = .run ∧ (s.line l).state ≠ .off) ∧ count.toNat ≤ 12 ∧
      (lineSetup n count s).state = clearLinks l (forEach (berthsOf l) (setupNotice count.toNat)
        (s.modLine l fun x => { x with fitted := count.toNat })) := by
  unfold lineSetup
  split
  · exact .inl rfl
  next l _ =>
    split
    · exact .inl rfl
    next hoff =>
      split
      · exact .inl rfl
      next hcount => exact .inr ⟨l, hoff, Nat.not_lt.1 hcount, rfl⟩

theorem lineRestart_state (n : Byte) (s : State) : (lineRestart n s).state = s ∨
    ∃ l, s.device ≠ .config ∧ (lineRestart n s).state =
      (clearLinks l s).modLine l fun x => { x with framesSent := 0, state := .running } := by
  unfold lineRestart
  split
  · exact .inl rfl
  next hrun =>
    split
    · exact .inl rfl
    next l _ =>
      split
      · exact .inl rfl
      · exact .inr ⟨l, hrun, rfl⟩

theorem lineStop_state (n : Byte) (s : State) : (lineStop n s).state = s ∨
    ∃ l, (lineStop n s).state = dropLine l (s.modLine l (quietLine .off)) := by
  unfold lineStop
  split
  · exact .inl rfl
  · split
    · exact .inl rfl
    next l _ =>
      split
      · exact .inl rfl
      · dsimp only; exact .inr ⟨l, rfl⟩

theorem berthLinkClear_state (n : Byte) (s : State) : (berthLinkClear n s).state = s ∨
    ∃ b, ((berthLinkClear n s).state = s.modLinkOf b clearedLink) ∨
      s.presence b = .conflict ∧ (berthLinkClear n s).state =
        notify .absent b ((s.modLinkOf b clearedLink).modLinkOf b fun r => { r with collisionRun := 0 }) := by
  unfold berthLinkClear
  split
  · exact .inl rfl
  next b _ =>
    split
    · exact .inl rfl
    · dsimp only
      split
      next hconflict => exact .inr ⟨b, .inr ⟨hconflict, rfl⟩⟩
      · exact .inr ⟨b, .inl rfl⟩

/-- What PROGRAMME SETUP stores in the programme (R52). -/
def setupProgramme (picture tracks trim0 trim1 card : Byte) (r : Programme) : Programme :=
  { r with
    picture := carriedFlag picture
    trackCount := tracks.toNat
    trim0 := min trimMax trim0.toNat
    trim1 := min trimMax trim1.toNat
    stillCard := card.toNat
    tracks := if r.trackCount = 2 ∧ tracks.toNat = 1 then r.tracks.modify 1 retireTrack else r.tracks }

theorem programmeSetup_state (n picture tracks trim0 trim1 card : Byte) (s : State) :
    (programmeSetup n picture tracks trim0 trim1 card s).state = s ∨
    ∃ p, s.device = .config ∧ (tracks.toNat = 1 ∨ tracks.toNat = 2) ∧ card.toNat ≤ 63 ∧
      (programmeSetup n picture tracks trim0 trim1 card s).state =
        if tracks.toNat = 1 then dropTrackOne p (s.modProgramme p (setupProgramme picture tracks trim0 trim1 card))
        else s.modProgramme p (setupProgramme picture tracks trim0 trim1 card) := by
  unfold programmeSetup
  split
  · exact .inl rfl
  next hconfig =>
    split
    · exact .inl rfl
    next p _ =>
      split
      · exact .inl rfl
      next htracks =>
        split
        · exact .inl rfl
        next hcard =>
          refine .inr ⟨p, ?_, by omega, Nat.not_lt.1 hcard, rfl⟩
          cases hdevice : s.device
          · rfl
          · exact absurd hdevice hconfig

/-- What PROGRAMME TRIM stores in the programme (R53). -/
def trimProgramme (x : TrimBody) (r : Programme) : Programme :=
  { r with trim0 := storing trimMax x.trim0 r.trim0, trim1 := storing trimMax x.trim1 r.trim1,
           stillCard := storing cardMax x.stillCard r.stillCard }

theorem programmeTrim_state (n : Byte) (x : TrimBody) (s : State) : (programmeTrim n x s).state = s ∨
    ∃ p, (programmeTrim n x s).state = s.modProgramme p (trimProgramme x) := by
  unfold programmeTrim
  split
  · exact .inl rfl
  next p _ =>
    split
    · exact .inl rfl
    · exact .inr ⟨p, rfl⟩

theorem announce_state (x : AnnounceBody) (deadline : Half) (s : State) : (announce x deadline s).state = s ∨
    ∃ p, s.device ≠ .config ∧ carriedParams x = some p ∧ recordedCount s < 14 ∧
      (announce x deadline s).state = placeEntry (newEntry s .r p deadline.toNat) (countAdmission s) := by
  unfold announce
  split
  · exact .inl rfl
  next hrun =>
    split
    · exact .inl rfl
    next p hp =>
      split
      · exact .inl rfl
      next hroom => exact .inr ⟨p, hrun, hp, Nat.not_le.1 hroom, rfl⟩

theorem pttProfileSet_state (n : Byte) (x : AnnounceBody) (s : State) : (pttProfileSet n x s).state = s ∨
    ∃ m p, carriedParams x = some p ∧ (pttProfileSet n x s).state = setProfile m p s := by
  unfold pttProfileSet
  split
  next m p _ hp => exact .inr ⟨m, p, hp, rfl⟩
  · exact .inl rfl

theorem cut_state (h mode : Byte) (s : State) : (cut h mode s).state = s ∨
    ∃ e hard, s.device ≠ .config ∧ s.entry? h = some e ∧ (cut h mode s).state = cutEntry e hard s := by
  unfold cut
  split
  · exact .inl rfl
  next hrun =>
    split
    · exact .inl rfl
    · split
      · exact .inl rfl
      next e he => exact .inr ⟨e, _, hrun, he, rfl⟩

theorem chimeLoad_state (n : Byte) (notes : List NoteBody) (s : State) : (chimeLoad n notes s).state = s ∨
    ∃ p stored, loadNotes notes = some stored ∧ notes ≠ [] ∧ notes.length ≤ 4 ∧ patternBusy s p = false ∧
      (chimeLoad n notes s).state = s.modChimes fun c => { c with patterns := c.patterns.set p stored } := by
  unfold chimeLoad
  split
  · exact .inl rfl
  next p _ =>
    split
    · exact .inl rfl
    next hcount =>
      split
      · exact .inl rfl
      next stored hstored =>
        split
        · exact .inl rfl
        next hbusy =>
          refine .inr ⟨p, stored, hstored, fun hnil => hcount (.inl (by rw [hnil]; rfl)), by omega, ?_, rfl⟩
          exact Bool.not_eq_true _ ▸ hbusy

theorem mixRead_state (n clear : Byte) (s : State) : (mixRead n clear s).state = s ∨
    ∃ b, (mixRead n clear s).state = s.modMix b fun m => { m with clipCount := 0 } := by
  unfold mixRead
  split
  · exact .inl rfl
  next b _ =>
    dsimp only
    split
    · exact .inr ⟨b, rfl⟩
    · exact .inl rfl

theorem coachSet_state (x : CoachBody) (s : State) :
    (coachSet x s).state = s ∨ (coachSet x s).state = s.modCoach (storeSettings x) := by
  unfold coachSet
  split
  · exact .inl rfl
  · exact .inr rfl

theorem alarmRelease_state (s : State) : (alarmRelease s).state = s ∨
    (alarmRelease s).state = forEach allBerths alarmReleaseAt (s.modCoach fun k => { k with latch := false }) := by
  unfold alarmRelease
  split
  · exact .inl rfl
  · split
    · dsimp only; exact .inr rfl
    · exact .inl rfl

theorem callTake_state (s : State) : (callTake s).state = s ∨
    (callTake s).state = s.modCoach fun k => { k with calls := k.calls.tail } := by
  unfold callTake
  split
  · exact .inl rfl
  next c rest hcalls =>
    refine .inr ?_
    dsimp only [State.modCoach]
    rw [hcalls, List.tail_cons]

theorem callClear_state (n : Byte) (s : State) : (callClear n s).state = s ∨ ∃ b, (callClear n s).state = dropCall b s := by
  unfold callClear
  split
  · exact .inl rfl
  next b _ =>
    split
    · exact .inl rfl
    · exact .inr ⟨b, rfl⟩

theorem startRequest_state (s : State) : (startRequest s).state = s ∨
    s.device = .config ∧
      ((startRequest s).state = (s.setDevice .run).setLines (s.lines.map startLine) ∨
        (startRequest s).state = setLatch ((s.setDevice .run).setLines (s.lines.map startLine))) := by
  unfold startRequest
  split
  · exact .inl rfl
  next hconfig =>
    have hdevice : s.device = .config := by
      cases hd : s.device
      · rfl
      · exact absurd hd hconfig
    dsimp only
    split
    · exact .inr ⟨hdevice, .inr rfl⟩
    · exact .inr ⟨hdevice, .inl rfl⟩

theorem eventsClear_state (v : Half) (s : State) : ∃ f, (eventsClear v s).state = s.modEvents f := by
  unfold eventsClear
  split
  · exact ⟨fun x => x, rfl⟩
  · dsimp only; exact ⟨_, rfl⟩

theorem eventsEnable_state (v : Half) (s : State) : ∃ f, (eventsEnable v s).state = s.modEvents f := by
  unfold eventsEnable
  split
  · exact ⟨fun x => x, rfl⟩
  · dsimp only; exact ⟨_, rfl⟩

end Sys2Proof.Machine
end

section
/-! PROOFS. Every step keeps the ranges (O5), continued: requests, slots, media, voices, announcements and the mix. -/

namespace Sys2Proof.Machine

/-! ## Records as they are stored -/

theorem countTo_le (top n : Nat) : countTo top n ≤ top := Nat.min_le_left _ _

theorem countHalf_le (n : Nat) : countHalf n ≤ 65535 := countTo_le _ n

theorem countHalfBy_le (k n : Nat) : countHalfBy k n ≤ 65535 := Nat.min_le_left _ _

theorem storing_le {hi : Nat} (v : Option Byte) {old : Nat} (h : old ≤ hi) : storing hi v old ≤ hi := by
  cases v
  · exact h
  · exact Nat.min_le_left _ _

theorem clampTo_mem {lo hi : Nat} (h : lo ≤ hi) (n : Nat) : lo ≤ clampTo lo hi n ∧ clampTo lo hi n ≤ hi := by
  unfold clampTo; omega

theorem paramsInRange_of_carried {x : AnnounceBody} {p : Params} (h : carriedParams x = some p) : ParamsInRange p := by
  unfold carriedParams at h
  split at h
  next c m k _ _ _ =>
    cases h
    exact ⟨Nat.lt_succ_iff.1 c.isLt, Nat.min_le_left _ _, clampTo_mem (by decide) _, clampTo_mem (by decide) _,
      Nat.min_le_left _ _, Nat.min_le_left _ _, Nat.min_le_left _ _, Nat.min_le_left _ _, Nat.lt_succ_iff.1 x.maxLive.isLt⟩
  · cases h

theorem lead_le_of_paramsInRange {p : Params} (h : ParamsInRange p) : p.lead ≤ 4095 := by
  obtain ⟨-, -, -, -, -, -, hlead, -⟩ := h
  exact hlead

theorem tail_le_of_paramsInRange {p : Params} (h : ParamsInRange p) : p.tail ≤ 4095 := by
  obtain ⟨-, -, -, -, -, -, -, htail, -⟩ := h
  exact htail

theorem noteInRange_of_load {x : NoteBody} {n : Note} (h : loadNote x = some n) : NoteInRange n := by
  obtain ⟨-, hduty, hduration, ha0, hdecay⟩ := loadNote_eq_some h
  have := x.decay.isLt
  refine ⟨?_, ?_, ?_, ?_⟩ <;> omega

theorem patternInRange_of_load {notes : List NoteBody} {stored : List Note} (h : loadNotes notes = some stored)
    (hne : notes ≠ []) (hlen : notes.length ≤ 4) : PatternInRange stored := by
  have hall := loadNotes_eq_some.1 h
  have hsize := hall.length_eq
  refine ⟨?_, hsize ▸ hlen, fun n hn => ?_⟩
  · rw [← hsize]; exact List.length_pos_iff.2 hne
  · obtain ⟨i, hi, rfl⟩ := List.mem_iff_getElem.1 hn
    exact noteInRange_of_load (loadNote_of_loadNotes h (List.getElem?_eq_getElem (hsize ▸ hi)) (List.getElem?_eq_getElem hi))

theorem stageInto_volume_le (x : StageBody) {g : StagedRecord} (h : g.volume.getD 0 ≤ 96) :
    (stageInto x g).volume.getD 0 ≤ 96 := by
  show (staging _ x.volume g.volume).getD 0 ≤ 96
  cases x.volume
  · exact h
  · exact Nat.min_le_left _ _

/-! ## The Berth Table (chapter 1) -/

section
variable {s : State} (h : RangesHold s)
include h

theorem rangesHold_emptyStaging : RangesHold (emptyStaging s) :=
  rangesHold_mapBerths h fun _ ⟨hlive, _⟩ => ⟨hlive, Nat.zero_le _⟩

omit h in
theorem volume_clampTrack (r : LiveRecord) : (clampTrack s r).volume = r.volume := by
  unfold clampTrack
  split
  · rfl
  · split <;> rfl

omit h in
theorem berthInRange_commitBerth {x : Berth} (hx : BerthInRange x) : BerthInRange (commitBerth s x) := by
  obtain ⟨hlive, hstaged⟩ := hx
  unfold commitBerth
  split
  · exact ⟨hlive, hstaged⟩
  · refine ⟨?_, Nat.zero_le _⟩
    show (clampTrack s (carryFields x.staged x.live)).volume ≤ 96
    rw [volume_clampTrack]
    show x.staged.volume.getD x.live.volume ≤ 96
    cases hvolume : x.staged.volume with
    | none => exact hlive
    | some v => rw [hvolume] at hstaged; exact hstaged

theorem rangesHold_carryOutCommit : RangesHold (carryOutCommit s) :=
  rangesHold_raise (rangesHold_modBoundary (rangesHold_setCommitPending (rangesHold_applyBatch
    (rangesHold_mapBerths h fun _ hx => berthInRange_commitBerth hx) _) false) _) .commitDone

omit h in
theorem berthInRange_editBerth {z am : Byte} {m : TestMode} {o : EditOp} {d x : Nat} {y : Berth} (hy : BerthInRange y) :
    BerthInRange (editBerth z am m o d x y) := by
  unfold editBerth
  split
  · exact hy
  · exact hy

omit h in
theorem volume_applyRequest_le (q : BerthRequest) {r : LiveRecord} (hr : r.volume ≤ 96) :
    (applyRequest s q r).volume ≤ 96 := by
  unfold applyRequest
  split
  case h_1 => split <;> exact hr
  case h_3 =>
    split
    · split <;> exact hr
    · exact hr
  case h_6 => exact (Nat.sub_le _ _).trans hr
  case h_7 => exact Nat.min_le_left _ _
  all_goals exact hr

theorem rangesHold_takeBerthRequest (b : BerthNo) (q : BerthRequest) : RangesHold (takeBerthRequest b q s) := by
  unfold takeBerthRequest
  dsimp only
  split
  · exact h
  · have hlive : RangesHold (s.modLive b fun _ => applyRequest s q (s.live b)) :=
      rangesHold_modLive h (volume_applyRequest_le q (h.berths b).1)
    have hrouted : RangesHold (if s.presence b = .present ∧ ((applyRequest s q (s.live b)).programme ≠ (s.live b).programme ∨
        (applyRequest s q (s.live b)).picture ≠ (s.live b).picture)
        then routeChange b (s.modLive b fun _ => applyRequest s q (s.live b))
        else s.modLive b fun _ => applyRequest s q (s.live b)) := by
      split
      · exact rangesHold_routeChange hlive b
      · exact hlive
    split
    · exact hrouted
    · exact rangesHold_raise hrouted _

theorem rangesHold_dropCall (b : BerthNo) : RangesHold (dropCall b s) := by
  refine rangesHold_modCoach h ?_
  rintro ⟨h1, h2, h3, h4, h5, h6, h7, hcalls⟩
  exact ⟨h1, h2, h3, h4, h5, h6, h7, hcalls.sublist (List.filter_sublist.map _)⟩

theorem rangesHold_takeCall (b : BerthNo) : RangesHold (takeCall b s) := by
  unfold takeCall
  split
  · exact h
  next hcall =>
    refine rangesHold_raise (rangesHold_modCoach h ?_) .call
    rintro ⟨h1, h2, h3, h4, h5, h6, h7, hcalls⟩
    refine ⟨h1, h2, h3, h4, h5, h6, h7, ?_⟩
    simp only [hasCall, List.any_eq_true, decide_eq_true_eq, not_exists, not_and] at hcall
    rw [List.map_append]
    refine hcalls.append (List.nodup_singleton _) fun c hc hb => ?_
    obtain ⟨x, hx, rfl⟩ := List.mem_map.1 hc
    exact hcall x hx (List.mem_singleton.1 hb)

theorem rangesHold_handOnRequest (b : BerthNo) (q : BerthRequest) : RangesHold (handOnRequest b q s) := by
  unfold handOnRequest
  split
  · exact rangesHold_takeCall h b
  · exact rangesHold_dropCall h b
  · exact rangesHold_takeBerthRequest h b q

/-! ## The lines (chapter 2) -/

omit h in
theorem linkInRange_clear : LinkInRange .clear := by decide

theorem rangesHold_clearLinks (l : LineNo) : RangesHold (clearLinks l s) := by
  refine rangesHold_modLine h ?_
  rintro ⟨hfitted, hfault, -, hqueues⟩
  refine ⟨hfitted, hfault, fun k => ?_, hqueues⟩
  dsimp only
  rw [Table.get_fill]
  exact linkInRange_clear

omit h in
theorem linkInRange_goodLink {r : LinkRecord} (hr : LinkInRange r) : LinkInRange (goodLink r) := by
  obtain ⟨-, -, -, h4, h5, h6, h7⟩ := hr
  exact ⟨Nat.zero_le _, Nat.zero_le _, countHalf_le _, h4, h5, h6, h7⟩

omit h in
theorem linkInRange_lostLink (o : Outcome) {r : LinkRecord} (hr : LinkInRange r) : LinkInRange (lostLink o r) := by
  obtain ⟨h1, h2, h3, h4, h5, h6, h7⟩ := hr
  unfold lostLink
  split
  · exact ⟨countTo_le _ _, Nat.zero_le _, h3, countHalf_le _, h5, h6, h7⟩
  · exact ⟨countTo_le _ _, h2, h3, h4, countHalf_le _, h6, h7⟩
  · exact ⟨countTo_le _ _, h2, h3, h4, h5, countHalf_le _, h7⟩
  · exact ⟨h1, h2, h3, h4, h5, h6, h7⟩

theorem rangesHold_applyLost (o : Outcome) (b : BerthNo) : RangesHold (applyLost o b s) := by
  have hlink := rangesHold_modLinkOf h (b := b) fun _ hr => linkInRange_lostLink o hr
  unfold applyLost
  dsimp only
  split
  · exact rangesHold_notify hlink _ b
  · exact hlink

theorem rangesHold_applyCollision (b : BerthNo) : RangesHold (applyCollision b s) := by
  have hlink := rangesHold_modLinkOf h (b := b) (f := fun r =>
    { r with collisionFlag := true, collision := countHalf r.collision,
             collisionRun := countTo collisionLimit r.collisionRun })
    fun _ ⟨h1, _, h3, h4, h5, h6, _⟩ => ⟨h1, countTo_le _ _, h3, h4, h5, h6, countHalf_le _⟩
  unfold applyCollision
  dsimp only
  split
  · exact rangesHold_notify hlink _ b
  · exact hlink

theorem rangesHold_putToggle (b : BerthNo) (v : Bool) : RangesHold (putToggle b v s) :=
  rangesHold_modLinkOf h fun _ hr => hr

theorem rangesHold_goodFromAbsent (b : BerthNo) (toggle o p : Bool) : RangesHold (goodFromAbsent b toggle o p s) :=
  rangesHold_writeSensed (rangesHold_notify (rangesHold_putToggle
    (rangesHold_modLinkOf h fun _ hr => linkInRange_goodLink hr) b toggle) .present b) b o p

theorem rangesHold_goodFromPresent (b : BerthNo) (q : Option BerthRequest) (toggle o p : Bool) :
    RangesHold (goodFromPresent b q toggle o p s) := by
  have hsensed := rangesHold_writeSensed (rangesHold_modLinkOf h (b := b) fun _ hr => linkInRange_goodLink hr) b o p
  unfold goodFromPresent
  refine rangesHold_putToggle ?_ b toggle
  split
  · exact hsensed
  · split
    · exact hsensed
    · exact rangesHold_handOnRequest hsensed b _

theorem rangesHold_applyOutcome (b : BerthNo) (o : Outcome) : RangesHold (applyOutcome b o s) := by
  unfold applyOutcome
  split
  · exact rangesHold_applyCollision h b
  · split
    · exact rangesHold_goodFromPresent h b _ _ _ _
    · exact rangesHold_goodFromAbsent h b _ _ _
  all_goals exact rangesHold_applyLost h _ b

theorem rangesHold_completeSlot (l : LineNo) (signal : SlotSignal) : RangesHold (completeSlot l signal s) := by
  have hclosed : RangesHold (s.modLine l fun x => { x with slotOpen := false }) := rangesHold_modLine h fun hx => hx
  unfold completeSlot
  split
  · dsimp only
    split
    · exact rangesHold_applyOutcome hclosed _ _
    · exact hclosed
  · exact h

theorem rangesHold_driveConflict (l : LineNo) : RangesHold (driveConflict l s) := by
  unfold driveConflict
  split
  · exact rangesHold_raise (rangesHold_dropLine (rangesHold_modLine h fun ⟨h1, _, h3⟩ => ⟨h1, countTo_le _ _, h3⟩) l) _
  · exact h

theorem rangesHold_sendFrame (l : LineNo) : RangesHold (sendFrame s l) := by
  unfold sendFrame
  split
  · refine rangesHold_modLine h ?_
    rintro ⟨hfitted, hfault, hlinks, hqueues⟩
    refine ⟨hfitted, hfault, hlinks, fun n => ?_⟩
    dsimp only
    rw [Table.get_map, List.length_tail]
    exact (Nat.sub_le _ _).trans (hqueues n)
  · exact rangesHold_modLine h fun hx => hx

/-! ## The media port (chapter 3) -/

omit h in
theorem trackInRange_reset : TrackInRange .reset := by decide

omit h in
theorem trackInRange_retireTrack {t : Track} (ht : TrackInRange t) : TrackInRange (retireTrack t) := by
  obtain ⟨-, hrest⟩ := ht
  exact ⟨Nat.zero_le _, hrest⟩

omit h in
theorem trackInRange_audioArrival (n : Byte) (b : Block) {t : Track} (ht : TrackInRange t) :
    TrackInRange (audioArrival n b t) := by
  obtain ⟨h1, h2, h3, h4, h5⟩ := ht
  unfold audioArrival
  split
  · unfold placeArrival
    dsimp only
    split
    · exact ⟨h1, h2, h3, h4, h5⟩
    · split
      · exact ⟨h1, h2, h3, countHalfBy_le _ _, h5⟩
      · exact ⟨h1, h2, h3, h4, countHalf_le _⟩
  · exact ⟨Nat.zero_le _, h2, h3, h4, h5⟩

omit h in
theorem trackInRange_playTrack {t : Track} (ht : TrackInRange t) : TrackInRange (playTrack t) := by
  have hchoice : TrackInRange (playChoice t) := by
    obtain ⟨h1, h2, h3, h4, h5⟩ := ht
    unfold playChoice
    split
    · exact ⟨Nat.zero_le _, h2, h3, h4, h5⟩
    · dsimp only
      split
      · exact ⟨countTo_le _ _, countHalf_le _, h3, h4, h5⟩
      · exact ⟨countTo_le _ _, h2, countHalf_le _, h4, h5⟩
  obtain ⟨h1, h2, h3, h4, h5⟩ := hchoice
  unfold playTrack
  split
  · split
    · exact ⟨h1, h2, h3, countHalfBy_le _ _, h5⟩
    · exact ⟨h1, h2, h3, h4, h5⟩
  · exact ht

theorem rangesHold_takeTrack (p : ProgrammeNo) (k : TrackNo) : RangesHold (takeTrack p k s) := by
  have hplayed : RangesHold (s.modTrack p k fun x => { playTrack x with due := false }) :=
    rangesHold_modTrack h fun t ht => trackInRange_playTrack ht
  unfold takeTrack
  dsimp only
  split
  · exact rangesHold_raise hplayed _
  · exact hplayed

theorem rangesHold_offerPacket (pk : Packet) (l : LineNo) (n : LaneNo) : RangesHold (offerPacket pk l n s) := by
  unfold offerPacket
  dsimp only
  split
  next hroom =>
    refine rangesHold_modLine h ?_
    rintro ⟨hfitted, hfault, hlinks, hqueues⟩
    refine ⟨hfitted, hfault, hlinks, fun m => ?_⟩
    dsimp only
    rw [Table.get_set]
    split
    · rw [List.length_append]; exact hroom
    · exact hqueues m
  · refine rangesHold_modLaneSet h fun m => ?_
    dsimp only
    rw [Table.get_modify]
    split
    · exact countHalf_le _
    · exact h.drops l m

theorem rangesHold_offerAtLine (p : ProgrammeNo) (pk : Packet) (l : LineNo) : RangesHold (offerAtLine p pk s l) := by
  unfold offerAtLine
  split
  · exact rangesHold_offerPacket h pk l _
  · exact h

theorem rangesHold_forwardPicture (p : ProgrammeNo) (pk : Packet) : RangesHold (forwardPicture p pk s) := by
  have hreceived : RangesHold (s.modProgramme p countReceived) := rangesHold_modProgramme h fun hr => hr
  have hoffered := forEach_invariant RangesHold (List.finRange lineCount) (f := offerAtLine p pk)
    (fun t l _ ht => rangesHold_offerAtLine ht p pk l) hreceived
  rw [forwardPicture_eq_forEach]
  generalize forEach (List.finRange lineCount) (offerAtLine p pk) (s.modProgramme p countReceived) = t at hoffered ⊢
  split
  · exact hoffered
  · exact rangesHold_modProgramme hoffered fun hr => hr

theorem rangesHold_flush (target : Option Byte) : RangesHold (s.modRecorded fun r => { flush r with target := target }) :=
  rangesHold_modRecorded h fun ⟨_, h2, h3, _⟩ => ⟨Nat.zero_le _, h2, h3, countHalfBy_le _ _⟩

theorem rangesHold_openRecorded (k : Byte) : RangesHold (openRecorded k s) := rangesHold_flush h (some k)

theorem rangesHold_closeRecorded : RangesHold (closeRecorded s) := rangesHold_flush h none

theorem rangesHold_recordedArrival (k : Byte) (b : RecordedBlock) : RangesHold (recordedArrival k b s) := by
  unfold recordedArrival
  split
  · split
    next hroom =>
      refine rangesHold_modRecorded h ?_
      rintro ⟨-, hrest⟩
      refine ⟨?_, hrest⟩
      rw [List.length_append]
      exact hroom
    · exact rangesHold_raise (rangesHold_modRecorded h fun ⟨h1, _, h3⟩ => ⟨h1, countHalf_le _, h3⟩) _
  · exact rangesHold_modRecorded h fun ⟨h1, h2, _, h4⟩ => ⟨h1, h2, countHalf_le _, h4⟩

theorem rangesHold_takeRecorded : RangesHold (takeRecorded s) :=
  rangesHold_modRecorded h fun ⟨h1, hrest⟩ => ⟨by rw [List.length_tail]; exact (Nat.sub_le _ _).trans h1, hrest⟩

omit h in
theorem portInRange_countCause (c : MediaCause) {p : PortCounters} (hp : PortInRange p) : PortInRange (countCause c p) := by
  obtain ⟨h1, h2, h3, h4, h5, h6, h7⟩ := hp
  cases c
  · exact ⟨h1, h2, countHalf_le _, h4, h5, h6, h7⟩
  · exact ⟨h1, h2, h3, countHalf_le _, h5, h6, h7⟩
  · exact ⟨h1, h2, h3, h4, countHalf_le _, h6, h7⟩
  · exact ⟨h1, h2, h3, h4, h5, countHalf_le _, h7⟩
  · exact ⟨h1, h2, h3, h4, h5, h6, countHalf_le _⟩

theorem rangesHold_arriveFrame (f : EthernetFrame) : RangesHold (arriveFrame f s) := by
  unfold arriveFrame
  split
  · exact rangesHold_modPort h fun _ ⟨_, hrest⟩ => ⟨countHalf_le _, hrest⟩
  · split
    · exact rangesHold_modPort h fun _ ⟨h1, _, hrest⟩ => ⟨h1, countHalf_le _, hrest⟩
    · unfold takeMediaFrame
      dsimp only
      split
      · exact rangesHold_raise (rangesHold_modPort h fun _ hp => portInRange_countCause _ hp) _
      · exact rangesHold_modTrack h fun _ ht => trackInRange_audioArrival _ _ ht
      · exact rangesHold_forwardPicture h _ _
      · exact rangesHold_recordedArrival h _ _

/-! ## The voices (chapter 8) -/

omit h in
theorem firstEnv_le {n : Note} (hn : NoteInRange n) : firstEnv n ≤ 127 := by
  obtain ⟨-, -, ha0, -⟩ := hn
  unfold firstEnv
  split
  · exact Nat.le_refl _
  · exact ha0.trans (by decide)

omit h in
theorem phaseAfter_le (n : Note) (x : Nat) : phaseAfter n x ≤ 159 := by
  unfold phaseAfter
  split
  · exact Nat.zero_le _
  next t _ =>
    have hperiod : ∀ k, 0 < tonePeriod k ∧ tonePeriod k ≤ 160 := by decide
    exact Nat.le_pred_of_lt ((Nat.mod_lt _ (hperiod t).1).trans_le (hperiod t).2)

/-- The voice that plays a block of a note stands in range when its place in the note does. -/
theorem rangesHold_playBlock (v : Source) (n : Note) {p : Playing} (hp : PlayingInRange p) :
    RangesHold (s.modVoice v fun _ => playBlock n p) := by
  refine rangesHold_modVoice h fun q hq => ?_
  cases hq
  obtain ⟨h1, h2, -, h4, h5⟩ := hp
  exact ⟨h1, h2, phaseAfter_le n _, h4, h5⟩

omit h in
theorem playingInRange_atNote (p : Playing) {i : Nat} (hi : i ≤ 3) {n : Note} (hn : NoteInRange n) :
    PlayingInRange (atNote p i n) :=
  ⟨hi, Nat.zero_le _, Nat.zero_le _, firstEnv_le hn, Nat.zero_le _⟩

theorem rangesHold_idle (v : Source) : RangesHold (s.modVoice v fun _ => idleVoice) :=
  rangesHold_modVoice h fun _ hp => by cases hp

theorem rangesHold_startVoice (v : Source) (k : Byte) (p : PatternNo) : RangesHold (startVoice v k p s) := by
  have hpattern := h.patterns p
  unfold startVoice
  split
  · exact rangesHold_idle h v
  next n ns hnotes =>
    refine rangesHold_playBlock h v n (playingInRange_atNote _ (Nat.zero_le _) ?_)
    exact hpattern.2.2 n (by rw [show s.chimes.patterns.get p = n :: ns from hnotes]; exact List.mem_cons_self)

theorem rangesHold_stopVoice (v : Source) : RangesHold (stopVoice v s) :=
  rangesHold_modVoice h fun _ hp => by cases hp

omit h in
theorem playingInRange_decayMove {n : Note} (hn : NoteInRange n) {p : Playing} (hp : PlayingInRange p) :
    PlayingInRange (decayMove n p) := by
  obtain ⟨-, -, -, hdecay⟩ := hn
  obtain ⟨h1, h2, h3, h4, h5⟩ := hp
  unfold decayMove
  split
  · exact ⟨h1, h2, h3, h4, h5⟩
  · split
    · exact ⟨h1, h2, h3, h4, h5⟩
    · split
      · exact ⟨h1, h2, h3, Nat.min_le_left _ _, Nat.zero_le _⟩
      · refine ⟨h1, h2, h3, h4, ?_⟩
        dsimp only
        omega

/-- The move of a voice stays within a pattern of at most 4 notes of at most 2000 blocks (R134, R136). -/
theorem rangesHold_movedVoice (v : Source) {notes : List Note} (hnotes : PatternInRange notes) {p : Playing}
    (hp : PlayingInRange p) : RangesHold (s.modVoice v fun _ => movedVoice (voiceMove notes p)) := by
  obtain ⟨-, hlen, hall⟩ := hnotes
  unfold voiceMove
  split
  · exact rangesHold_idle h v
  next n hn =>
    have hnote := hall n (List.mem_of_getElem? hn)
    split
    · split
      · exact rangesHold_idle h v
      next m hm =>
        have hindex := (List.getElem?_eq_some_iff.1 hm).1
        exact rangesHold_playBlock h v m (playingInRange_atNote p (by omega) (hall m (List.mem_of_getElem? hm)))
    next hstays =>
      refine rangesHold_playBlock h v n (playingInRange_decayMove hnote ?_)
      obtain ⟨h1, -, h3, h4, h5⟩ := hp
      obtain ⟨-, hduration, -⟩ := hnote
      exact ⟨h1, by dsimp only; omega, h3, h4, h5⟩

/-! ## The Announcement Table (chapters 5 and 6) -/

theorem entryInRange_of_entry? {k : Byte} {e : Entry} (he : s.entry? k = some e) : EntryInRange e :=
  h.entries e (s.entry?_mem he)

theorem rangesHold_enterTail (k : Byte) (why : EndReason) : RangesHold (enterTail k why s) := by
  unfold enterTail
  split
  · exact h
  next e _ =>
    have htail : RangesHold (s.modEntry k fun e =>
        { e with phase := .tail, endReason := some why, timer := e.params.tail, earlyRelease := false }) := by
      refine rangesHold_modEntry h fun x _ _ hx => ?_
      obtain ⟨hparams, hdeadline, -, hrest⟩ := hx
      exact ⟨hparams, hdeadline, (tail_le_of_paramsInRange hparams).trans (by decide), hrest⟩
    dsimp only
    generalize (s.modEntry k fun e =>
        { e with phase := .tail, endReason := some why, timer := e.params.tail, earlyRelease := false }) = t at htail ⊢
    have hstopped : RangesHold (if playsFor s e.source k then stopVoice e.source t else t) := by
      split
      · exact rangesHold_stopVoice htail _
      · exact htail
    split
    · exact rangesHold_closeRecorded hstopped
    · exact hstopped

omit h in
theorem mixInRange_clearedFloor {r : Nat} (hr : 1 ≤ r ∧ r ≤ 16) {m : MixState} (hm : MixInRange m) :
    MixInRange (clearedFloor r m) := by
  obtain ⟨-, -, -, -, hduck, -, hrest⟩ := hm
  exact ⟨Nat.zero_le _, Nat.le_refl _, hr, hr, hduck, Nat.le_refl _, hrest⟩

theorem rangesHold_clearFloors (k : Byte) {r : Nat} (hr : 1 ≤ r ∧ r ≤ 16) : RangesHold (clearFloors k r s) := by
  refine rangesHold_mapMix h fun m hm => ?_
  split
  · exact mixInRange_clearedFloor hr hm
  · exact hm

theorem rangesHold_writeFinished {r : FinishedRecord} (hr : FinishedInRange r) : RangesHold (writeFinished r s) :=
  { h with
    finished := by
      refine ⟨(List.length_take_le _ _), fun x hx => ?_⟩
      rcases List.mem_cons.1 (List.mem_of_mem_take hx) with rfl | hx
      · exact hr
      · exact h.finished.2 x hx }

theorem rangesHold_filterEntries (keep : Entry → Bool) (queue : List Byte → List Byte) :
    RangesHold (s.modAnn fun a => { a with entries := a.entries.filter keep, queue := queue a.queue }) :=
  { h with entries := fun e he => h.entries e (List.mem_of_mem_filter he) }

theorem rangesHold_removeEntry (k : Byte) (cause : EndReason) : RangesHold (removeEntry k cause s) := by
  unfold removeEntry
  split
  · exact h
  next e he =>
    obtain ⟨hparams, -, -, hlive, -⟩ := entryInRange_of_entry? h he
    obtain ⟨hcls, -, -, hrelease, -⟩ := hparams
    have hstopped : RangesHold (if playsFor s e.source k then stopVoice e.source s else s) := by
      split
      · exact rangesHold_stopVoice h _
      · exact h
    dsimp only
    generalize (if playsFor s e.source k then stopVoice e.source s else s) = t at hstopped ⊢
    have hclosed : RangesHold (if holdsBuffer e then closeRecorded t else t) := by
      split
      · exact rangesHold_closeRecorded hstopped
      · exact hstopped
    exact rangesHold_raise (rangesHold_writeFinished (rangesHold_clearFloors (rangesHold_filterEntries hclosed _ _) k
      hrelease) ⟨hcls, hlive⟩) _

theorem rangesHold_handOn : RangesHold (handOn s) := by
  unfold handOn
  split
  · exact h
  next k rest _ =>
    have hqueue : RangesHold (s.modAnn fun a => { a with queue := rest }) := { h with }
    refine rangesHold_raise (rangesHold_openRecorded (rangesHold_modEntry hqueue fun x _ _ hx => ?_) k) _
    obtain ⟨hparams, hdeadline, -, hrest⟩ := hx
    exact ⟨hparams, hdeadline, (lead_le_of_paramsInRange hparams).trans (by decide), hrest⟩

theorem rangesHold_removeAndHandOn (k : Byte) (cause : EndReason) : RangesHold (removeAndHandOn k cause s) := by
  unfold removeAndHandOn
  split
  · exact h
  · split
    · exact rangesHold_handOn (rangesHold_removeEntry h k cause)
    · exact rangesHold_removeEntry h k cause

theorem rangesHold_endLead (e : Entry) : RangesHold (endLead e s) := by
  unfold endLead
  split
  · refine rangesHold_startVoice ?_ _ _ _
    exact rangesHold_modEntry h fun _ _ _ hx => hx
  · exact rangesHold_modEntry h fun _ _ _ hx => hx

theorem rangesHold_liveAdvance (e : Entry) : RangesHold (liveAdvance e s) := by
  have hpassed : RangesHold (s.modEntry e.handle fun x => { x with recorded := none }) :=
    rangesHold_modEntry h fun _ _ _ hx => hx
  unfold liveAdvance
  dsimp only
  generalize (s.modEntry e.handle fun x => { x with recorded := none }) = t at hpassed ⊢
  split
  · exact rangesHold_enterTail hpassed _ _
  · have hcounted : RangesHold (t.modEntry e.handle fun x => { x with liveCount := countHalf x.liveCount }) :=
      rangesHold_modEntry hpassed fun x _ _ ⟨h1, h2, h3, _, h5⟩ => ⟨h1, h2, h3, countHalf_le _, h5⟩
    generalize (t.modEntry e.handle fun x => { x with liveCount := countHalf x.liveCount }) = u at hcounted ⊢
    split
    · exact hcounted
    · split
      · have hmissed : RangesHold (u.modEntry e.handle fun x => { x with starvation := countTo liveStarveLimit x.starvation }) :=
          rangesHold_modEntry hcounted fun x _ _ ⟨h1, h2, h3, h4, _⟩ => ⟨h1, h2, h3, h4, countTo_le _ _⟩
        split
        · exact rangesHold_enterTail hmissed _ _
        · exact hmissed
      next b rest _ =>
        have htaken : RangesHold ((takeRecorded u).modEntry e.handle fun x =>
            { x with starvation := 0, recorded := some b.samples }) :=
          rangesHold_modEntry (rangesHold_takeRecorded hcounted) fun x _ _ ⟨h1, h2, h3, h4, _⟩ =>
            ⟨h1, h2, h3, h4, Nat.zero_le _⟩
        split
        · exact rangesHold_enterTail htaken _ _
        · exact htaken

theorem rangesHold_countDown (k : Byte) : RangesHold (s.modEntry k fun x => { x with timer := x.timer - 1 }) :=
  rangesHold_modEntry h fun _ _ _ ⟨h1, h2, h3, h4⟩ => ⟨h1, h2, (Nat.sub_le _ _).trans h3, h4⟩

omit h in
theorem rangesHold_takeAdvance (n : Nat) (k : Byte) {s : State} (h : RangesHold s) : RangesHold (takeAdvance n k s) := by
  induction n generalizing k s with
  | zero => exact h
  | succ n ih =>
    unfold takeAdvance
    split
    · exact h
    next e _ =>
      have hread : RangesHold (s.modEntry k fun x => { x with due := false, blockPhase := some e.phase }) :=
        rangesHold_modEntry h fun _ _ _ hx => hx
      dsimp only
      generalize (s.modEntry k fun x => { x with due := false, blockPhase := some e.phase }) = t at hread ⊢
      split
      · split
        · exact hread
        · split
          · exact rangesHold_removeEntry hread k _
          · exact rangesHold_countDown hread k
      · split
        · split
          · exact rangesHold_endLead hread e
          · exact ih k (rangesHold_endLead hread e)
        · exact rangesHold_countDown hread k
      · exact hread
      · have hlive := rangesHold_liveAdvance hread e
        split
        · exact hlive
        · split
          · exact ih k hlive
          · exact hlive
      · split
        · have hremoved := rangesHold_removeAndHandOn hread k .completed
          split
          · split
            · exact hremoved
            · exact ih _ hremoved
          · exact hremoved
        · exact rangesHold_countDown hread k

theorem rangesHold_advanceIfDue (k : Byte) : RangesHold (advanceIfDue s k) := by
  unfold advanceIfDue
  split
  · exact h
  · split
    · exact rangesHold_takeAdvance _ k h
    · exact h

theorem rangesHold_chimeEndReaches (k : Byte) : RangesHold (chimeEndReaches k s) := by
  unfold chimeEndReaches
  split
  · exact h
  · split
    · exact h
    · split
      · exact rangesHold_takeAdvance _ k (rangesHold_enterTail h k _)
      · exact rangesHold_takeAdvance _ k (rangesHold_modEntry h fun _ _ _ hx => hx)

theorem rangesHold_takeVoice (v : Source) : RangesHold (takeVoice s v) := by
  unfold takeVoice
  split
  · split
    · exact rangesHold_chimeEndReaches (rangesHold_idle h v) _
    next p m _ hp hm =>
      simp only [pendingMove, hp, Option.map_some] at hm
      cases hm
      exact rangesHold_movedVoice h v (h.patterns _) (h.voices v p hp)
    · exact rangesHold_modVoice h (h.voices v)
  · exact h

theorem rangesHold_countAdmission : RangesHold (countAdmission s) := { h with }

theorem rangesHold_addEntry {e : Entry} (he : EntryInRange e) : RangesHold (addEntry e s) := by
  refine { h with entries := fun x hx => ?_ }
  rcases List.mem_append.1 hx with hx | hx
  · exact h.entries x hx
  · rw [List.mem_singleton.1 hx]; exact he

omit h in
theorem entryInRange_newEntry (src : Source) {p : Params} (hp : ParamsInRange p) {deadline : Nat} (hd : deadline ≤ 65535) :
    EntryInRange (newEntry s src p deadline) :=
  ⟨hp, hd, (lead_le_of_paramsInRange hp).trans (by decide), Nat.zero_le _, Nat.zero_le _⟩

theorem rangesHold_becomeActive {e : Entry} (he : EntryInRange e) : RangesHold (becomeActive e s) :=
  rangesHold_raise (rangesHold_openRecorded (rangesHold_addEntry h he) _) _

theorem rangesHold_placeEntry {e : Entry} (he : EntryInRange e) : RangesHold (placeEntry e s) := by
  unfold placeEntry
  split
  · exact rangesHold_becomeActive h he
  · split
    · exact rangesHold_becomeActive (rangesHold_removeEntry h _ _) he
    · have hqueue : RangesHold (s.modAnn fun k => { k with queue := queueWith s e }) := { h with }
      obtain ⟨hparams, hdeadline, -, hrest⟩ := he
      exact rangesHold_addEntry hqueue ⟨hparams, hdeadline, hdeadline, hrest⟩

theorem rangesHold_cutEntry (e : Entry) (hard : Bool) : RangesHold (cutEntry e hard s) := by
  unfold cutEntry
  split
  · exact rangesHold_removeEntry h _ _
  · exact h
  · exact rangesHold_enterTail h _ _
  · exact rangesHold_removeAndHandOn h _ _

theorem paramsInRange_pressParams (m : Mic) : ParamsInRange (pressParams s m) := by
  have hprofile : ParamsInRange (profileOf s m) := by
    cases m
    · exact h.driver
    · exact h.crew
  unfold pressParams
  split
  · obtain ⟨-, hrest⟩ := hprofile
    exact ⟨Nat.le_refl _, hrest⟩
  · exact hprofile

theorem rangesHold_pressMic (m : Mic) : RangesHold (pressMic m s) := by
  unfold pressMic
  split
  · exact h
  · split
    · exact rangesHold_addEntry (rangesHold_countAdmission h)
        (entryInRange_newEntry _ (paramsInRange_pressParams h m) (Nat.zero_le _))
    · unfold repress
      split
      · exact rangesHold_modEntry h fun _ _ _ ⟨h1, h2, _, h4⟩ => ⟨h1, h2, Nat.zero_le _, h4⟩
      · exact rangesHold_modEntry h fun _ _ _ hx => hx
      · exact h

theorem rangesHold_releaseMic (m : Mic) : RangesHold (releaseMic m s) := by
  unfold releaseMic
  split
  · exact h
  · split
    · exact h
    · split
      · exact rangesHold_enterTail h _ _
      · exact rangesHold_modEntry h fun _ _ _ hx => hx
      · exact rangesHold_enterTail h _ _
      · exact h

theorem rangesHold_setProfile (m : Mic) {p : Params} (hp : ParamsInRange p) : RangesHold (setProfile m p s) := by
  cases m
  · exact { h with driver := hp }
  · exact { h with crew := hp }

/-! ## Floors and the mix (chapters 7 and 9) -/

omit h in
theorem gateTargetFor_le (p : Phase) : gateTargetFor p ≤ 127 := by cases p <;> decide

theorem rangesHold_changeFloor (b : BerthNo) {e : Entry} (he : ParamsInRange e.params) :
    RangesHold (changeFloor b e s) := by
  obtain ⟨-, hduck, hattack, -⟩ := he
  refine rangesHold_modMix (rangesHold_gainAudience (rangesHold_dropFloorAudience h b) _) ?_
  rintro ⟨-, -, -, -, hd, hg, hrest⟩
  refine ⟨hduck, gateTargetFor_le _, hattack, hattack, hd, ?_, hrest⟩
  dsimp only
  split
  · exact Nat.le_refl _
  · exact hg

theorem rangesHold_keepFloor (b : BerthNo) {e : Entry} (he : ParamsInRange e.params) : RangesHold (keepFloor b e s) := by
  obtain ⟨-, hduck, hattack, -⟩ := he
  exact rangesHold_modMix h fun ⟨_, _, _, _, hrest⟩ => ⟨hduck, gateTargetFor_le _, hattack, hattack, hrest⟩

theorem rangesHold_fadeFloor (b : BerthNo) {e : Entry} (he : ParamsInRange e.params) : RangesHold (fadeFloor b e s) := by
  obtain ⟨-, -, -, hrelease, -⟩ := he
  exact rangesHold_modMix h fun ⟨_, _, _, _, hrest⟩ => ⟨Nat.zero_le _, Nat.le_refl _, hrelease, hrelease, hrest⟩

theorem rangesHold_loseFloor (b : BerthNo) {e : Entry} (he : ParamsInRange e.params) : RangesHold (loseFloor b e s) := by
  obtain ⟨-, -, -, hrelease, -⟩ := he
  exact rangesHold_modMix (rangesHold_loseAudience h _) fun ⟨_, _, _, _, hd, _, hrest⟩ =>
    ⟨Nat.zero_le _, Nat.le_refl _, hrelease, hrelease, hd, Nat.le_refl _, hrest⟩

omit h in
/-- The best of some entries is one of them. -/
theorem mem_of_bestOf {es : List Entry} {e : Entry} (he : bestOf es = some e) : e ∈ es := by
  induction es generalizing e with
  | nil => cases he
  | cons x xs ih =>
    unfold bestOf at he
    split at he
    · cases he; exact List.mem_cons_self
    next f hf =>
      split at he
      · cases he; exact List.mem_cons_of_mem _ (ih hf)
      · cases he; exact List.mem_cons_self

omit h in
theorem mem_of_candidates {b : BerthNo} {e : Entry} (he : bestOf (candidates s b) = some e) : e ∈ s.ann.entries :=
  List.mem_of_mem_filter (mem_of_bestOf he)

omit h in
theorem mem_of_floorEntry? {b : BerthNo} {e : Entry} (he : s.floorEntry? b = some e) :
    e ∈ s.ann.entries ∧ (s.mixOf b).floor = some e.handle := by
  obtain ⟨k, hk, he⟩ := Option.bind_eq_some_iff.1 he
  exact ⟨s.entry?_mem he, by rw [hk, s.entry?_handle he]⟩

theorem rangesHold_evaluateFloor (b : BerthNo) : RangesHold (evaluateFloor b s) := by
  unfold evaluateFloor
  split
  next e he =>
    have hparams := (h.entries e (mem_of_candidates he)).1
    split
    · exact rangesHold_keepFloor h b hparams
    · exact rangesHold_changeFloor h b hparams
  · split
    · exact h
    next e he =>
      have hparams := (h.entries e (mem_of_floorEntry? he).1).1
      split
      · exact rangesHold_fadeFloor h b hparams
      · exact rangesHold_loseFloor h b hparams

omit h in
theorem rampTo_le {t step v : Nat} (ht : t ≤ 127) (hv : v ≤ 127) : rampTo t step v ≤ 127 := by
  unfold rampTo
  split
  · omega
  · split <;> omega

omit h in
theorem mixInputs_le (micD micC : Block) (b : BerthNo) :
    (mixInputs micD micC s b).ap ≤ 127 ∧ (mixInputs micD micC s b).aa ≤ 127 ∧ (mixInputs micD micC s b).ac ≤ 127 := by
  have hap : ∀ latch has ve trim duck, programmeAttenuation latch has ve trim duck ≤ 127 := by
    intro latch has ve trim duck
    unfold programmeAttenuation
    split
    · exact Nat.le_refl _
    · exact Nat.min_le_left _ _
  unfold mixInputs
  dsimp only
  split
  · exact ⟨hap _ _ _ _ _, Nat.le_refl _, Nat.le_refl _⟩
  · exact ⟨hap _ _ _ _ _, Nat.min_le_left _ _, Nat.min_le_left _ _⟩

theorem rangesHold_mixBerth (micD micC : Block) (b : BerthNo) : RangesHold (mixBerth micD micC s b) := by
  unfold mixBerth
  split
  · have hramped : RangesHold ((evaluateFloor b s).modMix b rampMix) :=
      rangesHold_modMix (rangesHold_evaluateFloor h b) fun ⟨h1, h2, h3, h4, h5, h6, hrest⟩ =>
        ⟨h1, h2, h3, h4, rampTo_le h1 h5, rampTo_le h2 h6, hrest⟩
    dsimp only
    generalize (evaluateFloor b s).modMix b rampMix = t at hramped ⊢
    obtain ⟨hap, haa, hac⟩ := mixInputs_le (s := t) micD micC b
    have hwritten : RangesHold (t.modMix b (writeMix (mixInputs micD micC t b))) := by
      refine rangesHold_modMix hramped ?_
      rintro ⟨h1, h2, h3, h4, h5, h6, -, -, -, hclip⟩
      refine ⟨h1, h2, h3, h4, h5, h6, hap, haa, hac, ?_⟩
      dsimp only [writeMix]
      split
      · exact countHalf_le _
      · exact hclip
    split
    · exact rangesHold_raise hwritten _
    · exact hwritten
  · exact h

theorem rangesHold_alarmReleaseAt (b : BerthNo) : RangesHold (alarmReleaseAt s b) := by
  unfold alarmReleaseAt
  split
  · split
    next e he =>
      obtain ⟨-, -, hattack, -⟩ := (h.entries e (mem_of_floorEntry? he).1).1
      exact rangesHold_modMix h fun ⟨h1, h2, _, h4, _, hrest⟩ => ⟨h1, h2, hattack, h4, Nat.le_refl _, hrest⟩
    · exact rangesHold_modMix h fun ⟨_, h2, _, h4, _, hrest⟩ =>
        ⟨Nat.zero_le _, h2, ⟨Nat.le_refl _, Nat.succ_le_succ (Nat.zero_le 15)⟩, h4, Nat.le_refl _, hrest⟩
  · exact h

/-! ## Coach inputs and the block clock (chapters 10 and 11) -/

theorem rangesHold_setLatch : RangesHold (setLatch s) := by
  unfold setLatch
  split
  · exact h
  · exact rangesHold_raise (rangesHold_modCoach h fun hk => hk) _

theorem rangesHold_handOnEdge (c : Contact) (v : Bool) : RangesHold (handOnEdge c v s) := by
  unfold handOnEdge
  split
  · exact rangesHold_pressMic h _
  · exact rangesHold_pressMic h _
  · unfold alarmPress
    split
    · exact rangesHold_setLatch h
    · exact h
  · exact rangesHold_releaseMic h _
  · exact rangesHold_releaseMic h _
  · exact h

theorem rangesHold_takeEdge (c : Contact) (v : Bool) : RangesHold (takeEdge c v s) :=
  rangesHold_handOnEdge (rangesHold_setFilter h (Nat.zero_le _)) c v

theorem rangesHold_beginBlock : RangesHold (beginBlock s) where
  berths := h.berths
  lines l := by
    show LineInRange ((s.lines.map dueLine).get l)
    rw [Table.get_map]
    exact h.lines l
  drops := h.drops
  programmes p := by
    show ProgrammeInRange ((s.media.programmes.map dueProgramme).get p)
    rw [Table.get_map]
    obtain ⟨h1, h2, h3, h4, htracks⟩ := h.programmes p
    refine ⟨h1, h2, h3, h4, fun k => ?_⟩
    show TrackInRange (((s.media.programmes.get p).tracks.map dueTrack).get k)
    rw [Table.get_map]
    exact htracks k
  recorded := h.recorded
  port := h.port
  entries e he := by
    obtain ⟨x, hx, rfl⟩ := List.mem_map.1 he
    exact h.entries x hx
  driver := h.driver
  crew := h.crew
  finished := h.finished
  patterns := h.patterns
  voices v p hp := by
    cases v
    · exact h.voices .d p hp
    · exact h.voices .c p hp
    · exact h.voices .r p hp
  mix b := by
    show MixInRange ((s.mix.map fun m => { m with delivered := none }).get b)
    rw [Table.get_map]
    exact h.mix b
  coach := h.coach
  link := h.link

end

/-! ## Host requests -/

theorem rangesHold_programmeSetup {s : State} (h : RangesHold s) (n picture tracks trim0 trim1 card : Byte) :
    RangesHold (programmeSetup n picture tracks trim0 trim1 card s).state := by
  rcases programmeSetup_state n picture tracks trim0 trim1 card s with heq | ⟨p, -, htracks, hcard, heq⟩
  · rw [heq]; exact h
  · rw [heq]
    have hstored : RangesHold (s.modProgramme p (setupProgramme picture tracks trim0 trim1 card)) := by
      refine rangesHold_modProgramme h ?_
      rintro ⟨-, -, -, -, hold⟩
      refine ⟨htracks, Nat.min_le_left _ _, Nat.min_le_left _ _, hcard, fun k => ?_⟩
      dsimp only [setupProgramme]
      split
      · rw [Table.get_modify]
        split
        · exact trackInRange_retireTrack (hold k)
        · exact hold k
      · exact hold k
    split
    · refine rangesHold_mapBerths hstored fun x hx => ?_
      split
      · exact hx
      · exact hx
    · exact hstored

theorem rangesHold_request {work : State → Answer} (hw : HostWork work) {s : State} (h : RangesHold s) :
    RangesHold (work s).state := by
  cases hw
  case berthStage n x =>
    rcases berthStage_state n x s with heq | ⟨b, heq⟩ <;> rw [heq]
    · exact h
    · exact rangesHold_modStaged h (stageInto_volume_le x (h.berths b).2)
  case stageDiscard =>
    rcases stageDiscard_state s with heq | heq <;> rw [heq]
    · exact h
    · exact rangesHold_emptyStaging h
  case commitRequest =>
    rcases commitRequest_state s with heq | heq <;> rw [heq]
    · exact h
    · exact rangesHold_setCommitPending h true
  case berthEdit z am md op d x =>
    rcases berthEdit_state z am md op d x s with heq | ⟨m, o, heq⟩ <;> rw [heq]
    · exact h
    · exact rangesHold_mapBerths h fun _ hy => berthInRange_editBerth hy
  case lineSetup n count =>
    rcases lineSetup_state n count s with heq | ⟨l, -, hcount, heq⟩ <;> rw [heq]
    · exact h
    · exact rangesHold_clearLinks (forEach_invariant RangesHold _ (fun _ b _ ht => rangesHold_notify ht _ b)
        (rangesHold_modLine h fun ⟨_, hrest⟩ => ⟨hcount, hrest⟩)) l
  case lineRestart n =>
    rcases lineRestart_state n s with heq | ⟨l, -, heq⟩ <;> rw [heq]
    · exact h
    · exact rangesHold_modLine (rangesHold_clearLinks h l) fun hx => hx
  case lineStop n =>
    rcases lineStop_state n s with heq | ⟨l, heq⟩ <;> rw [heq]
    · exact h
    · exact rangesHold_dropLine (rangesHold_modLine h fun hx => hx) l
  case berthLinkClear n =>
    have hclear : ∀ b, RangesHold (s.modLinkOf b clearedLink) := fun b => rangesHold_modLinkOf h
      fun _ ⟨h1, h2, _⟩ => ⟨h1, h2, Nat.zero_le _, Nat.zero_le _, Nat.zero_le _, Nat.zero_le _, Nat.zero_le _⟩
    rcases berthLinkClear_state n s with heq | ⟨b, heq | ⟨-, heq⟩⟩ <;> rw [heq]
    · exact h
    · exact hclear b
    · refine rangesHold_notify ?_ _ b
      exact rangesHold_modLinkOf (hclear b) fun _ ⟨h1, _, hrest⟩ => ⟨h1, Nat.zero_le _, hrest⟩
  case programmeSetup p pic n t0 t1 c => exact rangesHold_programmeSetup h p pic n t0 t1 c
  case programmeTrim n x =>
    rcases programmeTrim_state n x s with heq | ⟨p, heq⟩ <;> rw [heq]
    · exact h
    · exact rangesHold_modProgramme h fun ⟨h1, h2, h3, h4, h5⟩ =>
        ⟨h1, storing_le _ h2, storing_le _ h3, storing_le _ h4, h5⟩
  case announce x deadline =>
    rcases announce_state x deadline s with heq | ⟨p, -, hp, -, heq⟩ <;> rw [heq]
    · exact h
    · exact rangesHold_placeEntry (rangesHold_countAdmission h)
        (entryInRange_newEntry _ (paramsInRange_of_carried hp) (Nat.lt_succ_iff.1 deadline.isLt))
  case pttProfileSet n x =>
    rcases pttProfileSet_state n x s with heq | ⟨m, p, hp, heq⟩ <;> rw [heq]
    · exact h
    · exact rangesHold_setProfile h m (paramsInRange_of_carried hp)
  case cut k mode =>
    rcases cut_state k mode s with heq | ⟨e, hard, -, -, heq⟩ <;> rw [heq]
    · exact h
    · exact rangesHold_cutEntry h e hard
  case chimeLoad n notes =>
    rcases chimeLoad_state n notes s with heq | ⟨p, stored, hstored, hne, hlen, -, heq⟩ <;> rw [heq]
    · exact h
    · refine { h with patterns := fun q => ?_ }
      show PatternInRange ((s.chimes.patterns.set p stored).get q)
      rw [Table.get_set]
      split
      · exact patternInRange_of_load hstored hne hlen
      · exact h.patterns q
  case mixRead n clear =>
    rcases mixRead_state n clear s with heq | ⟨b, heq⟩ <;> rw [heq]
    · exact h
    · exact rangesHold_modMix h fun ⟨h1, h2, h3, h4, h5, h6, h7, h8, h9, _⟩ =>
        ⟨h1, h2, h3, h4, h5, h6, h7, h8, h9, Nat.zero_le _⟩
  case coachSet x =>
    rcases coachSet_state x s with heq | heq <;> rw [heq]
    · exact h
    · exact rangesHold_modCoach h fun ⟨h1, h2, h3, h4, h5, h6, h7, h8⟩ =>
        ⟨h1, h2, h3, storing_le _ h4, storing_le _ h5, storing_le _ h6, storing_le _ h7, h8⟩
  case alarmRelease =>
    rcases alarmRelease_state s with heq | heq <;> rw [heq]
    · exact h
    · exact forEach_invariant RangesHold _ (fun _ b _ ht => rangesHold_alarmReleaseAt ht b)
        (rangesHold_modCoach h fun hk => hk)
  case callTake =>
    rcases callTake_state s with heq | heq <;> rw [heq]
    · exact h
    · refine rangesHold_modCoach h ?_
      rintro ⟨h1, h2, h3, h4, h5, h6, h7, h8⟩
      exact ⟨h1, h2, h3, h4, h5, h6, h7, h8.sublist ((List.tail_sublist _).map _)⟩
  case callClear n =>
    rcases callClear_state n s with heq | ⟨b, heq⟩ <;> rw [heq]
    · exact h
    · exact rangesHold_dropCall h b
  case startRequest =>
    have hstarted : RangesHold ((s.setDevice .run).setLines (s.lines.map startLine)) := by
      refine rangesHold_mapLines (s := s.setDevice .run) (rangesHold_setDevice h .run) fun x hx => ?_
      unfold startLine
      split
      · exact hx
      · exact hx
    rcases startRequest_state s with heq | ⟨-, heq | heq⟩ <;> rw [heq]
    · exact h
    · exact hstarted
    · exact rangesHold_setLatch hstarted
  case eventsClear v =>
    obtain ⟨f, heq⟩ := eventsClear_state v s
    rw [heq]; exact rangesHold_modEvents h f
  case eventsEnable v =>
    obtain ⟨f, heq⟩ := eventsEnable_state v s
    rw [heq]; exact rangesHold_modEvents h f
  all_goals simpa using h

/-- The ranges are kept by every operation, so by every command. -/
theorem commandsKeep_rangesHold : CommandsKeep RangesHold where
  flags _ f hs := rangesHold_modEvents hs f
  link _ _ hk hs := { hs with link := hk hs.link }
  boundary _ f hs := rangesHold_modBoundary hs f
  reset s _ := rangesHold_deviceReset s
  low _ hs := rangesHold_mapLines (s := State.setResetLow _ true) { hs with } fun _ hx => hx
  request _ hw _ hs := rangesHold_request hw hs
  slot l signal _ hs := rangesHold_completeSlot hs l signal
  conflict l _ hs := rangesHold_driveConflict hs l
  media f _ hs := rangesHold_arriveFrame hs f
  edge c v _ hs := rangesHold_takeEdge hs c v
  sampled _ _ _ hk hs := rangesHold_setFilter hs hk
  begun _ hs := rangesHold_beginBlock hs
  commit _ hs := rangesHold_carryOutCommit hs
  track p k _ hs := rangesHold_takeTrack hs p k
  voice v _ hs := rangesHold_takeVoice hs v
  advance k _ hs := rangesHold_advanceIfDue hs k
  mixed micD micC b _ hs := rangesHold_mixBerth hs micD micC b
  sent l _ hs := rangesHold_sendFrame hs l

/-- Settles O5: every operation keeps the ranges, and a step is one command's operations. -/
theorem everyStepKeepsRanges : Obligations.EveryStepKeepsRanges :=
  fun _ _ hs hstep => commandsKeep_rangesHold.step_keeps (fun _ q h => rangesHold_setPending h q) hs hstep

end Sys2Proof.Machine
end

section
/-! PROOFS. Lanes and wait lists while the route of some berths changes (4.2): what stays right for the other berths, and
what a release and an acquisition do to it. -/

namespace Sys2Proof.Machine

/-! ## Counting when one element changes -/

theorem countP_one_change {α : Type} [DecidableEq α] {xs : List α} (hnodup : xs.Nodup) {p q : α → Bool} {b : α}
    (h : ∀ x, x ≠ b → p x = q x) :
    xs.countP p + (if b ∈ xs ∧ q b = true then 1 else 0) = xs.countP q + (if b ∈ xs ∧ p b = true then 1 else 0) := by
  induction xs with
  | nil => simp
  | cons x xs ih =>
    obtain ⟨hx, hnodup⟩ := List.nodup_cons.1 hnodup
    have ih := ih hnodup
    by_cases hxb : x = b
    · subst hxb
      have htail : xs.countP p = xs.countP q := by simpa [hx] using ih
      rw [List.countP_cons, List.countP_cons, htail]
      simp only [List.mem_cons, true_or, true_and]
      split <;> split <;> omega
    · rw [List.countP_cons, List.countP_cons, h x hxb]
      simp only [List.mem_cons, Ne.symm hxb, false_or] at *
      omega

/-! ## The programme a berth wants a lane for (R71) -/

def wanted (s : State) (b : BerthNo) : Option ProgrammeNo := if wantsLane s b then (s.live b).programme else none

theorem wanted_eq_some {s : State} {b : BerthNo} {p : ProgrammeNo} : wanted s b = some p ↔ WantsLaneFor s b p := by
  rw [wantsLaneFor_iff, wanted]
  split <;> simp_all

theorem wantsLane_eq_isSome (s : State) (b : BerthNo) : wantsLane s b = (wanted s b).isSome := by
  unfold wanted
  split
  next h =>
    rw [h]
    unfold wantsLane at h
    cases hp : (s.live b).programme with
    | none => simp [hp] at h
    | some p => rfl
  next h => simpa using h

theorem wanted_eq_none {s : State} {b : BerthNo} : wanted s b = none ↔ wantsLane s b = false := by
  rw [wantsLane_eq_isSome]
  simp

theorem programme_of_wanted {s : State} {b : BerthNo} {p : ProgrammeNo} (h : wanted s b = some p) :
    (s.live b).programme = some p := by
  obtain ⟨-, -, hp, -⟩ := wanted_eq_some.1 h
  exact hp

theorem wanted_of_wantsLane {s : State} {b : BerthNo} (h : wantsLane s b = true) : wanted s b = (s.live b).programme :=
  if_pos h

/-- The wish for a lane is read from the live record and the programme's picture alone. -/
theorem wanted_congr {s t : State} {b : BerthNo} (hlive : rest (t.live b) = rest (s.live b))
    (hpicture : ∀ p, (t.programme p).picture = (s.programme p).picture) : wanted t b = wanted s b := by
  unfold wanted wantsLane
  rw [presence_of_rest hlive, picture_of_rest hlive, programme_of_rest hlive]
  simp only [hpicture]

/-- A berth that is not PRESENT wants no lane. -/
theorem wanted_of_not_present {s : State} {b : BerthNo} (h : s.presence b ≠ .present) : wanted s b = none := by
  cases hw : wanted s b with
  | none => rfl
  | some p => exact absurd (wanted_eq_some.1 hw).1 h

theorem wanted_of_no_picture {s : State} {b : BerthNo} (h : (s.live b).picture = false) : wanted s b = none := by
  cases hw : wanted s b with
  | none => rfl
  | some p =>
    obtain ⟨-, hpicture, -⟩ := wanted_eq_some.1 hw
    rw [h] at hpicture
    cases hpicture

/-! ## Routes that are right but for some berths -/

/-- The lanes and wait lists agree with the lane fields, and every berth but those of `B` holds what it wants. The berths
of `B` are those whose route change is under way (R75, R76). -/
structure RoutesBut (B : BerthNo → Prop) (s : State) : Prop where
  free : ∀ l n, (s.laneSet l).lanes.get n = .free → (s.line l).queues.get n = []
  count : ∀ l n p c, (s.laneSet l).lanes.get n = .carrying p c → 1 ≤ c ∧ c = holders s l n
  alone : ∀ l n m p, carriedBy s l n = some p → carriedBy s l m = some p → m = n
  held : ∀ b n, (s.live b).lane = .lane n → carriedBy s (lineOf b) n ≠ none
  onLane : ∀ b n, ¬ B b → (s.live b).lane = .lane n → ∃ p, wanted s b = some p ∧ carriedBy s (lineOf b) n = some p
  onWait : ∀ b, ¬ B b → (s.live b).lane = .waiting → wanted s b ≠ none ∧ b ∈ (s.laneSet (lineOf b)).waits
  off : ∀ b, ¬ B b → (s.live b).lane = .none → wanted s b = none
  once : ∀ l, (s.laneSet l).waits.Nodup
  ofLine : ∀ l, ∀ b ∈ (s.laneSet l).waits, lineOf b = l ∧ (s.live b).lane = .waiting
  uncarried : ∀ l, ∀ b ∈ (s.laneSet l).waits, ¬ B b → ∀ n p, carriedBy s l n = some p → wanted s b ≠ some p
  allCarry : ∀ l, (s.laneSet l).waits ≠ [] → ∀ n, carriedBy s l n ≠ none

theorem carriedBy_eq_some {s : State} {l : LineNo} {n : LaneNo} {p : ProgrammeNo} :
    carriedBy s l n = some p ↔ ∃ c, (s.laneSet l).lanes.get n = .carrying p c := (carries_iff s l n p).symm

theorem carriedBy_eq_none {s : State} {l : LineNo} {n : LaneNo} :
    carriedBy s l n = none ↔ (s.laneSet l).lanes.get n = .free := by
  unfold carriedBy
  cases (s.laneSet l).lanes.get n <;> simp

/-- With no berth left out, these are the clauses of LanesHold on lanes. -/
theorem routesBut_none_iff {s : State} :
    RoutesBut (fun _ => False) s ↔ (∀ b, LaneFieldRight s b) ∧ (∀ l n, LaneRight s l n) ∧ ∀ l, WaitsRight s l := by
  constructor
  · intro h
    refine ⟨fun b => ?_, fun l n => ?_, fun l => ⟨h.once l, h.ofLine l, fun b hb n p hc hp => ?_, fun hne n => ?_⟩⟩
    · unfold LaneFieldRight
      split
      next hlane => exact wanted_eq_none.1 (h.off b not_false hlane)
      next n hlane =>
        obtain ⟨p, hw, hc⟩ := h.onLane b n not_false hlane
        exact ⟨((wantsLaneFor_iff s b p).1 (wanted_eq_some.1 hw)).1, p, programme_of_wanted hw, (carries_iff ..).2 hc⟩
      next hlane =>
        obtain ⟨hw, hmem⟩ := h.onWait b not_false hlane
        exact ⟨by rw [wantsLane_eq_isSome]; exact Option.isSome_iff_ne_none.2 hw, hmem⟩
    · unfold LaneRight
      split
      next hfree => exact h.free l n hfree
      next p c hc =>
        obtain ⟨hone, hcount⟩ := h.count l n p c hc
        exact ⟨hone, hcount, fun m hmn hm => hmn (h.alone l n m p (carriedBy_eq_some.2 ⟨c, hc⟩) ((carries_iff ..).1 hm))⟩
    · obtain ⟨hline, hlane⟩ := h.ofLine l b hb
      refine h.uncarried l b hb not_false n p ((carries_iff ..).1 hc) ?_
      obtain ⟨hw, -⟩ := h.onWait b not_false hlane
      rw [wanted_of_wantsLane, hp]
      rw [wantsLane_eq_isSome]
      exact Option.isSome_iff_ne_none.2 hw
    · obtain ⟨p, hp⟩ := Option.ne_none_iff_exists'.1 (h.allCarry l hne n)
      exact ⟨p, (carries_iff ..).2 hp⟩
  · rintro ⟨hfields, hlanes, hwaits⟩
    have hlaneAt : ∀ {l n p}, carriedBy s l n = some p → ∀ m, m ≠ n → carriedBy s l m ≠ some p := by
      intro l n p hp m hmn hm
      obtain ⟨c, hc⟩ := carriedBy_eq_some.1 hp
      have hright := hlanes l n
      rw [LaneRight, hc] at hright
      exact hright.2.2 m hmn ((carries_iff ..).2 hm)
    refine ⟨fun l n hfree => ?_, fun l n p c hc => ?_, fun l n m p hn hm => ?_, fun b n hlane => ?_,
      fun b n _ hlane => ?_, fun b _ hlane => ?_, fun b _ hlane => ?_, fun l => (hwaits l).once, fun l => (hwaits l).ofLine, fun l b hb _ n p hc hw => ?_,
      fun l hne n hnone => ?_⟩
    · have hright := hlanes l n
      rw [LaneRight, hfree] at hright
      exact hright
    · have hright := hlanes l n
      rw [LaneRight, hc] at hright
      exact ⟨hright.1, hright.2.1⟩
    · by_contra hmn
      exact hlaneAt hn m hmn hm
    · have hright := hfields b
      rw [LaneFieldRight, hlane] at hright
      obtain ⟨-, p, -, hc⟩ := hright
      rw [(carries_iff ..).1 hc]
      exact Option.some_ne_none p
    · have hright := hfields b
      rw [LaneFieldRight, hlane] at hright
      obtain ⟨hwants, p, hp, hc⟩ := hright
      exact ⟨p, (wanted_of_wantsLane hwants).trans hp, (carries_iff ..).1 hc⟩
    · have hright := hfields b
      rw [LaneFieldRight, hlane] at hright
      obtain ⟨hwants, hmem⟩ := hright
      rw [wantsLane_eq_isSome] at hwants
      exact ⟨Option.isSome_iff_ne_none.1 hwants, hmem⟩
    · have hright := hfields b
      rw [LaneFieldRight, hlane] at hright
      exact wanted_eq_none.2 hright
    · exact (hwaits l).uncarried b hb n p ((carries_iff ..).2 hc) (programme_of_wanted hw)
    · obtain ⟨p, hp⟩ := (hwaits l).allCarry hne n
      rw [(carries_iff ..).1 hp] at hnone
      cases hnone

/-! ### What changes nothing of the routes -/

theorem carriedBy_congr {s t : State} {l : LineNo} (h : (t.laneSet l).lanes = (s.laneSet l).lanes) (n : LaneNo) :
    carriedBy t l n = carriedBy s l n := by
  unfold carriedBy
  rw [h]

theorem holders_congr {s t : State} (h : ∀ b, (t.live b).lane = (s.live b).lane) (l : LineNo) (n : LaneNo) :
    holders t l n = holders s l n := by
  unfold holders
  simp only [h]

/-- A change that leaves lanes, wait lists and lane fields, and what the berths outside `B` want, keeps the routes. -/
theorem RoutesBut.congr {B : BerthNo → Prop} {s t : State} (h : RoutesBut B s)
    (hlanes : ∀ l, (t.laneSet l).lanes = (s.laneSet l).lanes) (hwaits : ∀ l, (t.laneSet l).waits = (s.laneSet l).waits)
    (hqueues : ∀ l n, (s.laneSet l).lanes.get n = .free → (s.line l).queues.get n = [] → (t.line l).queues.get n = [])
    (hfields : ∀ b, (t.live b).lane = (s.live b).lane) (hwanted : ∀ b, ¬ B b → wanted t b = wanted s b) :
    RoutesBut B t := by
  have hcarried : ∀ l n, carriedBy t l n = carriedBy s l n := fun l n => carriedBy_congr (hlanes l) n
  refine ⟨fun l n hfree => ?_, fun l n p c hc => ?_, fun l n m p hn hm => ?_, fun b n hlane => ?_,
    fun b n hb hlane => ?_, fun b hb hlane => ?_, fun b hb hlane => ?_, fun l => ?_, fun l b hb => ?_, fun l b hb hB n p hc => ?_, fun l hne n => ?_⟩
  · rw [hlanes] at hfree
    exact hqueues l n hfree (h.free l n hfree)
  · rw [hlanes] at hc
    rw [holders_congr hfields]
    exact h.count l n p c hc
  · rw [hcarried] at hn hm
    exact h.alone l n m p hn hm
  · rw [hfields] at hlane
    rw [hcarried]
    exact h.held b n hlane
  · rw [hfields] at hlane
    rw [hwanted b hb, hcarried]
    exact h.onLane b n hb hlane
  · rw [hfields] at hlane
    rw [hwanted b hb, hwaits]
    exact h.onWait b hb hlane
  · rw [hfields] at hlane
    rw [hwanted b hb]
    exact h.off b hb hlane
  · rw [hwaits]; exact h.once l
  · rw [hwaits] at hb
    rw [hfields]
    exact h.ofLine l b hb
  · rw [hwaits] at hb
    rw [hcarried] at hc
    rw [hwanted b hB]
    exact h.uncarried l b hb hB n p hc
  · rw [hwaits] at hne
    rw [hcarried]
    exact h.allCarry l hne n

/-- More berths may be left out. -/
theorem RoutesBut.mono {B C : BerthNo → Prop} {s : State} (h : RoutesBut B s) (hBC : ∀ b, B b → C b) : RoutesBut C s where
  free := h.free
  count := h.count
  alone := h.alone
  held := h.held
  onLane b n hb := h.onLane b n fun hB => hb (hBC b hB)
  onWait b hb := h.onWait b fun hB => hb (hBC b hB)
  off b hb := h.off b fun hB => hb (hBC b hB)
  once := h.once
  ofLine := h.ofLine
  uncarried l b hmem hb := h.uncarried l b hmem fun hB => hb (hBC b hB)
  allCarry := h.allCarry

/-- A berth that holds no lane and wants none need not be left out. -/
theorem RoutesBut.settled {B : BerthNo → Prop} {s : State} (h : RoutesBut B s) {b : BerthNo}
    (hlane : (s.live b).lane = .none) (hwanted : wanted s b = none) : RoutesBut (fun c => B c ∧ c ≠ b) s where
  free := h.free
  count := h.count
  alone := h.alone
  held := h.held
  onLane c n hc hl := h.onLane c n (fun hB => hc ⟨hB, fun hcb => by rw [hcb, hlane] at hl; cases hl⟩) hl
  onWait c hc hl := h.onWait c (fun hB => hc ⟨hB, fun hcb => by rw [hcb, hlane] at hl; cases hl⟩) hl
  off c hc hl := by
    by_cases hcb : c = b
    · rw [hcb]; exact hwanted
    · exact h.off c (fun hB => hc ⟨hB, hcb⟩) hl
  once := h.once
  ofLine := h.ofLine
  uncarried l c hmem hc := by
    refine h.uncarried l c hmem fun hB => hc ⟨hB, fun hcb => ?_⟩
    have hwaiting := (h.ofLine l c hmem).2
    rw [hcb, hlane] at hwaiting
    cases hwaiting
  allCarry := h.allCarry

/-- The programme a lane carries. -/
def Lane.carried : Lane → Option ProgrammeNo
  | .free => none
  | .carrying p _ => some p

theorem carriedBy_eq (s : State) (l : LineNo) (n : LaneNo) : carriedBy s l n = ((s.laneSet l).lanes.get n).carried := by
  unfold carriedBy
  cases (s.laneSet l).lanes.get n <;> rfl

/-- What the lanes of a line carry, with one lane set. -/
theorem carriedBy_set {s t : State} {l : LineNo} {n : LaneNo} {v : Lane}
    (ht : (t.laneSet l).lanes = (s.laneSet l).lanes.set n v) (m : LaneNo) :
    carriedBy t l m = if n = m then v.carried else carriedBy s l m := by
  rw [carriedBy_eq, carriedBy_eq, ht, Table.get_set]
  split <;> rfl

/-! ### Reads after one lane field and its line's lanes have changed -/

section
variable (s : State) (b : BerthNo) (f : LaneField) (held : LaneSet)

theorem field_withLaneField (c : BerthNo) :
    ((withLaneField s b f held).live c).lane = if c = b then f else (s.live c).lane := by
  show ((s.berths.set b _).get c).live.lane = _
  rw [Table.get_set]
  by_cases hbc : b = c
  · rw [if_pos hbc, if_pos hbc.symm]
  · rw [if_neg hbc, if_neg (Ne.symm hbc)]
    rfl

theorem rest_withLaneField (c : BerthNo) : rest ((withLaneField s b f held).live c) = rest (s.live c) := by
  show rest ((s.berths.set b _).get c).live = _
  rw [Table.get_set]
  split
  next hbc => subst hbc; rfl
  · rfl

theorem wanted_withLaneField (c : BerthNo) : wanted (withLaneField s b f held) c = wanted s c :=
  wanted_congr (rest_withLaneField s b f held c) fun _ => rfl

theorem lanesAt_withLaneField (l : LineNo) :
    (withLaneField s b f held).laneSet l = if lineOf b = l then held else s.laneSet l :=
  Table.get_set ..

/-- The holders of a lane change with the one lane field. -/
theorem holders_withLaneField (l : LineNo) (n : LaneNo) :
    holders (withLaneField s b f held) l n + (if lineOf b = l ∧ (s.live b).lane = .lane n then 1 else 0) =
      holders s l n + if lineOf b = l ∧ f = .lane n then 1 else 0 := by
  have hchange := countP_one_change (nodup_berthsOf l) (b := b)
    (p := fun c => decide (((withLaneField s b f held).live c).lane = .lane n))
    (q := fun c => decide ((s.live c).lane = .lane n))
    (fun c hcb => by rw [field_withLaneField, if_neg hcb])
  simp only [mem_berthsOf, decide_eq_true_eq, field_withLaneField s b f held b, if_true] at hchange
  exact hchange

end

/-- A waiting berth that is not left out wants the programme of its live record. -/
theorem RoutesBut.wanted_of_waiter {B : BerthNo → Prop} {s : State} (h : RoutesBut B s) {l : LineNo} {c : BerthNo}
    (hc : c ∈ (s.laneSet l).waits) (hB : ¬ B c) : wanted s c = (s.live c).programme ∧ (s.live c).programme ≠ none := by
  obtain ⟨hw, -⟩ := h.onWait c hB (h.ofLine l c hc).2
  have heq : wanted s c = (s.live c).programme := by
    refine wanted_of_wantsLane ?_
    rw [wantsLane_eq_isSome]
    exact Option.isSome_iff_ne_none.2 hw
  exact ⟨heq, heq ▸ hw⟩

/-- A lane with at most one holder has no two. -/
theorem sole_holder {s : State} {l : LineNo} {n : LaneNo} (h : holders s l n ≤ 1) {b c : BerthNo} (hbl : lineOf b = l)
    (hb : (s.live b).lane = .lane n) (hcl : lineOf c = l) (hc : (s.live c).lane = .lane n) : c = b := by
  by_contra hcb
  have hsub : List.Subperm [b, c] ((berthsOf l).filter fun d => (s.live d).lane = .lane n) := by
    refine List.subperm_of_subset (by simp [Ne.symm hcb]) fun d hd => ?_
    rcases List.mem_pair.1 hd with rfl | rfl
    · exact List.mem_filter.2 ⟨(mem_berthsOf _ _).2 hbl, decide_eq_true hb⟩
    · exact List.mem_filter.2 ⟨(mem_berthsOf _ _).2 hcl, decide_eq_true hc⟩
  have htwo := hsub.length_le
  rw [← List.countP_eq_length_filter] at htwo
  simp only [List.length_cons, List.length_nil] at htwo
  unfold holders at h
  omega

theorem ne_of_left_out {B : BerthNo → Prop} {b c : BerthNo} (hb : B b) (hc : ¬ B c) : c ≠ b := fun hcb => hc (hcb ▸ hb)

/-! ### The steps of a route change (R72 to R74) -/

section
variable {B : BerthNo → Prop} {s : State} {b : BerthNo} (h : RoutesBut B s) (hb : B b)
include h hb

/-- Leaving the wait list. -/
theorem routesBut_releaseWait (hlane : (s.live b).lane = .waiting) : RoutesBut B (releaseWait b s) := by
  have heq : releaseWait b s = withLaneField s b .none
      { s.laneSet (lineOf b) with waits := (s.laneSet (lineOf b)).waits.filter fun c => c ≠ b } := by
    have hreleased := released_releaseRoute b s
    rw [Released, hlane] at hreleased
    rw [releaseRoute, hlane] at hreleased
    exact hreleased
  rw [heq]
  generalize hheld : ({ s.laneSet (lineOf b) with waits := (s.laneSet (lineOf b)).waits.filter fun c => c ≠ b } : LaneSet) =
    held
  have hlanes : ∀ l, ((withLaneField s b .none held).laneSet l).lanes = (s.laneSet l).lanes := by
    intro l
    rw [lanesAt_withLaneField]
    split
    next hl => subst hl hheld; rfl
    · rfl
  have hwaits : ∀ l c, c ∈ ((withLaneField s b .none held).laneSet l).waits ↔ c ∈ (s.laneSet l).waits ∧ c ≠ b := by
    intro l c
    rw [lanesAt_withLaneField]
    split
    next hl => subst hl hheld; simp [List.mem_filter]
    next hl => exact ⟨fun hc => ⟨hc, fun hcb => hl (hcb ▸ (h.ofLine l c hc).1)⟩, fun hc => hc.1⟩
  have hcarried : ∀ l n, carriedBy (withLaneField s b .none held) l n = carriedBy s l n :=
    fun l n => carriedBy_congr (hlanes l) n
  have hholders : ∀ l n, holders (withLaneField s b .none held) l n = holders s l n := by
    intro l n
    have hchange := holders_withLaneField s b .none held l n
    simpa [hlane] using hchange
  refine ⟨fun l n hfree => ?_, fun l n p c hc => ?_, fun l n m p hn hm => ?_, fun c n hl => ?_, fun c n hB hl => ?_,
    fun c hB hl => ?_, fun c hB hl => ?_, fun l => ?_, fun l c hc => ?_, fun l c hc hB n p hp => ?_, fun l hne n => ?_⟩
  · exact h.free l n (hlanes l ▸ hfree)
  · rw [hholders]; exact h.count l n p c (hlanes l ▸ hc)
  · rw [hcarried] at hn hm; exact h.alone l n m p hn hm
  · rw [field_withLaneField] at hl
    split at hl
    · cases hl
    · rw [hcarried]; exact h.held c n hl
  · have hcb : c ≠ b := ne_of_left_out hb hB
    rw [field_withLaneField, if_neg hcb] at hl
    rw [wanted_withLaneField, hcarried]
    exact h.onLane c n hB hl
  · have hcb : c ≠ b := ne_of_left_out hb hB
    rw [field_withLaneField, if_neg hcb] at hl
    obtain ⟨hw, hmem⟩ := h.onWait c hB hl
    exact ⟨by rw [wanted_withLaneField]; exact hw, (hwaits _ c).2 ⟨hmem, hcb⟩⟩
  · have hcb : c ≠ b := ne_of_left_out hb hB
    rw [field_withLaneField, if_neg hcb] at hl
    rw [wanted_withLaneField]
    exact h.off c hB hl
  · rw [lanesAt_withLaneField]
    split
    · subst hheld; exact (h.once _).filter _
    · exact h.once l
  · obtain ⟨hmem, hcb⟩ := (hwaits l c).1 hc
    rw [field_withLaneField, if_neg hcb]
    exact h.ofLine l c hmem
  · rw [hcarried] at hp
    rw [wanted_withLaneField]
    exact h.uncarried l c ((hwaits l c).1 hc).1 hB n p hp
  · rw [hcarried]
    refine h.allCarry l (fun hnil => hne ?_) n
    refine List.eq_nil_iff_forall_not_mem.2 fun c hc => ?_
    have hmem := ((hwaits l c).1 hc).1
    rw [hnil] at hmem
    cases hmem


/-- Leaving a lane that others hold too. -/
theorem routesBut_releaseLane_shared {n : LaneNo} {p : ProgrammeNo} {k : Nat} (hlane : (s.live b).lane = .lane n)
    (hn : (s.laneSet (lineOf b)).lanes.get n = .carrying p k) (hk : 2 ≤ k) : RoutesBut B (releaseLane b n s) := by
  rw [releaseLane_of_shared hn hk]
  generalize hheld : ({ s.laneSet (lineOf b) with
    lanes := (s.laneSet (lineOf b)).lanes.set n (.carrying p (k - 1)) } : LaneSet) = held
  have hsame : ∀ l, lineOf b ≠ l → (withLaneField s b .none held).laneSet l = s.laneSet l := fun l hl => by
    rw [lanesAt_withLaneField, if_neg hl]
  have hat : (withLaneField s b .none held).laneSet (lineOf b) = held := by rw [lanesAt_withLaneField, if_pos rfl]
  have hwaits : ∀ l, ((withLaneField s b .none held).laneSet l).waits = (s.laneSet l).waits := fun l => by
    by_cases hl : lineOf b = l
    · subst hl; rw [hat, ← hheld]
    · rw [hsame l hl]
  have hcarried : ∀ l m, carriedBy (withLaneField s b .none held) l m = carriedBy s l m := fun l m => by
    by_cases hl : lineOf b = l
    · subst hl
      rw [carriedBy_set (s := s) (n := n) (v := .carrying p (k - 1)) (by rw [hat, ← hheld])]
      split
      next hnm => subst hnm; exact (carriedBy_eq_some.2 ⟨k, hn⟩).symm
      · rfl
    · exact carriedBy_congr (by rw [hsame l hl]) m
  have hother : ∀ c, ¬ B c → ((withLaneField s b .none held).live c).lane = (s.live c).lane := fun c hc => by
    rw [field_withLaneField, if_neg (ne_of_left_out hb hc)]
  refine ⟨fun l m hfree => ?_, fun l m q c hc => ?_, fun l m m' q hm hm' => ?_, fun c m hl => ?_,
    fun c m hB hl => ?_, fun c hB hl => ?_, fun c hB hl => ?_, fun l => ?_, fun l c hc => ?_, fun l c hc hB m q hq => ?_, fun l hne m => ?_⟩
  · exact h.free l m (carriedBy_eq_none.1 ((hcarried l m).symm.trans (carriedBy_eq_none.2 hfree)))
  · have hcount := holders_withLaneField s b .none held l m
    simp only [hlane, LaneField.lane.injEq, reduceCtorEq, and_false, if_false] at hcount
    by_cases hl : lineOf b = l
    · subst hl
      rw [hat, ← hheld, Table.get_set] at hc
      split at hc
      next hnm =>
        subst hnm
        cases hc
        have hold := (h.count _ n p k hn).2
        simp only [and_self, if_true] at hcount
        omega
      next hnm =>
        have hold := h.count _ m q c hc
        simp only [hnm, and_false, if_false] at hcount
        omega
    · rw [hsame l hl] at hc
      have hold := h.count _ m q c hc
      simp only [hl, false_and, if_false] at hcount
      omega
  · rw [hcarried] at hm hm'; exact h.alone l m m' q hm hm'
  · rw [field_withLaneField] at hl
    split at hl
    · cases hl
    · rw [hcarried]; exact h.held c m hl
  · rw [hother c hB] at hl
    rw [wanted_withLaneField, hcarried]
    exact h.onLane c m hB hl
  · rw [hother c hB] at hl
    rw [wanted_withLaneField, hwaits]
    exact h.onWait c hB hl
  · rw [hother c hB] at hl
    rw [wanted_withLaneField]
    exact h.off c hB hl
  · rw [hwaits]; exact h.once l
  · rw [hwaits] at hc
    obtain ⟨hline, hwaiting⟩ := h.ofLine l c hc
    rw [field_withLaneField]
    split
    next hcb => rw [hcb, hlane] at hwaiting; cases hwaiting
    · exact ⟨hline, hwaiting⟩
  · rw [hwaits] at hc
    rw [hcarried] at hq
    rw [wanted_withLaneField]
    exact h.uncarried l c hc hB m q hq
  · rw [hwaits] at hne
    rw [hcarried]
    exact h.allCarry l hne m

/-- Leaving a lane as its last holder, with no berth waiting: the lane is FREE and its send queue empty (R73). -/
theorem routesBut_releaseLane_last {n : LaneNo} {p : ProgrammeNo} {k : Nat} (hlane : (s.live b).lane = .lane n)
    (hn : (s.laneSet (lineOf b)).lanes.get n = .carrying p k) (hk : k ≤ 1) (hw : (s.laneSet (lineOf b)).waits = []) :
    RoutesBut B (releaseLane b n s) := by
  rw [releaseLane_of_last hn hk hw]
  generalize hheld : ({ s.laneSet (lineOf b) with lanes := (s.laneSet (lineOf b)).lanes.set n .free } : LaneSet) = held
  generalize ht : ({ withLaneField s b .none held with
    lines := s.lines.set (lineOf b) { s.line (lineOf b) with queues := (s.line (lineOf b)).queues.set n [] } } : State) = t
  have hlive : ∀ c, t.live c = (withLaneField s b .none held).live c := fun c => by rw [← ht]; rfl
  have hset : ∀ l, t.laneSet l = (withLaneField s b .none held).laneSet l := fun l => by rw [← ht]; rfl
  have hwanted : ∀ c, wanted t c = wanted s c := fun c =>
    wanted_congr (by rw [hlive, rest_withLaneField]) fun q => by rw [← ht]; rfl
  have hsame : ∀ l, lineOf b ≠ l → t.laneSet l = s.laneSet l := fun l hl => by
    rw [hset, lanesAt_withLaneField, if_neg hl]
  have hat : t.laneSet (lineOf b) = held := by rw [hset, lanesAt_withLaneField, if_pos rfl]
  have hwaits : ∀ l, (t.laneSet l).waits = (s.laneSet l).waits := fun l => by
    by_cases hl : lineOf b = l
    · subst hl; rw [hat, ← hheld]
    · rw [hsame l hl]
  have hcarried : ∀ l m q, carriedBy t l m = some q → carriedBy s l m = some q ∧ (lineOf b = l → n ≠ m) := by
    intro l m q hq
    by_cases hl : lineOf b = l
    · subst hl
      rw [carriedBy_set (s := s) (n := n) (v := .free) (by rw [hat, ← hheld])] at hq
      split at hq
      · cases hq
      next hnm => exact ⟨hq, fun _ => hnm⟩
    · exact ⟨by rw [← hq]; exact (carriedBy_congr (by rw [hsame l hl]) m).symm, fun hbl => absurd hbl hl⟩
  have hother : ∀ c, ¬ B c → (t.live c).lane = (s.live c).lane := fun c hc => by
    rw [hlive, field_withLaneField, if_neg (ne_of_left_out hb hc)]
  have hholders : ∀ l m, holders t l m = holders (withLaneField s b .none held) l m := fun l m =>
    holders_congr (fun c => by rw [hlive]) l m
  have hlast : holders s (lineOf b) n ≤ 1 := (h.count _ n p k hn).2 ▸ hk
  have hsameAt : ∀ {c m}, c ≠ b → (s.live c).lane = .lane m → carriedBy t (lineOf c) m = carriedBy s (lineOf c) m := by
    intro c m hcb hl
    by_cases hline : lineOf b = lineOf c
    · have hnm : n ≠ m := by
        rintro rfl
        exact hcb (sole_holder hlast rfl hlane hline.symm hl)
      rw [← hline]
      rw [carriedBy_set (s := s) (n := n) (v := .free) (by rw [hat, ← hheld]), if_neg hnm]
    · exact carriedBy_congr (by rw [hsame _ hline]) m
  have hstays : ∀ {c m}, c ≠ b → (s.live c).lane = .lane m → carriedBy t (lineOf c) m ≠ none := fun hcb hl => by
    rw [hsameAt hcb hl]
    exact h.held _ _ hl
  refine ⟨fun l m hfree => ?_, fun l m q c hc => ?_, fun l m m' q hm hm' => ?_, fun c m hl => ?_,
    fun c m hB hl => ?_, fun c hB hl => ?_, fun c hB hl => ?_, fun l => ?_, fun l c hc => ?_, fun l c hc hB m q hq => ?_, fun l hne m => ?_⟩
  · have hline : t.line l = (s.lines.set (lineOf b)
        { s.line (lineOf b) with queues := (s.line (lineOf b)).queues.set n [] }).get l := by rw [← ht]; rfl
    rw [hline, Table.get_set]
    by_cases hl : lineOf b = l
    · subst hl
      rw [if_pos rfl]
      dsimp only
      rw [Table.get_set]
      split
      · rfl
      next hnm =>
        rw [hat, ← hheld] at hfree
        dsimp only at hfree
        rw [Table.get_set, if_neg hnm] at hfree
        exact h.free _ m hfree
    · rw [if_neg hl]
      rw [hsame l hl] at hfree
      exact h.free l m hfree
  · have hcount := holders_withLaneField s b .none held l m
    rw [hholders]
    simp only [hlane, LaneField.lane.injEq, reduceCtorEq, and_false, if_false] at hcount
    obtain ⟨hq, hnm⟩ := hcarried l m q (carriedBy_eq_some.2 ⟨c, hc⟩)
    have hold : (s.laneSet l).lanes.get m = .carrying q c := by
      by_cases hl : lineOf b = l
      · subst hl
        rw [hat, ← hheld] at hc
        dsimp only at hc
        rwa [Table.get_set, if_neg (hnm rfl)] at hc
      · rwa [hsame l hl] at hc
    have hcountOld := h.count l m q c hold
    have hnot : ¬ (lineOf b = l ∧ n = m) := fun ⟨hl, hm⟩ => hnm hl hm
    rw [if_neg hnot] at hcount
    omega
  · exact h.alone l m m' q (hcarried l m q hm).1 (hcarried l m' q hm').1
  · rw [hlive, field_withLaneField] at hl
    split at hl
    · cases hl
    next hcb => exact hstays hcb hl
  · rw [hother c hB] at hl
    obtain ⟨q, hq, hc⟩ := h.onLane c m hB hl
    refine ⟨q, (hwanted c).trans hq, ?_⟩
    rw [← hc]
    exact hsameAt (ne_of_left_out hb hB) hl
  · rw [hother c hB] at hl
    rw [hwanted, hwaits]
    exact h.onWait c hB hl
  · rw [hother c hB] at hl
    rw [hwanted]
    exact h.off c hB hl
  · rw [hwaits]; exact h.once l
  · rw [hwaits] at hc
    obtain ⟨hline, hwaiting⟩ := h.ofLine l c hc
    rw [hlive, field_withLaneField]
    split
    next hcb => rw [hcb, hlane] at hwaiting; cases hwaiting
    · exact ⟨hline, hwaiting⟩
  · rw [hwaits] at hc
    rw [hwanted]
    exact h.uncarried l c hc hB m q (hcarried l m q hq).1
  · rw [hwaits] at hne
    have hl : lineOf b ≠ l := by
      rintro rfl
      exact hne hw
    rw [carriedBy_congr (s := s) (by rw [hsame l hl])]
    exact h.allCarry l hne m

/-- Leaving a lane as its last holder, with berths waiting: the lane goes over to the programme of the oldest waiter, and
every waiter for that programme holds it (R74). -/
theorem routesBut_releaseLane_waiter {n : LaneNo} {p : ProgrammeNo} {k : Nat} (hlane : (s.live b).lane = .lane n)
    (hn : (s.laneSet (lineOf b)).lanes.get n = .carrying p k) (hk : k ≤ 1) {w : BerthNo} {ws : List BerthNo}
    (hw : (s.laneSet (lineOf b)).waits = w :: ws) (hclean : ∀ c ∈ (s.laneSet (lineOf b)).waits, ¬ B c) :
    RoutesBut B (releaseLane b n s) := by
  have hwmem : w ∈ (s.laneSet (lineOf b)).waits := hw ▸ List.mem_cons_self
  obtain ⟨q, hq⟩ := Option.ne_none_iff_exists'.1 (h.wanted_of_waiter hwmem (hclean w hwmem)).2
  have hwaiters : ∀ c ∈ (s.laneSet (lineOf b)).waits, wanted s c = (s.live c).programme :=
    fun c hc => (h.wanted_of_waiter hc (hclean c hc)).1
  rw [releaseLane_of_waiter hn hk hw, handOver_eq ((programme_live_setLaneField b .none s w).trans hq)]
  generalize hjoins : waitersFor (setLaneField b .none s) (lineOf b) q = joins
  generalize hheld : ({ (setLaneField b .none s).laneSet (lineOf b) with
    lanes := ((setLaneField b .none s).laneSet (lineOf b)).lanes.set n (.carrying q joins.length)
    waits := ((setLaneField b .none s).laneSet (lineOf b)).waits.filter fun c =>
      ((setLaneField b .none s).live c).programme ≠ some q } : LaneSet) = held
  have hmemJoins : ∀ c, c ∈ joins ↔ c ∈ (s.laneSet (lineOf b)).waits ∧ (s.live c).programme = some q := by
    intro c
    rw [← hjoins, waitersFor, List.mem_filter, decide_eq_true_eq, programme_live_setLaneField]
    rfl
  have hmemHeld : ∀ c, c ∈ held.waits ↔ c ∈ (s.laneSet (lineOf b)).waits ∧ (s.live c).programme ≠ some q := by
    intro c
    rw [← hheld]
    dsimp only
    rw [List.mem_filter, decide_eq_true_eq, programme_live_setLaneField]
    rfl
  have hheldLanes : held.lanes = (s.laneSet (lineOf b)).lanes.set n (.carrying q joins.length) := by rw [← hheld]; rfl
  generalize ht : forEach joins (fun t b => setLaneField b (.lane n) t) { setLaneField b .none s with
    lanes := (setLaneField b .none s).lanes.set (lineOf b) held } = t
  have hset : ∀ l, t.laneSet l = if lineOf b = l then held else s.laneSet l := by
    intro l
    rw [← ht, forEach_setLaneField_eq]
    exact Table.get_set ..
  have hline : ∀ l, t.line l = s.line l := fun l => by rw [← ht, forEach_setLaneField_eq]; rfl
  have hberth : ∀ c, t.berth c = if c ∈ joins then
      { (setLaneField b .none s).berth c with live := { (setLaneField b .none s).live c with lane := .lane n } }
      else (setLaneField b .none s).berth c := by
    intro c
    rw [← ht, berth_forEach_setLaneField]
    rfl
  have hfield : ∀ c, (t.live c).lane = if c ∈ joins then .lane n else if c = b then .none else (s.live c).lane := by
    intro c
    show (t.berth c).live.lane = _
    rw [hberth]
    split
    · rfl
    · rw [berth_setLaneField]
      by_cases hbc : b = c
      · rw [if_pos hbc, if_pos hbc.symm]
      · rw [if_neg hbc, if_neg (Ne.symm hbc)]
        rfl
  have hwanted : ∀ c, wanted t c = wanted s c := by
    intro c
    refine wanted_congr ?_ fun p => by rw [← ht, forEach_setLaneField_eq]; rfl
    show rest (t.berth c).live = _
    rw [hberth]
    split
    · exact rest_live_setLaneField b .none s c
    · exact rest_live_setLaneField b .none s c
  have hsame : ∀ l, lineOf b ≠ l → t.laneSet l = s.laneSet l := fun l hl => by rw [hset, if_neg hl]
  have hat : t.laneSet (lineOf b) = held := by rw [hset, if_pos rfl]
  have hcarried : ∀ m, carriedBy t (lineOf b) m = if n = m then some q else carriedBy s (lineOf b) m :=
    carriedBy_set (v := .carrying q joins.length) (by rw [hat, hheldLanes])
  have hbJoins : b ∉ joins := by
    intro hb
    have hwaiting := (h.ofLine _ b ((hmemJoins b).1 hb).1).2
    rw [hlane] at hwaiting
    cases hwaiting
  have hlast : holders s (lineOf b) n ≤ 1 := (h.count _ n p k hn).2 ▸ hk
  have hnotq : ∀ m, carriedBy s (lineOf b) m ≠ some q := fun m hm =>
    h.uncarried _ w hwmem (hclean w hwmem) m q hm ((hwaiters w hwmem).trans hq)
  have hfieldOther : ∀ c, ¬ B c → c ∉ joins → (t.live c).lane = (s.live c).lane := fun c hc hj => by
    rw [hfield, if_neg hj, if_neg (ne_of_left_out hb hc)]
  have hjoinLine : ∀ c ∈ joins, lineOf c = lineOf b := fun c hc => (h.ofLine _ c ((hmemJoins c).1 hc).1).1
  refine ⟨fun l m hfree => ?_, fun l m q' c hc => ?_, fun l m m' q' hm hm' => ?_, fun c m hl => ?_,
    fun c m hB hl => ?_, fun c hB hl => ?_, fun c hB hl => ?_, fun l => ?_, fun l c hc => ?_, fun l c hc hB m q' hq' => ?_, fun l hne m => ?_⟩
  · rw [hline]
    by_cases hl : lineOf b = l
    · subst hl
      have hnone := carriedBy_eq_none.2 hfree
      rw [hcarried] at hnone
      split at hnone
      · cases hnone
      · exact h.free _ m (carriedBy_eq_none.1 hnone)
    · rw [hsame l hl] at hfree
      exact h.free l m hfree
  · by_cases hl : lineOf b = l
    · subst hl
      rw [hat, hheldLanes, Table.get_set] at hc
      split at hc
      next hnm =>
        subst hnm
        cases hc
        refine ⟨List.length_pos_of_mem ((hmemJoins w).2 ⟨hwmem, hq⟩), ?_⟩
        have hperm : ((berthsOf (lineOf b)).filter fun c => (t.live c).lane = .lane n).Perm joins := by
          refine (List.perm_ext_iff_of_nodup ((nodup_berthsOf _).filter _) ?_).2 fun c => ?_
          · rw [← hjoins]; exact (h.once _).filter _
          · rw [List.mem_filter, mem_berthsOf, decide_eq_true_eq, hfield]
            constructor
            · rintro ⟨hcl, hcn⟩
              split at hcn
              · assumption
              · split at hcn
                · cases hcn
                next hcb => exact absurd (sole_holder hlast rfl hlane hcl hcn) hcb
            · intro hc
              exact ⟨hjoinLine c hc, by rw [if_pos hc]⟩
        unfold holders
        rw [List.countP_eq_length_filter, hperm.length_eq]
      next hnm =>
        have hsameHolders : holders t (lineOf b) m = holders s (lineOf b) m := by
          unfold holders
          refine List.countP_congr fun c _ => ?_
          rw [decide_eq_true_eq, decide_eq_true_eq, hfield]
          split
          next hcj =>
            rw [(h.ofLine _ c ((hmemJoins c).1 hcj).1).2]
            simp [hnm]
          · split
            next hcb => subst hcb; rw [hlane]; simp [hnm]
            · exact Iff.rfl
        rw [hsameHolders]
        exact h.count _ m q' c hc
    · rw [hsame l hl] at hc
      have hsameHolders : holders t l m = holders s l m := by
        unfold holders
        refine List.countP_congr fun c hcl => ?_
        rw [mem_berthsOf] at hcl
        rw [decide_eq_true_eq, decide_eq_true_eq, hfield, if_neg fun hcj => hl ((hjoinLine c hcj).symm.trans hcl),
          if_neg fun hcb => hl (by rw [← hcb, hcl])]
      rw [hsameHolders]
      exact h.count l m q' c hc
  · by_cases hl : lineOf b = l
    · subst hl
      rw [hcarried] at hm hm'
      split at hm <;> split at hm'
      next hnm hnm' => rw [← hnm, ← hnm']
      next => cases hm; exact absurd hm' (hnotq m')
      next => cases hm'; exact absurd hm (hnotq m)
      next => exact h.alone _ m m' q' hm hm'
    · rw [carriedBy_congr (s := s) (by rw [hsame l hl])] at hm hm'
      exact h.alone l m m' q' hm hm'
  · by_cases hcl : lineOf b = lineOf c
    · rw [← hcl, hcarried]
      split
      · exact Option.some_ne_none q
      next hnm =>
        rw [hfield] at hl
        split at hl
        · cases hl; exact absurd rfl hnm
        · split at hl
          · cases hl
          · rw [hcl]; exact h.held c m hl
    · rw [carriedBy_congr (s := s) (by rw [hsame _ hcl])]
      have hcj : c ∉ joins := fun hcj => hcl (hjoinLine c hcj).symm
      have hcb : c ≠ b := fun hcb => hcl (by rw [hcb])
      rw [hfield, if_neg hcj, if_neg hcb] at hl
      exact h.held c m hl
  · by_cases hcj : c ∈ joins
    · rw [hfield, if_pos hcj] at hl
      cases hl
      obtain ⟨hmem, hprog⟩ := (hmemJoins c).1 hcj
      exact ⟨q, by rw [hwanted, hwaiters c hmem, hprog], by rw [hjoinLine c hcj, hcarried, if_pos rfl]⟩
    · rw [hfieldOther c hB hcj] at hl
      obtain ⟨q', hq', hc⟩ := h.onLane c m hB hl
      refine ⟨q', (hwanted c).trans hq', ?_⟩
      by_cases hcl : lineOf b = lineOf c
      · rw [← hcl] at hc ⊢
        rw [hcarried, if_neg]
        · exact hc
        · rintro rfl
          exact ne_of_left_out hb hB (sole_holder hlast rfl hlane hcl.symm hl)
      · exact (carriedBy_congr (by rw [hsame _ hcl]) m).trans hc
  · have hcj : c ∉ joins := fun hcj => by rw [hfield, if_pos hcj] at hl; cases hl
    rw [hfieldOther c hB hcj] at hl
    obtain ⟨hwc, hmem⟩ := h.onWait c hB hl
    refine ⟨by rw [hwanted]; exact hwc, ?_⟩
    by_cases hcl : lineOf b = lineOf c
    · rw [← hcl] at hmem ⊢
      rw [hat]
      exact (hmemHeld c).2 ⟨hmem, fun hprog => hcj ((hmemJoins c).2 ⟨hmem, hprog⟩)⟩
    · rw [hsame _ hcl]; exact hmem
  · have hcj : c ∉ joins := fun hcj => by rw [hfield, if_pos hcj] at hl; cases hl
    rw [hfieldOther c hB hcj] at hl
    rw [hwanted]
    exact h.off c hB hl
  · rw [hset]
    split
    · rw [← hheld]; exact (h.once _).filter _
    · exact h.once l
  · by_cases hl : lineOf b = l
    · subst hl
      rw [hat] at hc
      obtain ⟨hmem, hprog⟩ := (hmemHeld c).1 hc
      obtain ⟨hcl, hwaiting⟩ := h.ofLine _ c hmem
      rw [hfield, if_neg fun hcj => hprog ((hmemJoins c).1 hcj).2, if_neg (ne_of_left_out hb (hclean c hmem))]
      exact ⟨hcl, hwaiting⟩
    · rw [hsame l hl] at hc
      obtain ⟨hcl, hwaiting⟩ := h.ofLine l c hc
      rw [hfield, if_neg fun hcj => hl ((hjoinLine c hcj).symm.trans hcl), if_neg fun hcb => hl (by rw [← hcb, hcl])]
      exact ⟨hcl, hwaiting⟩
  · rw [hwanted]
    by_cases hl : lineOf b = l
    · subst hl
      rw [hat] at hc
      obtain ⟨hmem, hprog⟩ := (hmemHeld c).1 hc
      rw [hcarried] at hq'
      split at hq'
      · cases hq'
        rw [hwaiters c hmem]
        exact hprog
      · exact h.uncarried _ c hmem hB m q' hq'
    · rw [hsame l hl] at hc
      rw [carriedBy_congr (s := s) (by rw [hsame l hl])] at hq'
      exact h.uncarried l c hc hB m q' hq'
  · by_cases hl : lineOf b = l
    · subst hl
      rw [hcarried]
      split
      · simp
      · exact h.allCarry _ (by rw [hw]; simp) m
    · rw [hsame l hl] at hne
      rw [carriedBy_congr (s := s) (by rw [hsame l hl])]
      exact h.allCarry l hne m

end

end Sys2Proof.Machine
end

section
/-! PROOFS. Every step keeps lines, presence, lane fields, lanes and wait lists in agreement (O6). -/

namespace Sys2Proof.Machine

/-! ## Acquiring a lane (R71) -/

theorem carriedBy_of_carrierOf {s : State} {l : LineNo} {p : ProgrammeNo} {n : LaneNo}
    (h : carrierOf (s.laneSet l) p = some n) : carriedBy s l n = some p := by
  rw [carrierOf_eq] at h
  exact of_decide_eq_true (by simpa using List.find?_some h)

theorem not_carriedBy_of_carrierOf {s : State} {l : LineNo} {p : ProgrammeNo} (h : carrierOf (s.laneSet l) p = none)
    (n : LaneNo) : carriedBy s l n ≠ some p := by
  rw [carrierOf_eq] at h
  simpa using List.find?_eq_none.1 h n (List.mem_finRange n)

theorem free_of_freeLane {x : LaneSet} {n : LaneNo} (h : freeLane x = some n) : x.lanes.get n = .free := by
  simpa using List.find?_some h

theorem not_free_of_freeLane {x : LaneSet} (h : freeLane x = none) (n : LaneNo) : x.lanes.get n ≠ .free := by
  simpa using List.find?_eq_none.1 h n (List.mem_finRange n)

section
variable {B : BerthNo → Prop} {s : State} {b : BerthNo} (h : RoutesBut B s)
include h

/-- No berth holds a lane that is FREE. -/
theorem holders_of_free {l : LineNo} {n : LaneNo} (hfree : carriedBy s l n = none) : holders s l n = 0 := by
  unfold holders
  refine List.countP_eq_zero.2 fun c hc => ?_
  rw [mem_berthsOf] at hc
  rw [decide_eq_true_eq]
  intro hlane
  exact h.held c n hlane (hc ▸ hfree)

variable {p : ProgrammeNo} (hw : wanted s b = some p) (hlane : (s.live b).lane = .none)
include hw hlane

/-- Taking a lane: one that carries the programme already, or the first FREE one. -/
theorem routesBut_taken {n : LaneNo} {k : Nat}
    (hn : carriedBy s (lineOf b) n = some p ∨
      carriedBy s (lineOf b) n = none ∧ ∀ m, carriedBy s (lineOf b) m ≠ some p)
    (hk : k = holders s (lineOf b) n + 1) :
    RoutesBut (fun c => B c ∧ c ≠ b) (withLaneField s b (.lane n)
      { s.laneSet (lineOf b) with lanes := (s.laneSet (lineOf b)).lanes.set n (.carrying p k) }) := by
  generalize hheld : ({ s.laneSet (lineOf b) with
    lanes := (s.laneSet (lineOf b)).lanes.set n (.carrying p k) } : LaneSet) = held
  have hsame : ∀ l, lineOf b ≠ l → (withLaneField s b (.lane n) held).laneSet l = s.laneSet l := fun l hl => by
    rw [lanesAt_withLaneField, if_neg hl]
  have hat : (withLaneField s b (.lane n) held).laneSet (lineOf b) = held := by rw [lanesAt_withLaneField, if_pos rfl]
  have hwaits : ∀ l, ((withLaneField s b (.lane n) held).laneSet l).waits = (s.laneSet l).waits := fun l => by
    by_cases hl : lineOf b = l
    · subst hl; rw [hat, ← hheld]
    · rw [hsame l hl]
  have hcarried : ∀ m, carriedBy (withLaneField s b (.lane n) held) (lineOf b) m =
      if n = m then some p else carriedBy s (lineOf b) m :=
    carriedBy_set (v := .carrying p k) (by rw [hat, ← hheld])
  have hother : ∀ l, lineOf b ≠ l → ∀ m, carriedBy (withLaneField s b (.lane n) held) l m = carriedBy s l m :=
    fun l hl m => carriedBy_congr (by rw [hsame l hl]) m
  have hstill : ∀ l m q, carriedBy s l m = some q → carriedBy (withLaneField s b (.lane n) held) l m = some q := by
    intro l m q hq
    by_cases hl : lineOf b = l
    · subst hl
      rw [hcarried]
      split
      next hnm =>
        subst hnm
        rcases hn with hn | ⟨hn, -⟩
        · rw [← hn, hq]
        · rw [hn] at hq; cases hq
      · exact hq
    · rw [hother l hl]; exact hq
  have hbWaits : ∀ l, b ∉ (s.laneSet l).waits := fun l hb => by
    have hwaiting := (h.ofLine l b hb).2
    rw [hlane] at hwaiting
    cases hwaiting
  have hrange : ∀ c, ¬ (B c ∧ c ≠ b) → c ≠ b → ¬ B c := fun c hc hcb hB => hc ⟨hB, hcb⟩
  refine ⟨fun l m hfree => ?_, fun l m q c hc => ?_, fun l m m' q hm hm' => ?_, fun c m hl => ?_,
    fun c m hB hl => ?_, fun c hB hl => ?_, fun c hB hl => ?_, fun l => ?_, fun l c hc => ?_, fun l c hc hB m q hq => ?_, fun l hne m hnone => ?_⟩
  · refine h.free l m (carriedBy_eq_none.1 ?_)
    cases hq : carriedBy s l m with
    | none => rfl
    | some q =>
      have hcontra := hstill l m q hq
      rw [carriedBy_eq_none.2 hfree] at hcontra
      cases hcontra
  · have hcount := holders_withLaneField s b (.lane n) held l m
    simp only [hlane, reduceCtorEq, and_false, if_false, LaneField.lane.injEq] at hcount
    by_cases hl : lineOf b = l
    · subst hl
      rw [hat, ← hheld, Table.get_set] at hc
      split at hc
      next hnm =>
        subst hnm
        cases hc
        simp only [and_self, if_true] at hcount
        omega
      next hnm =>
        have hold := h.count _ m q c hc
        simp only [hnm, and_false, if_false] at hcount
        omega
    · rw [hsame l hl] at hc
      have hold := h.count _ m q c hc
      simp only [hl, false_and, if_false] at hcount
      omega
  · by_cases hl : lineOf b = l
    · subst hl
      rw [hcarried] at hm hm'
      split at hm <;> split at hm'
      next hnm hnm' => rw [← hnm, ← hnm']
      next hnm _ =>
        cases hm
        subst hnm
        rcases hn with hn | ⟨-, hn⟩
        · exact h.alone _ _ _ _ hn hm'
        · exact absurd hm' (hn m')
      next _ hnm =>
        cases hm'
        subst hnm
        rcases hn with hn | ⟨-, hn⟩
        · exact h.alone _ _ _ _ hm hn
        · exact absurd hm (hn m)
      next => exact h.alone _ m m' q hm hm'
    · rw [hother l hl] at hm hm'
      exact h.alone l m m' q hm hm'
  · rw [field_withLaneField] at hl
    split at hl
    next hcb =>
      cases hl
      rw [hcb, hcarried, if_pos rfl]
      exact Option.some_ne_none p
    · obtain ⟨q, hq⟩ := Option.ne_none_iff_exists'.1 (h.held c m hl)
      rw [hstill _ m q hq]
      exact Option.some_ne_none q
  · rw [wanted_withLaneField]
    rw [field_withLaneField] at hl
    split at hl
    next hcb =>
      subst hcb
      cases hl
      exact ⟨p, hw, by rw [hcarried, if_pos rfl]⟩
    next hcb =>
      obtain ⟨q, hq, hc⟩ := h.onLane c m (hrange c hB hcb) hl
      exact ⟨q, hq, hstill _ m q hc⟩
  · rw [wanted_withLaneField, hwaits]
    rw [field_withLaneField] at hl
    split at hl
    · cases hl
    next hcb => exact h.onWait c (hrange c hB hcb) hl
  · rw [wanted_withLaneField]
    rw [field_withLaneField] at hl
    split at hl
    · cases hl
    next hcb => exact h.off c (hrange c hB hcb) hl
  · rw [hwaits]; exact h.once l
  · rw [hwaits] at hc
    have hcb : c ≠ b := fun hcb => hbWaits l (hcb ▸ hc)
    rw [field_withLaneField, if_neg hcb]
    exact h.ofLine l c hc
  · rw [wanted_withLaneField]
    rw [hwaits] at hc
    have hcB : ¬ B c := hrange c hB fun hcb => hbWaits l (hcb ▸ hc)
    by_cases hl : lineOf b = l
    · subst hl
      rw [hcarried] at hq
      split at hq
      · cases hq
        rcases hn with hn | ⟨hfree, -⟩
        · exact h.uncarried _ c hc hcB n p hn
        · exact absurd hfree (h.allCarry _ (List.ne_nil_of_mem hc) n)
      · exact h.uncarried _ c hc hcB m q hq
    · rw [hother l hl] at hq
      exact h.uncarried l c hc hcB m q hq
  · rw [hwaits] at hne
    cases hq : carriedBy s l m with
    | none => exact h.allCarry l hne m hq
    | some q => rw [hstill l m q hq] at hnone; cases hnone

/-- Waiting: every lane carries another programme. -/
theorem routesBut_waiting (hnone : ∀ m, carriedBy s (lineOf b) m ≠ some p)
    (hfull : ∀ m, carriedBy s (lineOf b) m ≠ none) :
    RoutesBut (fun c => B c ∧ c ≠ b) (withLaneField s b .waiting
      { s.laneSet (lineOf b) with waits := (s.laneSet (lineOf b)).waits ++ [b] }) := by
  generalize hheld : ({ s.laneSet (lineOf b) with waits := (s.laneSet (lineOf b)).waits ++ [b] } : LaneSet) = held
  have hlanes : ∀ l, ((withLaneField s b .waiting held).laneSet l).lanes = (s.laneSet l).lanes := by
    intro l
    rw [lanesAt_withLaneField]
    split
    next hl => subst hl hheld; rfl
    · rfl
  have hcarried : ∀ l m, carriedBy (withLaneField s b .waiting held) l m = carriedBy s l m :=
    fun l m => carriedBy_congr (hlanes l) m
  have hwaits : ∀ l c, c ∈ ((withLaneField s b .waiting held).laneSet l).waits ↔
      c ∈ (s.laneSet l).waits ∨ lineOf b = l ∧ c = b := by
    intro l c
    rw [lanesAt_withLaneField]
    split
    next hl => subst hl hheld; simp
    next hl => simp [hl]
  have hholders : ∀ l m, holders (withLaneField s b .waiting held) l m = holders s l m := by
    intro l m
    have hchange := holders_withLaneField s b .waiting held l m
    simpa [hlane] using hchange
  have hbWaits : ∀ l, b ∉ (s.laneSet l).waits := fun l hb => by
    have hwaiting := (h.ofLine l b hb).2
    rw [hlane] at hwaiting
    cases hwaiting
  have hrange : ∀ c, ¬ (B c ∧ c ≠ b) → c ≠ b → ¬ B c := fun c hc hcb hB => hc ⟨hB, hcb⟩
  refine ⟨fun l m hfree => ?_, fun l m q c hc => ?_, fun l m m' q hm hm' => ?_, fun c m hl => ?_,
    fun c m hB hl => ?_, fun c hB hl => ?_, fun c hB hl => ?_, fun l => ?_, fun l c hc => ?_, fun l c hc hB m q hq => ?_, fun l hne m => ?_⟩
  · rw [hlanes] at hfree; exact h.free l m hfree
  · rw [hlanes] at hc; rw [hholders]; exact h.count l m q c hc
  · rw [hcarried] at hm hm'; exact h.alone l m m' q hm hm'
  · rw [field_withLaneField] at hl
    split at hl
    · cases hl
    · rw [hcarried]; exact h.held c m hl
  · rw [field_withLaneField] at hl
    split at hl
    · cases hl
    next hcb =>
      rw [wanted_withLaneField, hcarried]
      exact h.onLane c m (hrange c hB hcb) hl
  · rw [wanted_withLaneField]
    rw [field_withLaneField] at hl
    split at hl
    next hcb =>
      subst hcb
      exact ⟨by rw [hw]; simp, (hwaits _ c).2 (.inr ⟨rfl, rfl⟩)⟩
    next hcb =>
      obtain ⟨hwc, hmem⟩ := h.onWait c (hrange c hB hcb) hl
      exact ⟨hwc, (hwaits _ c).2 (.inl hmem)⟩
  · rw [field_withLaneField] at hl
    split at hl
    · cases hl
    next hcb =>
      rw [wanted_withLaneField]
      exact h.off c (hrange c hB hcb) hl
  · rw [lanesAt_withLaneField]
    split
    next hl =>
      subst hl hheld
      exact (h.once _).append (List.nodup_singleton b) fun c hc hcb => hbWaits _ (List.mem_singleton.1 hcb ▸ hc)
    · exact h.once l
  · rw [field_withLaneField]
    rcases (hwaits l c).1 hc with hc | ⟨hl, rfl⟩
    · have hcb : c ≠ b := fun hcb => hbWaits l (hcb ▸ hc)
      rw [if_neg hcb]
      exact h.ofLine l c hc
    · exact ⟨hl, if_pos rfl⟩
  · rw [hcarried] at hq
    rw [wanted_withLaneField]
    rcases (hwaits l c).1 hc with hc | ⟨rfl, rfl⟩
    · exact h.uncarried l c hc (hrange c hB fun hcb => hbWaits l (hcb ▸ hc)) m q hq
    · rw [hw]
      rintro ⟨⟩
      exact hnone m hq
  · rw [hcarried]
    by_cases hl : lineOf b = l
    · subst hl; exact hfull m
    · refine h.allCarry l (fun hnil => hne ?_) m
      rw [lanesAt_withLaneField, if_neg hl]
      exact hnil

end

/-- A berth that holds no lane acquires what it wants, and need not be left out any more. -/
theorem routesBut_acquire {B : BerthNo → Prop} {s : State} (h : RoutesBut B s) {b : BerthNo}
    (hlane : (s.live b).lane = .none) :
    RoutesBut (fun c => B c ∧ c ≠ b) (acquire b s) := by
  cases hw : wanted s b with
  | none =>
    rw [acquire_of_not_wants fun p hp => by rw [wanted_eq_some.2 hp] at hw; cases hw]
    exact h.settled hlane hw
  | some p =>
    have hwants := wanted_eq_some.1 hw
    cases hn : carrierOf (s.laneSet (lineOf b)) p with
    | some n =>
      obtain ⟨c, hc⟩ := carriedBy_eq_some.1 (carriedBy_of_carrierOf hn)
      rw [acquire_of_carrier hwants hn hc]
      exact routesBut_taken h hw hlane (.inl (carriedBy_of_carrierOf hn)) (by rw [← (h.count _ n p c hc).2])
    | none =>
      have hnone := not_carriedBy_of_carrierOf hn
      cases hf : freeLane (s.laneSet (lineOf b)) with
      | some n =>
        have hfree := carriedBy_eq_none.2 (free_of_freeLane hf)
        rw [acquire_of_free hwants hn hf]
        exact routesBut_taken h hw hlane (.inr ⟨hfree, hnone⟩) (by rw [holders_of_free h hfree])
      | none =>
        rw [acquire_of_full hwants hn hf]
        exact routesBut_waiting h hw hlane hnone fun m hm => not_free_of_freeLane hf m (carriedBy_eq_none.1 hm)

/-! ## The lane field of a berth through a release and an acquisition -/

theorem setLaneField_lane (b : BerthNo) (v : LaneField) (s : State) (c : BerthNo) :
    ((setLaneField b v s).live c).lane = if c = b then v else (s.live c).lane := by
  show ((setLaneField b v s).berth c).live.lane = _
  rw [berth_setLaneField]
  by_cases hbc : b = c
  · rw [if_pos hbc, if_pos hbc.symm]
  · rw [if_neg hbc, if_neg (Ne.symm hbc)]
    rfl

theorem lane_acquire_of_ne {b c : BerthNo} (hcb : c ≠ b) (s : State) : ((acquire b s).live c).lane = (s.live c).lane := by
  rw [acquire_eq_withLaneField, field_withLaneField, if_neg hcb]

/-- A release clears the berth's own lane field; of the others only a waiter's can change. -/
theorem lane_releaseLane (b : BerthNo) (n : LaneNo) (s : State) {c : BerthNo}
    (hmem : c ∉ (s.laneSet (lineOf b)).waits) :
    ((releaseLane b n s).live c).lane = if c = b then .none else (s.live c).lane := by
  unfold releaseLane
  dsimp only
  split
  · exact setLaneField_lane b .none s c
  · split
    · exact setLaneField_lane b .none s c
    · split
      · exact setLaneField_lane b .none s c
      next w ws hws =>
        cases hq : ((setLaneField b .none s).live w).programme with
        | none => rw [handOver, hq]; exact setLaneField_lane b .none s c
        | some q =>
          rw [handOver_eq hq]
          show ((forEach _ _ _).berth c).live.lane = _
          rw [berth_forEach_setLaneField, if_neg]
          · exact setLaneField_lane b .none s c
          · exact fun hj => hmem (List.mem_of_mem_filter hj)

theorem lane_releaseWait (b : BerthNo) (s : State) (c : BerthNo) :
    ((releaseWait b s).live c).lane = if c = b then .none else (s.live c).lane := setLaneField_lane b .none _ c

/-! ## Releases and batches (R72 to R76) -/

section
variable {B : BerthNo → Prop} {s : State} {b : BerthNo}

/-- Releasing a lane, with no berth of `B` waiting on its line. -/
theorem routesBut_releaseLane (h : RoutesBut B s) (hb : B b) {n : LaneNo} (hlane : (s.live b).lane = .lane n)
    (hclean : ∀ c ∈ (s.laneSet (lineOf b)).waits, ¬ B c) : RoutesBut B (releaseLane b n s) := by
  cases hn : (s.laneSet (lineOf b)).lanes.get n with
  | free => exact absurd (carriedBy_eq_none.2 hn) (h.held b n hlane)
  | carrying p k =>
    by_cases hk : 2 ≤ k
    · exact routesBut_releaseLane_shared h hb hlane hn hk
    · have hk : k ≤ 1 := by omega
      cases hw : (s.laneSet (lineOf b)).waits with
      | nil => exact routesBut_releaseLane_last h hb hlane hn hk hw
      | cons w ws => exact routesBut_releaseLane_waiter h hb hlane hn hk hw hclean

/-- After a release the berth holds nothing of the lanes. -/
theorem lane_releaseRoute (h : RoutesBut B s) : ((releaseRoute b s).live b).lane = .none := by
  unfold releaseRoute
  split
  next hlane => exact hlane
  next n hlane =>
    rw [lane_releaseLane, if_pos rfl]
    intro hb
    have hwaiting := (h.ofLine _ b hb).2
    rw [hlane] at hwaiting
    cases hwaiting
  · rw [lane_releaseWait, if_pos rfl]

theorem routesBut_releaseRoute (h : RoutesBut (· = b) s) : RoutesBut (· = b) (releaseRoute b s) := by
  unfold releaseRoute
  split
  · exact h
  next n hlane =>
    refine routesBut_releaseLane h rfl hlane fun c hc hcb => ?_
    have hwaiting := (h.ofLine _ c hc).2
    rw [hcb, hlane] at hwaiting
    cases hwaiting
  next hlane => exact routesBut_releaseWait h rfl hlane

/-- A route change of one berth: it ends with every berth holding what it wants. -/
theorem routesBut_routeChange (h : RoutesBut (· = b) s) : RoutesBut (fun _ => False) (routeChange b s) :=
  (routesBut_acquire (routesBut_releaseRoute h) (lane_releaseRoute h)).mono fun _ ⟨heq, hne⟩ => hne heq

/-- First the batch's berths leave the wait lists. -/
theorem routesBut_unwaits (bs : List BerthNo) (h : RoutesBut B s) (hbs : ∀ b ∈ bs, B b) :
    RoutesBut B (forEach bs batchUnwait s) ∧ ∀ c, ((forEach bs batchUnwait s).live c).lane =
      if c ∈ bs ∧ (s.live c).lane = .waiting then .none else (s.live c).lane := by
  induction bs generalizing s with
  | nil => exact ⟨h, fun c => by simp [forEach]⟩
  | cons b bs ih =>
    have hstep : RoutesBut B (batchUnwait s b) ∧ ∀ c, ((batchUnwait s b).live c).lane =
        if c = b ∧ (s.live c).lane = .waiting then .none else (s.live c).lane := by
      unfold batchUnwait
      split
      next hlane =>
        refine ⟨routesBut_releaseWait h (hbs b List.mem_cons_self) hlane, fun c => ?_⟩
        rw [lane_releaseWait]
        by_cases hcb : c = b
        · rw [if_pos hcb, if_pos ⟨hcb, hcb ▸ hlane⟩]
        · rw [if_neg hcb, if_neg fun hc => hcb hc.1]
      next hlane => exact ⟨h, fun c => by rw [if_neg]; rintro ⟨rfl, hw⟩; exact hlane hw⟩
    obtain ⟨hroutes, hlanes⟩ := ih hstep.1 fun c hc => hbs c (List.mem_cons_of_mem _ hc)
    refine ⟨hroutes, fun c => (hlanes c).trans ?_⟩
    rw [hstep.2]
    by_cases hcb : c = b
    · subst hcb
      by_cases hw : (s.live c).lane = .waiting <;> simp [hw]
    · simp [hcb]

/-- Then they give up their lanes. -/
theorem routesBut_releases (bs : List BerthNo) (h : RoutesBut B s) (hbs : ∀ b ∈ bs, B b)
    (hclean : ∀ c, B c → (s.live c).lane ≠ .waiting) :
    RoutesBut B (forEach bs batchRelease s) ∧ ∀ c, B c → ((forEach bs batchRelease s).live c).lane =
      if c ∈ bs then .none else (s.live c).lane := by
  induction bs generalizing s with
  | nil => exact ⟨h, fun c _ => by simp [forEach]⟩
  | cons b bs ih =>
    have hnotWaiting : ∀ c, B c → c ∉ (s.laneSet (lineOf b)).waits := fun c hc hmem =>
      hclean c hc (h.ofLine _ c hmem).2
    have hstep : RoutesBut B (batchRelease s b) ∧ ∀ c, B c → ((batchRelease s b).live c).lane =
        if c = b then .none else (s.live c).lane := by
      unfold batchRelease
      split
      next n hlane =>
        refine ⟨routesBut_releaseLane h (hbs b List.mem_cons_self) hlane fun c hc hB => hnotWaiting c hB hc,
          fun c hc => lane_releaseLane b n s (hnotWaiting c hc)⟩
      next hlane =>
        refine ⟨h, fun c hc => ?_⟩
        split
        next hcb =>
          subst hcb
          cases hl : (s.live c).lane with
          | none => rfl
          | lane n => exact absurd hl (hlane n)
          | waiting => exact absurd hl (hclean c hc)
        · rfl
    obtain ⟨hroutes, hlanes⟩ := ih hstep.1 (fun c hc => hbs c (List.mem_cons_of_mem _ hc)) fun c hc => by
      rw [hstep.2 c hc]
      split
      · simp
      · exact hclean c hc
    refine ⟨hroutes, fun c hc => (hlanes c hc).trans ?_⟩
    rw [hstep.2 c hc]
    by_cases hcb : c = b
    · simp [hcb]
    · simp [hcb]

/-- At last they acquire what they want, one after the other. -/
theorem routesBut_acquires (bs : List BerthNo) (hnodup : bs.Nodup) (h : RoutesBut (· ∈ bs) s)
    (hoff : ∀ b ∈ bs, (s.live b).lane = .none) :
    RoutesBut (fun _ => False) (forEach bs (fun t b => acquire b t) s) := by
  induction bs generalizing s with
  | nil => exact h.mono fun b hb => List.not_mem_nil hb
  | cons b bs ih =>
    obtain ⟨hb, hnodup⟩ := List.nodup_cons.1 hnodup
    refine ih hnodup ((routesBut_acquire h (hoff b List.mem_cons_self)).mono ?_) fun c hc => ?_
    · rintro c ⟨hc, hcb⟩
      exact (List.mem_cons.1 hc).resolve_left hcb
    · have hcb : c ≠ b := fun hcb => hb (hcb ▸ hc)
      rw [lane_acquire_of_ne hcb]
      exact hoff c (List.mem_cons_of_mem _ hc)

/-- A batch of route changes ends with every berth holding what it wants. -/
theorem routesBut_applyBatch (bs : List BerthNo) (hnodup : bs.Nodup) (h : RoutesBut (· ∈ bs) s) :
    RoutesBut (fun _ => False) (applyBatch bs s) := by
  obtain ⟨hunwaited, hlanes⟩ := routesBut_unwaits bs h fun _ hb => hb
  obtain ⟨hreleased, hoff⟩ := routesBut_releases bs hunwaited (fun _ hb => hb) fun c hc => by
    rw [hlanes]
    split
    · simp
    next hw => exact fun hwaiting => hw ⟨hc, hwaiting⟩
  exact routesBut_acquires bs hnodup hreleased fun b hb => by rw [hoff b hb, if_pos hb]

end

end Sys2Proof.Machine
end

section
/-! PROOFS. What the life of an entry leaves of the media, the patterns and the admission of entries. -/

namespace Sys2Proof.Machine

/-! ## Programmes, port counters, patterns, profiles and counters of admission -/

/-- What no phase of an entry touches: the programmes with their tracks, the counters of the media port, the patterns, the
profiles, the counters that issue handles and admission numbers, and those of the arrivals of recorded blocks. -/
structure Fixtures where
  programmes : Table Programme programmeCount
  port : PortCounters
  patterns : Table (List Note) patternCount
  driver : Params
  crew : Params
  handleCounter : Byte
  admissionCounter : Long
  appended : Half
  full : Nat
  stray : Nat

def fixtures (s : State) : Fixtures :=
  ⟨s.media.programmes, s.media.port, s.chimes.patterns, s.ann.driver, s.ann.crew, s.ann.handleCounter,
    s.ann.admissionCounter, s.media.recorded.appended, s.media.recorded.full, s.media.recorded.stray⟩

theorem programmes_of_fixtures {s t : State} (h : fixtures t = fixtures s) : t.media.programmes = s.media.programmes :=
  congrArg Fixtures.programmes h

theorem port_of_fixtures {s t : State} (h : fixtures t = fixtures s) : t.media.port = s.media.port :=
  congrArg Fixtures.port h

theorem patterns_of_fixtures {s t : State} (h : fixtures t = fixtures s) : t.chimes.patterns = s.chimes.patterns :=
  congrArg Fixtures.patterns h

theorem driver_of_fixtures {s t : State} (h : fixtures t = fixtures s) : t.ann.driver = s.ann.driver :=
  congrArg Fixtures.driver h

theorem crew_of_fixtures {s t : State} (h : fixtures t = fixtures s) : t.ann.crew = s.ann.crew :=
  congrArg Fixtures.crew h

theorem arrivals_of_fixtures {s t : State} (h : fixtures t = fixtures s) :
    t.media.recorded.appended = s.media.recorded.appended ∧ t.media.recorded.full = s.media.recorded.full ∧
      t.media.recorded.stray = s.media.recorded.stray :=
  ⟨congrArg Fixtures.appended h, congrArg Fixtures.full h, congrArg Fixtures.stray h⟩

theorem handleCounter_of_fixtures {s t : State} (h : fixtures t = fixtures s) :
    t.ann.handleCounter = s.ann.handleCounter :=
  congrArg Fixtures.handleCounter h

section
variable (s : State)

@[simp] theorem fixtures_modEvents (f : Events → Events) : fixtures (s.modEvents f) = fixtures s := rfl

@[simp] theorem fixtures_raise (e : Event) : fixtures (raise e s) = fixtures s := rfl

@[simp] theorem fixtures_modEntry (h : Byte) (f : Entry → Entry) : fixtures (s.modEntry h f) = fixtures s := rfl

theorem fixtures_closedFor (v : Source) : fixtures (s.modRecorded (closedFor v)) = fixtures s := by
  cases v <;> rfl

theorem fixtures_bufferWithout (e : Entry) : fixtures (s.modRecorded (bufferWithout e)) = fixtures s := by
  unfold bufferWithout
  split <;> rfl

@[simp] theorem fixtures_modVoice (v : Source) (f : Voice → Voice) : fixtures (s.modVoice v f) = fixtures s := by
  cases v <;> rfl

@[simp] theorem fixtures_modMix (b : BerthNo) (f : MixState → MixState) : fixtures (s.modMix b f) = fixtures s := rfl

@[simp] theorem fixtures_setMix (t : Table MixState berthCount) : fixtures (s.setMix t) = fixtures s := rfl

@[simp] theorem fixtures_stopVoice (v : Source) : fixtures (stopVoice v s) = fixtures s := fixtures_modVoice s v _

@[simp] theorem fixtures_startVoice (v : Source) (h : Byte) (p : PatternNo) :
    fixtures (startVoice v h p s) = fixtures s := by
  unfold startVoice
  split
  · exact fixtures_modVoice s v _
  · exact fixtures_modVoice s v _

@[simp] theorem fixtures_openRecorded (h : Byte) : fixtures (openRecorded h s) = fixtures s := rfl

@[simp] theorem fixtures_closeRecorded : fixtures (closeRecorded s) = fixtures s := rfl

@[simp] theorem fixtures_takeRecorded : fixtures (takeRecorded s) = fixtures s := rfl

@[simp] theorem fixtures_addEntry (e : Entry) : fixtures (addEntry e s) = fixtures s := rfl

theorem fixtures_stoppedFor (e : Entry) : fixtures (s.modChimes fun _ => stoppedFor s e) = fixtures s := by
  unfold stoppedFor
  split
  · exact fixtures_stopVoice s e.source
  · rfl

@[simp] theorem fixtures_enterTail (h : Byte) (why : EndReason) : fixtures (enterTail h why s) = fixtures s := by
  cases he : s.entry? h with
  | none => simp only [enterTail, he]
  | some e =>
    have hh := s.entry?_handle he
    subst hh
    rw [enterTail_eq he, fixtures_closedFor]
    exact fixtures_stoppedFor s e

@[simp] theorem fixtures_removeEntry (h : Byte) (why : EndReason) : fixtures (removeEntry h why s) = fixtures s := by
  cases he : s.entry? h with
  | none => simp only [removeEntry, he]
  | some e =>
    have hh := s.entry?_handle he
    subst hh
    rw [removeEntry_eq he]
    have hstopped := fixtures_stoppedFor s e
    generalize (s.modChimes fun _ => stoppedFor s e) = t at hstopped ⊢
    exact (fixtures_bufferWithout t e).trans hstopped

@[simp] theorem fixtures_handOn : fixtures (handOn s) = fixtures s := by
  unfold handOn
  split <;> rfl

@[simp] theorem fixtures_removeAndHandOn (h : Byte) (why : EndReason) :
    fixtures (removeAndHandOn h why s) = fixtures s := by
  unfold removeAndHandOn
  split
  · rfl
  · split <;> simp

@[simp] theorem fixtures_endLead (e : Entry) : fixtures (endLead e s) = fixtures s := by
  unfold endLead
  split <;> simp

@[simp] theorem fixtures_liveAdvance (e : Entry) : fixtures (liveAdvance e s) = fixtures s := by
  unfold liveAdvance
  dsimp only
  split
  · simp
  · split
    · simp
    · split
      · split <;> simp
      · split <;> simp

@[simp] theorem fixtures_takeAdvance (n : Nat) (h : Byte) : fixtures (takeAdvance n h s) = fixtures s := by
  induction n generalizing h s with
  | zero => rfl
  | succ n ih =>
    unfold takeAdvance
    split
    · rfl
    · dsimp only
      split
      · split
        · simp
        · split <;> simp
      · split
        · split <;> simp [ih]
        · simp
      · simp
      · split
        · simp
        · split <;> simp [ih]
      · split
        · split
          · split <;> simp [ih]
          · simp
        · simp

@[simp] theorem fixtures_advanceIfDue (h : Byte) : fixtures (advanceIfDue s h) = fixtures s := by
  unfold advanceIfDue
  split
  · rfl
  · split <;> simp

@[simp] theorem fixtures_chimeEndReaches (h : Byte) : fixtures (chimeEndReaches h s) = fixtures s := by
  unfold chimeEndReaches
  split
  · rfl
  · split
    · rfl
    · split <;> simp

@[simp] theorem fixtures_takeVoice (v : Source) : fixtures (takeVoice s v) = fixtures s := by
  unfold takeVoice
  split
  · split <;> simp
  · rfl

@[simp] theorem fixtures_placeEntry (e : Entry) : fixtures (placeEntry e s) = fixtures s := by
  unfold placeEntry becomeActive
  split
  · simp
  · split
    · simp
    · rfl

@[simp] theorem fixtures_cutEntry (e : Entry) (hard : Bool) : fixtures (cutEntry e hard s) = fixtures s := by
  unfold cutEntry
  split <;> simp

@[simp] theorem fixtures_repress (e : Entry) : fixtures (repress e s) = fixtures s := by
  unfold repress
  split <;> simp

@[simp] theorem fixtures_releaseMic (m : Mic) : fixtures (releaseMic m s) = fixtures s := by
  unfold releaseMic
  split
  · rfl
  · split
    · rfl
    · split <;> simp

@[simp] theorem fixtures_loseAudience (h : Byte) : fixtures (loseAudience h s) = fixtures s := rfl

@[simp] theorem fixtures_gainAudience (h : Byte) : fixtures (gainAudience h s) = fixtures s := rfl

@[simp] theorem fixtures_dropFloorAudience (b : BerthNo) : fixtures (dropFloorAudience b s) = fixtures s := by
  unfold dropFloorAudience
  split <;> simp

@[simp] theorem fixtures_evaluateFloor (b : BerthNo) : fixtures (evaluateFloor b s) = fixtures s := by
  unfold evaluateFloor
  split
  · split
    · rfl
    · simp [changeFloor]
  · split
    · rfl
    · split <;> rfl

@[simp] theorem fixtures_mixBerth (micD micC : Block) (b : BerthNo) : fixtures (mixBerth micD micC s b) = fixtures s := by
  unfold mixBerth
  split
  · dsimp only
    split <;> simp
  · rfl

/-- A press may bring an entry into the table, but the programmes stay. -/
theorem programmes_pressMic (m : Mic) : (pressMic m s).media.programmes = s.media.programmes := by
  unfold pressMic
  split
  · rfl
  · split
    · rfl
    · exact programmes_of_fixtures (fixtures_repress s _)

theorem programmes_takeEdge (c : Contact) (v : Bool) : (takeEdge c v s).media.programmes = s.media.programmes := by
  unfold takeEdge handOnEdge
  split
  · exact programmes_pressMic _ _
  · exact programmes_pressMic _ _
  · unfold alarmPress setLatch
    split
    · split <;> rfl
    · rfl
  · exact programmes_of_fixtures (fixtures_releaseMic _ _)
  · exact programmes_of_fixtures (fixtures_releaseMic _ _)
  · rfl

end

end Sys2Proof.Machine
end

section
/-! PROOFS. Every step keeps lines, presence, lane fields, lanes and wait lists in agreement (O6), continued. -/

namespace Sys2Proof.Machine

/-! ## LanesHold as lines that agree with presence, and routes that are right -/

structure LinesAgree (s : State) : Prop where
  configOff : s.device = .config → ∀ l, (s.line l).state = .off
  openRunning : ∀ l, ((s.line l).slotOpen = true ∨ (s.line l).frameDue = true) → (s.line l).state = .running
  quietLine : ∀ b, (s.line (lineOf b)).state ≠ .running → s.presence b ≠ .present ∧ s.presence b ≠ .conflict
  fitted : ∀ b, s.presence b = .excluded ↔ (s.line (lineOf b)).fitted ≤ (slotOf b).val

theorem lanesHold_iff {s : State} : LanesHold s ↔ LinesAgree s ∧ RoutesBut (fun _ => False) s := by
  rw [routesBut_none_iff]
  exact ⟨fun h => ⟨⟨h.configOff, h.openRunning, h.quietLine, h.fitted⟩, h.fields, h.lanes, h.waits⟩,
    fun ⟨h, hf, hl, hw⟩ => ⟨h.configOff, h.openRunning, h.quietLine, h.fitted, hf, hl, hw⟩⟩

theorem LanesHold.routes {s : State} (h : LanesHold s) : RoutesBut (fun _ => False) s := (lanesHold_iff.1 h).2

theorem LanesHold.agree {s : State} (h : LanesHold s) : LinesAgree s := (lanesHold_iff.1 h).1

theorem wanted_congr_fields {s t : State} {b : BerthNo} (hpresence : t.presence b = s.presence b)
    (hpicture : (t.live b).picture = (s.live b).picture) (hprogramme : (t.live b).programme = (s.live b).programme)
    (hpictures : ∀ p, (t.programme p).picture = (s.programme p).picture) : wanted t b = wanted s b := by
  unfold wanted wantsLane
  rw [show (t.live b).presence = (s.live b).presence from hpresence, hpicture, hprogramme]
  simp only [hpictures]

/-- What a line says of itself to the rest: its state and fitted count, and whether a frame is due or its slot open. -/
theorem LinesAgree.congr {s t : State} (h : LinesAgree s) (hdevice : t.device = s.device)
    (hstate : ∀ l, (t.line l).state = (s.line l).state) (hfitted : ∀ l, (t.line l).fitted = (s.line l).fitted)
    (hopen : ∀ l, (t.line l).slotOpen = true ∨ (t.line l).frameDue = true →
      (s.line l).slotOpen = true ∨ (s.line l).frameDue = true)
    (hpresence : ∀ b, t.presence b = s.presence b) : LinesAgree t where
  configOff hconfig l := (hstate l).trans (h.configOff (hdevice ▸ hconfig) l)
  openRunning l hl := (hstate l).trans (h.openRunning l (hopen l hl))
  quietLine b hb := by
    rw [hstate] at hb
    rw [hpresence]
    exact h.quietLine b hb
  fitted b := by
    rw [hpresence, hfitted]
    exact h.fitted b

/-- A change of other parts of the state keeps LanesHold. -/
theorem lanesHold_of_same {s t : State} (h : LanesHold s) (hdevice : t.device = s.device) (hlines : t.lines = s.lines)
    (hlanes : t.lanes = s.lanes) (hberths : t.berths = s.berths)
    (hpictures : ∀ p, (t.programme p).picture = (s.programme p).picture) : LanesHold t := by
  have hline : ∀ l, t.line l = s.line l := fun l => congrArg (Table.get · l) hlines
  have hset : ∀ l, t.laneSet l = s.laneSet l := fun l => congrArg (Table.get · l) hlanes
  have hlive : ∀ b, t.live b = s.live b := fun b => congrArg (fun x => (Table.get x b).live) hberths
  refine lanesHold_iff.2 ⟨h.agree.congr hdevice (fun l => by rw [hline]) (fun l => by rw [hline]) (fun l => by rw [hline]; exact id)
    (fun b => congrArg LiveRecord.presence (hlive b)), h.routes.congr (fun l => by rw [hset]) (fun l => by rw [hset])
    (fun l n _ hq => by rw [hline]; exact hq) (fun b => by rw [hlive]) fun b _ => wanted_congr (by rw [hlive]) hpictures⟩

/-- Announcements, voices and the mix are no part of it. -/
theorem lanesHold_of_programmes {s t : State} (h : LanesHold s) (hdevice : t.device = s.device) (hlines : t.lines = s.lines)
    (hlanes : t.lanes = s.lanes) (hberths : t.berths = s.berths) (hprogrammes : t.media.programmes = s.media.programmes) :
    LanesHold t :=
  lanesHold_of_same h hdevice hlines hlanes hberths fun p => by
    rw [State.programme, hprogrammes]
    rfl

theorem lanesHold_raise {s : State} (h : LanesHold s) (e : Event) : LanesHold (raise e s) :=
  lanesHold_of_same h rfl rfl rfl rfl fun _ => rfl

/-! ## Presence (R4) -/

section
variable {s : State} {b : BerthNo}

/-- Any change of the live record of one berth that keeps its lane field starts a route change of it. -/
theorem routesBut_modLive (h : RoutesBut (fun _ => False) s) {f : LiveRecord → LiveRecord}
    (hf : (f (s.live b)).lane = (s.live b).lane) : RoutesBut (· = b) (s.modLive b f) := by
  refine (h.mono fun _ hF => hF.elim).congr (fun _ => rfl) (fun _ => rfl) (fun _ _ _ hq => hq) (fun c => ?_) fun c hc => ?_
  · rw [s.live_modLive]
    split
    next hbc => subst hbc; exact hf
    · rfl
  · refine wanted_congr ?_ fun _ => rfl
    rw [s.live_modLive, if_neg (Ne.symm hc)]

theorem RoutesBut.congr_frame {B : BerthNo → Prop} {s t : State} (h : RoutesBut B s) (hlines : t.lines = s.lines)
    (hlanes : t.lanes = s.lanes) (hberths : t.berths = s.berths) (hprogrammes : t.media.programmes = s.media.programmes) :
    RoutesBut B t := by
  have hlive : ∀ b, t.live b = s.live b := fun b => congrArg (fun x => (Table.get x b).live) hberths
  have hset : ∀ l, t.laneSet l = s.laneSet l := fun l => congrArg (Table.get · l) hlanes
  refine h.congr (fun l => by rw [hset]) (fun l => by rw [hset])
    (fun l n _ hq => by rw [show t.line l = s.line l from congrArg (Table.get · l) hlines]; exact hq)
    (fun b => by rw [hlive]) fun b _ => wanted_congr (by rw [hlive]) fun p => ?_
  rw [State.programme, hprogrammes]
  rfl

/-- Leaving PRESENT releases what the berth holds of the lanes. -/
theorem routesBut_leavesPresent (h : RoutesBut (· = b) s) :
    RoutesBut (· = b) (leavesPresent b s) ∧ ((leavesPresent b s).live b).lane = .none := by
  have hattrs : RoutesBut (· = b)
      (s.modLive b fun r => { r with attrs := putAttr (putAttr r.attrs attrOccupied false) attrHeadphone false }) := by
    refine h.congr (fun _ => rfl) (fun _ => rfl) (fun _ _ _ hq => hq) (fun c => ?_) fun c hc => ?_
    · rw [s.live_modLive]; split <;> rfl
    · refine wanted_congr ?_ fun _ => rfl
      rw [s.live_modLive, if_neg (Ne.symm hc)]
  have hlane := lane_releaseRoute (b := b) hattrs
  have hreleased := routesBut_releaseRoute hattrs
  unfold leavesPresent
  generalize releaseRoute b (s.modLive b fun r =>
    { r with attrs := putAttr (putAttr r.attrs attrOccupied false) attrHeadphone false }) = t at hlane hreleased ⊢
  obtain ⟨-, -, -, -, hberths, -, hlines, hlanes, hmedia, -⟩ := mixLeavesPresent_frame b t
  refine ⟨hreleased.congr_frame hlines hlanes hberths (by rw [hmedia]), ?_⟩
  rw [show (mixLeavesPresent b t).live b = t.live b from congrArg (fun x => (Table.get x b).live) hberths]
  exact hlane

/-- Entering PRESENT with no lane acquires what the berth wants. -/
theorem routesBut_entersPresent (h : RoutesBut (· = b) s) (hlane : (s.live b).lane = .none) :
    RoutesBut (fun _ => False) (entersPresent b s) := by
  have hmix : RoutesBut (· = b) (mixEntersPresent b s) := h.congr_frame rfl rfl rfl rfl
  have hclosed : ∀ {t}, RoutesBut (fun c => c = b ∧ c ≠ b) t → RoutesBut (fun _ => False) t :=
    fun ht => ht.mono fun _ ⟨heq, hne⟩ => hne heq
  unfold entersPresent
  dsimp only
  split
  · exact hclosed (routesBut_acquire hmix hlane)
  next hpicture =>
    refine hclosed (hmix.settled hlane (wanted_of_no_picture ?_))
    simpa using hpicture

theorem routesBut_notify (h : RoutesBut (fun _ => False) s) (v : Presence) : RoutesBut (fun _ => False) (notify v b s) := by
  unfold notify
  dsimp only
  split
  · exact h
  next hchanged =>
    have hlive : RoutesBut (· = b) (s.modLive b fun r => { r with presence := v }) := routesBut_modLive h rfl
    have hleft : RoutesBut (· = b) (if s.presence b = .present then leavesPresent b (s.modLive b fun r => { r with presence := v })
        else s.modLive b fun r => { r with presence := v }) ∧
        ((if s.presence b = .present then leavesPresent b (s.modLive b fun r => { r with presence := v })
        else s.modLive b fun r => { r with presence := v }).live b).lane = .none ∧
        (if s.presence b = .present then leavesPresent b (s.modLive b fun r => { r with presence := v })
        else s.modLive b fun r => { r with presence := v }).presence b = v := by
      split
      · obtain ⟨hroutes, hlane⟩ := routesBut_leavesPresent hlive
        refine ⟨hroutes, hlane, ?_⟩
        rw [presence_leavesPresent]
        exact congrArg LiveRecord.presence (s.live_modLive_same b _)
      next hp =>
        refine ⟨hlive, ?_, congrArg LiveRecord.presence (s.live_modLive_same b _)⟩
        rw [s.live_modLive_same]
        have hnone := wanted_of_not_present hp
        cases hl : (s.live b).lane with
        | none => rfl
        | lane n =>
          obtain ⟨p, hw, -⟩ := h.onLane b n not_false hl
          rw [hnone] at hw
          cases hw
        | waiting => exact absurd hnone (h.onWait b not_false hl).1
    obtain ⟨hroutes, hlane, hnow⟩ := hleft
    generalize (if s.presence b = .present then leavesPresent b (s.modLive b fun r => { r with presence := v })
        else s.modLive b fun r => { r with presence := v }) = t at hroutes hlane hnow ⊢
    have hentered : RoutesBut (fun _ => False) (if v = .present then entersPresent b t else t) := by
      split
      · exact routesBut_entersPresent hroutes hlane
      next hv =>
        exact (hroutes.settled hlane (wanted_of_not_present (hnow ▸ hv))).mono fun _ ⟨heq, hne⟩ => hne heq
    split
    · exact hentered
    · exact hentered.congr_frame rfl rfl rfl rfl

theorem line_fields_of_bare {x y : Line} (h : bare x = bare y) :
    x.state = y.state ∧ x.fitted = y.fitted ∧ x.slotOpen = y.slotOpen ∧ x.frameDue = y.frameDue :=
  ⟨state_of_bare h, fitted_of_bare h, slotOpen_of_bare h, frameDue_of_bare h⟩

/-- A presence notification keeps the agreement when the line allows the new presence. -/
theorem lanesHold_notify (h : LanesHold s) (v : Presence)
    (hquiet : (s.line (lineOf b)).state ≠ .running → v ≠ .present ∧ v ≠ .conflict)
    (hfitted : v = .excluded ↔ (s.line (lineOf b)).fitted ≤ (slotOf b).val) : LanesHold (notify v b s) := by
  refine lanesHold_iff.2 ⟨?_, routesBut_notify h.routes v⟩
  have hline := fun l => line_fields_of_bare (bare_line_notify v b s l)
  obtain ⟨hdevice, -⟩ := notify_frame v b s
  refine ⟨fun hconfig l => ?_, fun l hl => ?_, fun c hc => ?_, fun c => ?_⟩
  · rw [(hline l).1]; exact h.configOff (hdevice ▸ hconfig) l
  · obtain ⟨hstate, -, hopen, hdue⟩ := hline l
    rw [hopen, hdue] at hl
    rw [hstate]
    exact h.openRunning l hl
  · rw [(hline _).1] at hc
    rw [presence_notify]
    split
    next hbc => subst hbc; exact hquiet hc
    · exact h.quietLine c hc
  · rw [(hline _).2.1, presence_notify]
    split
    next hbc => subst hbc; exact hfitted
    · exact h.fitted c

/-! ## A line that leaves RUNNING (R34, R44) -/

theorem presence_dropBerths (bs : List BerthNo) (s : State) (c : BerthNo) :
    (forEach bs (fun t b => if t.presence b = .present ∨ t.presence b = .conflict then notify .absent b t else t) s).presence c =
      if c ∈ bs ∧ (s.presence c = .present ∨ s.presence c = .conflict) then .absent else s.presence c := by
  induction bs generalizing s with
  | nil => simp [forEach]
  | cons b bs ih =>
    refine (ih _).trans ?_
    have hstep : (if s.presence b = .present ∨ s.presence b = .conflict then notify .absent b s else s).presence c =
        if c = b ∧ (s.presence c = .present ∨ s.presence c = .conflict) then .absent else s.presence c := by
      by_cases hcb : c = b
      · subst hcb
        by_cases hp : s.presence c = .present ∨ s.presence c = .conflict
        · rw [if_pos hp, if_pos ⟨rfl, hp⟩, presence_notify, if_pos rfl]
        · rw [if_neg hp, if_neg fun hc => hp hc.2]
      · have hother : ∀ v, (notify v b s).presence c = s.presence c := fun v => by
          rw [presence_notify, if_neg (Ne.symm hcb)]
        simp only [hcb, false_and, if_false]
        split
        · exact hother _
        · rfl
    rw [hstep]
    by_cases hcb : c = b
    · subst hcb
      by_cases hp : s.presence c = .present ∨ s.presence c = .conflict
      · simp [hp]
      · simp [hp]
    · simp [hcb]

theorem presence_dropLine (l : LineNo) (s : State) (c : BerthNo) :
    (dropLine l s).presence c =
      if lineOf c = l ∧ (s.presence c = .present ∨ s.presence c = .conflict) then .absent else s.presence c := by
  refine (presence_dropBerths (berthsOf l) s c).trans ?_
  simp only [mem_berthsOf]

theorem bare_line_dropLine (l : LineNo) (s : State) (m : LineNo) : bare ((dropLine l s).line m) = bare (s.line m) := by
  refine forEach_keeps (fun t => bare (t.line m)) (fun t b => ?_) _ _
  split
  · exact bare_line_notify _ b t m
  · rfl

theorem routesBut_dropLine (h : RoutesBut (fun _ => False) s) (l : LineNo) : RoutesBut (fun _ => False) (dropLine l s) := by
  refine forEach_invariant _ _ (fun t b _ ht => ?_) h
  split
  · exact routesBut_notify ht _
  · exact ht

/-- A line stopped or faulted, once its berths have been dropped. -/
theorem lanesHold_dropLine (h : LanesHold s) {l : LineNo} {f : Line → Line} (hconfig : s.device = .config → (f (s.line l)).state = .off)
    (hfitted : (f (s.line l)).fitted = (s.line l).fitted) (hslot : (f (s.line l)).slotOpen = false)
    (hdue : (f (s.line l)).frameDue = false) (hqueues : (f (s.line l)).queues = (s.line l).queues) :
    LanesHold (dropLine l (s.modLine l f)) := by
  have hroutes : RoutesBut (fun _ => False) (s.modLine l f) := by
    refine h.routes.congr (fun _ => rfl) (fun _ => rfl) (fun m n _ hq => ?_) (fun _ => rfl) fun _ _ => rfl
    rw [s.line_modLine]
    split
    next hlm => subst hlm; rw [hqueues]; exact hq
    · exact hq
  refine lanesHold_iff.2 ⟨?_, routesBut_dropLine hroutes l⟩
  have hline := fun m => line_fields_of_bare (bare_line_dropLine l (s.modLine l f) m)
  obtain ⟨hdevice, -⟩ := dropLine_frame l (s.modLine l f)
  refine ⟨fun hc m => ?_, fun m hm => ?_, fun c hc => ?_, fun c => ?_⟩
  · rw [(hline m).1, s.line_modLine]
    have hc : s.device = .config := hdevice ▸ hc
    split
    next hlm => subst hlm; exact hconfig hc
    · exact h.configOff hc m
  · obtain ⟨hstate, -, hopen, hdue'⟩ := hline m
    rw [hopen, hdue', s.line_modLine] at hm
    rw [hstate, s.line_modLine]
    split at hm
    next hlm =>
      subst hlm
      rw [hslot, hdue] at hm
      simp at hm
    next hlm => rw [if_neg hlm]; exact h.openRunning m hm
  · rw [presence_dropLine]
    by_cases hcl : lineOf c = l
    · split
      · simp
      next hp => exact not_or.1 fun hboth => hp ⟨hcl, hboth⟩
    · rw [if_neg fun hboth => hcl hboth.1]
      rw [(hline _).1, s.line_modLine, if_neg (Ne.symm hcl)] at hc
      exact h.quietLine c hc
  · have hfit : ((dropLine l (s.modLine l f)).line (lineOf c)).fitted = (s.line (lineOf c)).fitted := by
      rw [(hline _).2.1, s.line_modLine]
      split
      next hlc => subst hlc; exact hfitted
      · rfl
    rw [hfit, ← h.fitted c, presence_dropLine]
    split
    next hp =>
      obtain ⟨-, hp⟩ := hp
      constructor
      · intro hcontra; cases hcontra
      · intro hex
        have hex : s.presence c = .excluded := hex
        rcases hp with hp | hp <;> rw [State.presence_modLine, hex] at hp <;> cases hp
    · exact Iff.rfl

theorem lanesHold_driveConflict (h : LanesHold s) (l : LineNo) : LanesHold (driveConflict l s) := by
  unfold driveConflict
  split
  next hrunning =>
    simp only [Bool.and_eq_true, beq_iff_eq] at hrunning
    have hnotConfig : s.device ≠ .config := fun hconfig => by
      have hoff := h.configOff hconfig l
      rw [hrunning.2] at hoff
      cases hoff
    exact lanesHold_raise (lanesHold_dropLine h
      (f := fun x => { quietLine .faulted x with faultCount := countTo byteMax x.faultCount })
      (fun hconfig => absurd hconfig hnotConfig) rfl rfl rfl rfl) _
  · exact h

end

/-! ## Changes of lines that keep presence and routes -/

/-- A change of lines that keeps fitted counts and empty send queues. -/
theorem lanesHold_setLines {s : State} (h : LanesHold s) {ls : Table Line lineCount}
    (hconfig : s.device = .config → ∀ l, (ls.get l).state = .off)
    (hopen : ∀ l, (ls.get l).slotOpen = true ∨ (ls.get l).frameDue = true → (ls.get l).state = .running)
    (hquiet : ∀ l, (ls.get l).state ≠ .running → (s.line l).state ≠ .running)
    (hfitted : ∀ l, (ls.get l).fitted = (s.line l).fitted)
    (hqueues : ∀ l n, (s.laneSet l).lanes.get n = .free → (s.line l).queues.get n = [] → (ls.get l).queues.get n = []) :
    LanesHold (s.setLines ls) := by
  refine lanesHold_iff.2 ⟨⟨hconfig, hopen, fun b hb => h.quietLine b (hquiet _ hb), fun b => ?_⟩,
    h.routes.congr (fun _ => rfl) (fun _ => rfl) hqueues (fun _ => rfl) fun _ _ => rfl⟩
  show s.presence b = .excluded ↔ (ls.get (lineOf b)).fitted ≤ _
  rw [hfitted]
  exact h.fitted b

theorem lanesHold_modLine {s : State} (h : LanesHold s) {l : LineNo} {f : Line → Line}
    (hstate : (f (s.line l)).state = (s.line l).state)
    (hopen : (f (s.line l)).slotOpen = true ∨ (f (s.line l)).frameDue = true → (s.line l).state = .running)
    (hfitted : (f (s.line l)).fitted = (s.line l).fitted)
    (hqueues : ∀ n, (s.laneSet l).lanes.get n = .free → (s.line l).queues.get n = [] → (f (s.line l)).queues.get n = []) :
    LanesHold (s.modLine l f) := by
  have hget : ∀ m, (s.lines.modify l f).get m = if l = m then f (s.line m) else s.line m := fun m => s.line_modLine l m f
  have hsame : ∀ m, ((s.lines.modify l f).get m).state = (s.line m).state := fun m => by
    rw [hget]
    split
    next hlm => subst hlm; exact hstate
    · rfl
  refine lanesHold_setLines h (fun hconfig m => (hsame m).trans (h.configOff hconfig m)) (fun m hm => ?_)
    (fun m hm => by rwa [hsame] at hm) (fun m => ?_) fun m n hfree hq => ?_
  · rw [hsame]
    rw [hget] at hm
    split at hm
    next hlm => subst hlm; exact hopen hm
    · exact h.openRunning m hm
  · rw [hget]
    split
    next hlm => subst hlm; exact hfitted
    · rfl
  · rw [hget]
    split
    next hlm => subst hlm; exact hqueues n hfree hq
    · exact hq

theorem lanesHold_modLinkOf {s : State} (h : LanesHold s) (b : BerthNo) (f : LinkRecord → LinkRecord) :
    LanesHold (s.modLinkOf b f) :=
  lanesHold_modLine h rfl (fun ho => h.openRunning _ ho) rfl fun _ _ hq => hq

theorem lanesHold_clearLinks {s : State} (h : LanesHold s) (l : LineNo) : LanesHold (clearLinks l s) :=
  lanesHold_modLine h rfl (fun ho => h.openRunning _ ho) rfl fun _ _ hq => hq

/-- A change of one live record that keeps presence, lane field and wish for a lane. -/
theorem lanesHold_modLive {s : State} (h : LanesHold s) {b : BerthNo} {f : LiveRecord → LiveRecord}
    (hf : (f (s.live b)).presence = (s.live b).presence ∧ (f (s.live b)).picture = (s.live b).picture ∧
      (f (s.live b)).programme = (s.live b).programme ∧ (f (s.live b)).lane = (s.live b).lane) :
    LanesHold (s.modLive b f) := by
  obtain ⟨hpresence, hpicture, hprogramme, hlane⟩ := hf
  have hread : ∀ {α : Type} (g : LiveRecord → α), g (f (s.live b)) = g (s.live b) → ∀ c, g ((s.modLive b f).live c) = g (s.live c) := by
    intro α g hg c
    rw [s.live_modLive]
    split
    next hbc => subst hbc; exact hg
    · rfl
  exact lanesHold_iff.2 ⟨h.agree.congr rfl (fun _ => rfl) (fun _ => rfl) (fun _ ho => ho) (hread LiveRecord.presence hpresence),
    h.routes.congr (fun _ => rfl) (fun _ => rfl) (fun _ _ _ hq => hq) (hread LiveRecord.lane hlane) fun c _ =>
      wanted_congr_fields (hread LiveRecord.presence hpresence c) (hread LiveRecord.picture hpicture c)
        (hread LiveRecord.programme hprogramme c) fun _ => rfl⟩

theorem lanesHold_writeSensed {s : State} (h : LanesHold s) (b : BerthNo) (o p : Bool) : LanesHold (writeSensed b o p s) :=
  lanesHold_modLive h ⟨rfl, rfl, rfl, rfl⟩

/-! ## Requests of berths (R23 to R25, R75) -/

theorem presence_applyRequest (s : State) (q : BerthRequest) (r : LiveRecord) : (applyRequest s q r).presence = r.presence := by
  unfold applyRequest
  split
  case h_1 => split <;> rfl
  case h_3 =>
    split
    · split <;> rfl
    · rfl
  all_goals rfl

theorem lanesHold_takeBerthRequest {s : State} (h : LanesHold s) (b : BerthNo) (q : BerthRequest) :
    LanesHold (takeBerthRequest b q s) := by
  unfold takeBerthRequest
  dsimp only
  split
  · exact h
  · have hpresence : ∀ c, (s.modLive b fun _ => applyRequest s q (s.live b)).presence c = s.presence c := fun c => by
      show ((s.modLive b fun _ => applyRequest s q (s.live b)).live c).presence = _
      rw [s.live_modLive]
      split
      next hbc => subst hbc; exact presence_applyRequest s q _
      · rfl
    have hagree : LinesAgree (s.modLive b fun _ => applyRequest s q (s.live b)) :=
      h.agree.congr rfl (fun _ => rfl) (fun _ => rfl) (fun _ ho => ho) hpresence
    have hroute : RoutesBut (· = b) (s.modLive b fun _ => applyRequest s q (s.live b)) :=
      routesBut_modLive h.routes (lane_applyRequest s q _)
    have hrouted : LanesHold (if s.presence b = .present ∧ ((applyRequest s q (s.live b)).programme ≠ (s.live b).programme ∨
        (applyRequest s q (s.live b)).picture ≠ (s.live b).picture)
        then routeChange b (s.modLive b fun _ => applyRequest s q (s.live b))
        else s.modLive b fun _ => applyRequest s q (s.live b)) := by
      split
      · obtain ⟨hdevice, -⟩ := routeChange_frame b (s.modLive b fun _ => applyRequest s q (s.live b))
        have hline := fun l => line_fields_of_bare (bare_line_routeChange b (s.modLive b fun _ => applyRequest s q (s.live b)) l)
        refine lanesHold_iff.2 ⟨hagree.congr hdevice (fun l => (hline l).1) (fun l => (hline l).2.1) (fun l ho => ?_)
          fun c => presence_of_rest (rest_live_routeChange b _ c), routesBut_routeChange hroute⟩
        obtain ⟨-, -, hopen, hdue⟩ := hline l
        rwa [hopen, hdue] at ho
      next hsame =>
        refine lanesHold_iff.2 ⟨hagree, h.routes.congr (fun _ => rfl) (fun _ => rfl) (fun _ _ _ hq => hq) (fun c => ?_) fun c _ => ?_⟩
        · rw [s.live_modLive]
          split
          next hbc => subst hbc; exact lane_applyRequest s q _
          · rfl
        · by_cases hbc : b = c
          · subst hbc
            by_cases hp : s.presence b = .present
            · have hboth := not_or.1 fun hne => hsame ⟨hp, hne⟩
              refine wanted_congr_fields (hpresence b) ?_ ?_ fun _ => rfl
              · rw [s.live_modLive_same]; exact not_not.1 hboth.2
              · rw [s.live_modLive_same]; exact not_not.1 hboth.1
            · rw [wanted_of_not_present hp, wanted_of_not_present (by rw [hpresence]; exact hp)]
          · refine wanted_congr ?_ fun _ => rfl
            rw [s.live_modLive, if_neg hbc]
    split
    · exact hrouted
    · exact lanesHold_of_same hrouted rfl rfl rfl rfl fun _ => rfl

theorem lanesHold_handOnRequest {s : State} (h : LanesHold s) (b : BerthNo) (q : BerthRequest) :
    LanesHold (handOnRequest b q s) := by
  unfold handOnRequest
  split
  · unfold takeCall
    split
    · exact h
    · exact lanesHold_of_same h rfl rfl rfl rfl fun _ => rfl
  · exact lanesHold_of_same h rfl rfl rfl rfl fun _ => rfl
  · exact lanesHold_takeBerthRequest h b q

/-! ## Reply slots (R35 to R41) -/

section
variable {s : State} (h : LanesHold s) {b : BerthNo} (hrunning : (s.line (lineOf b)).state = .running)
  (hfitted : (slotOf b).val < (s.line (lineOf b)).fitted)
include h hrunning hfitted

/-- A berth below the fitted count of a RUNNING line may become ABSENT, PRESENT or CONFLICT. -/
theorem lanesHold_notify_of_running {v : Presence} (hv : v ≠ .excluded) (f : LinkRecord → LinkRecord) :
    LanesHold (notify v b (s.modLinkOf b f)) := by
  have hsame : ((s.modLinkOf b f).line (lineOf b)).state = (s.line (lineOf b)).state ∧
      ((s.modLinkOf b f).line (lineOf b)).fitted = (s.line (lineOf b)).fitted := by
    rw [State.modLinkOf, s.line_modLine_same]
    exact ⟨rfl, rfl⟩
  refine lanesHold_notify (lanesHold_modLinkOf h b f) v (fun hne => absurd (hsame.1.trans hrunning) hne) ?_
  rw [hsame.2]
  exact ⟨fun hex => absurd hex hv, fun hle => absurd hfitted (Nat.not_lt.2 hle)⟩

theorem lanesHold_applyOutcome (o : Outcome) : LanesHold (applyOutcome b o s) := by
  have hlost : ∀ o, LanesHold (applyLost o b s) := fun o => by
    unfold applyLost
    dsimp only
    split
    · exact lanesHold_notify_of_running h hrunning hfitted (by simp) _
    · exact lanesHold_modLinkOf h b _
  unfold applyOutcome
  split
  · unfold applyCollision
    dsimp only
    split
    · exact lanesHold_notify_of_running h hrunning hfitted (by simp) _
    · exact lanesHold_modLinkOf h b _
  · split
    · unfold goodFromPresent
      have hsensed := fun o p => lanesHold_writeSensed (lanesHold_modLinkOf h b goodLink) b o p
      refine lanesHold_modLinkOf ?_ b _
      split
      · exact hsensed _ _
      · split
        · exact hsensed _ _
        · exact lanesHold_handOnRequest (hsensed _ _) b _
    · unfold goodFromAbsent putToggle
      rw [State.modLinkOf_modLinkOf]
      exact lanesHold_writeSensed (lanesHold_notify_of_running h hrunning hfitted (by simp) _) b _ _
  · exact hlost _
  · exact hlost _
  · exact hlost _

end

theorem lanesHold_completeSlot {s : State} (h : LanesHold s) (l : LineNo) (signal : SlotSignal) :
    LanesHold (completeSlot l signal s) := by
  unfold completeSlot
  split
  next hopen =>
    have hrunning := h.openRunning l (.inl hopen)
    have hclosed : LanesHold (s.modLine l fun x => { x with slotOpen := false }) :=
      lanesHold_modLine h rfl (fun _ => hrunning) rfl fun _ _ hq => hq
    dsimp only
    split
    next hexamined =>
      have hline : lineOf (slotBerth s l) = l := lineOf_berthAt l _
      simp only [slotExamined, Bool.and_eq_true, decide_eq_true_eq] at hexamined
      refine lanesHold_applyOutcome hclosed ?_ ?_ _
      · rw [hline, s.line_modLine_same]; exact hrunning
      · rw [hline, s.line_modLine_same, slotBerth, slotOf_berthAt]
        exact hexamined.1
    · exact hclosed
  · exact h

end Sys2Proof.Machine
end

section
/-! PROOFS. Every step keeps lines, presence, lane fields, lanes and wait lists in agreement (O6), concluded. -/

namespace Sys2Proof.Machine

/-! ## Berth records that keep their wishes -/

/-- A change of the berths that keeps presence, lane fields and what each berth wants. -/
theorem lanesHold_setBerths {s : State} (h : LanesHold s) {bs : Table Berth berthCount}
    (hpresence : ∀ b, (bs.get b).live.presence = (s.live b).presence) (hlane : ∀ b, (bs.get b).live.lane = (s.live b).lane)
    (hwanted : ∀ b, wanted (s.setBerths bs) b = wanted s b) : LanesHold (s.setBerths bs) :=
  lanesHold_iff.2 ⟨h.agree.congr rfl (fun _ => rfl) (fun _ => rfl) (fun _ ho => ho) hpresence,
    h.routes.congr (fun _ => rfl) (fun _ => rfl) (fun _ _ _ hq => hq) hlane fun b _ => hwanted b⟩

theorem live_mapBerths (s : State) (f : Berth → Berth) (b : BerthNo) :
    (s.setBerths (s.berths.map f)).live b = (f (s.berth b)).live :=
  congrArg Berth.live (Table.get_map ..)

theorem lanesHold_mapBerths {s : State} (h : LanesHold s) {f : Berth → Berth}
    (hf : ∀ x, (f x).live.presence = x.live.presence ∧ (f x).live.picture = x.live.picture ∧
      (f x).live.programme = x.live.programme ∧ (f x).live.lane = x.live.lane) : LanesHold (s.setBerths (s.berths.map f)) := by
  have hread : ∀ {α : Type} (g : LiveRecord → α), (∀ x, g (f x).live = g x.live) → ∀ b,
      g ((s.setBerths (s.berths.map f)).live b) = g (s.live b) :=
    fun g hg b => (congrArg g (live_mapBerths s f b)).trans (hg _)
  have hpresence := hread LiveRecord.presence fun x => (hf x).1
  exact lanesHold_setBerths h hpresence (hread LiveRecord.lane fun x => (hf x).2.2.2) fun b =>
    wanted_congr_fields (hpresence b) (hread LiveRecord.picture (fun x => (hf x).2.1) b)
      (hread LiveRecord.programme (fun x => (hf x).2.2.1) b) fun _ => rfl

theorem editBerth_keeps (z am : Byte) (m : TestMode) (o : EditOp) (d c : Nat) (x : Berth) :
    (editBerth z am m o d c x).live.presence = x.live.presence ∧ (editBerth z am m o d c x).live.picture = x.live.picture ∧
      (editBerth z am m o d c x).live.programme = x.live.programme ∧ (editBerth z am m o d c x).live.lane = x.live.lane := by
  unfold editBerth
  split
  · exact ⟨rfl, rfl, rfl, rfl⟩
  · exact ⟨rfl, rfl, rfl, rfl⟩

/-! ## A commit (R16, R76) -/

theorem presence_clampTrack (s : State) (r : LiveRecord) : (clampTrack s r).presence = r.presence := by
  unfold clampTrack
  split
  · rfl
  · split <;> rfl

theorem lane_clampTrack (s : State) (r : LiveRecord) : (clampTrack s r).lane = r.lane := by
  unfold clampTrack
  split
  · rfl
  · split <;> rfl

theorem presence_commitBerth (s : State) (x : Berth) : (commitBerth s x).live.presence = x.live.presence := by
  unfold commitBerth
  split
  · rfl
  · exact presence_clampTrack s _

theorem lane_commitBerth (s : State) (x : Berth) : (commitBerth s x).live.lane = x.live.lane := by
  unfold commitBerth
  split
  · rfl
  · exact lane_clampTrack s _

theorem mem_commitBatch {s : State} {b : BerthNo} : b ∈ commitBatch s ↔ routeMoves s (s.berth b) = true := by
  simp [commitBatch, allBerths]

theorem nodup_commitBatch (s : State) : (commitBatch s).Nodup := (List.nodup_finRange _).filter _

/-- A berth outside the batch keeps the programme and picture it wants a lane for. -/
theorem wanted_commitBerth {s : State} {b : BerthNo} (hb : b ∉ commitBatch s) :
    wanted (s.setBerths (s.berths.map (commitBerth s))) b = wanted s b := by
  have hlive := live_mapBerths s (commitBerth s) b
  have hpresence : (s.setBerths (s.berths.map (commitBerth s))).presence b = s.presence b :=
    (congrArg LiveRecord.presence hlive).trans (presence_commitBerth s _)
  by_cases hp : s.presence b = .present
  · rw [mem_commitBatch] at hb
    have hp : (s.berth b).live.presence = .present := hp
    simp only [routeMoves, hp, beq_self_eq_true, Bool.true_and, Bool.or_eq_true, bne_iff_ne, ne_eq, not_or, not_not] at hb
    obtain ⟨hprogramme, hpicture⟩ := hb
    exact wanted_congr_fields hpresence ((congrArg LiveRecord.picture hlive).trans hpicture)
      ((congrArg LiveRecord.programme hlive).trans hprogramme) fun _ => rfl
  · rw [wanted_of_not_present hp, wanted_of_not_present (by rw [hpresence]; exact hp)]

theorem lanesHold_carryOutCommit {s : State} (h : LanesHold s) : LanesHold (carryOutCommit s) := by
  unfold carryOutCommit
  dsimp only
  have hlive := live_mapBerths s (commitBerth s)
  have hroutes : RoutesBut (· ∈ commitBatch s) (s.setBerths (s.berths.map (commitBerth s))) :=
    (h.routes.mono fun _ hF => hF.elim).congr (fun _ => rfl) (fun _ => rfl) (fun _ _ _ hq => hq)
      (fun b => (congrArg LiveRecord.lane (hlive b)).trans (lane_commitBerth s _)) fun _ hb => wanted_commitBerth hb
  have hagree : LinesAgree (s.setBerths (s.berths.map (commitBerth s))) :=
    h.agree.congr rfl (fun _ => rfl) (fun _ => rfl) (fun _ ho => ho) fun b =>
      (congrArg LiveRecord.presence (hlive b)).trans (presence_commitBerth s _)
  have hbatched := routesBut_applyBatch (commitBatch s) (nodup_commitBatch s) hroutes
  generalize s.setBerths (s.berths.map (commitBerth s)) = t at hagree hbatched
  obtain ⟨hdevice, -⟩ := applyBatch_frame (commitBatch s) t
  have hline := fun l => line_fields_of_bare (bare_line_applyBatch (commitBatch s) t l)
  have hafter : LanesHold (applyBatch (commitBatch s) t) :=
    lanesHold_iff.2 ⟨hagree.congr hdevice (fun l => (hline l).1) (fun l => (hline l).2.1)
      (fun l ho => by
        obtain ⟨-, -, hopen, hdue⟩ := hline l
        rwa [hopen, hdue] at ho) fun b => presence_of_rest (rest_live_applyBatch _ _ b), hbatched⟩
  generalize applyBatch (commitBatch s) t = u at hafter
  have hcleared : LanesHold ((u.setCommitPending false).modBoundary fun v => { v with commitDue := false }) :=
    lanesHold_of_same hafter rfl rfl rfl rfl fun _ => rfl
  exact lanesHold_raise hcleared _

/-! ## Programmes (R52, R53) and picture packets (R76) -/

/-- With the part in CONFIG no berth is PRESENT, so no programme is wanted. -/
theorem wanted_of_config {s : State} (h : LanesHold s) (hconfig : s.device = .config) (b : BerthNo) : wanted s b = none := by
  have hquiet := h.quietLine b (by rw [h.configOff hconfig]; simp)
  exact wanted_of_not_present hquiet.1

theorem lanesHold_modProgramme {s : State} (h : LanesHold s) (p : ProgrammeNo) {f : Programme → Programme}
    (hf : (f (s.programme p)).picture = (s.programme p).picture) : LanesHold (s.modProgramme p f) :=
  lanesHold_of_same h rfl rfl rfl rfl fun q => by
    rw [s.programme_modProgramme]
    split
    next hpq => subst hpq; exact hf
    · rfl

theorem lanesHold_modProgramme_config {s : State} (h : LanesHold s) (hconfig : s.device = .config) (p : ProgrammeNo)
    (f : Programme → Programme) : LanesHold (s.modProgramme p f) :=
  lanesHold_iff.2 ⟨h.agree.congr rfl (fun _ => rfl) (fun _ => rfl) (fun _ ho => ho) fun _ => rfl,
    h.routes.congr (fun _ => rfl) (fun _ => rfl) (fun _ _ _ hq => hq) (fun _ => rfl) fun b _ => by
      have hnone := wanted_of_config h hconfig b
      have hpresent : s.presence b ≠ .present := (h.quietLine b (by rw [h.configOff hconfig]; simp)).1
      rw [hnone]
      exact wanted_of_not_present hpresent⟩

theorem lanesHold_dropTrackOne {s : State} (h : LanesHold s) (p : ProgrammeNo) : LanesHold (dropTrackOne p s) := by
  refine lanesHold_mapBerths h fun x => ?_
  split
  · exact ⟨rfl, rfl, rfl, rfl⟩
  · exact ⟨rfl, rfl, rfl, rfl⟩

theorem lanesHold_offerPacket {s : State} (h : LanesHold s) (pk : Packet) {l : LineNo} {n : LaneNo} {p : ProgrammeNo}
    (hcarried : carriedBy s l n = some p) : LanesHold (offerPacket pk l n s) := by
  unfold offerPacket
  dsimp only
  split
  · refine lanesHold_modLine h rfl (fun ho => h.openRunning l ho) rfl fun m hfree hq => ?_
    have hmn : n ≠ m := fun heq => by
      rw [heq, carriedBy_eq_none.2 hfree] at hcarried
      cases hcarried
    exact (Table.get_set_ne _ hmn _).trans hq
  · have hset : ∀ m, ((s.modLaneSet l fun ls => { ls with drops := ls.drops.modify n countHalf }).laneSet m).lanes =
        (s.laneSet m).lanes ∧ ((s.modLaneSet l fun ls => { ls with drops := ls.drops.modify n countHalf }).laneSet m).waits =
        (s.laneSet m).waits := fun m => by
      rw [s.laneSet_modLaneSet]
      split <;> exact ⟨rfl, rfl⟩
    have hagree : LinesAgree (s.modLaneSet l fun ls => { ls with drops := ls.drops.modify n countHalf }) :=
      h.agree.congr rfl (fun _ => rfl) (fun _ => rfl) (fun _ ho => ho) fun _ => rfl
    exact lanesHold_iff.2 ⟨hagree, h.routes.congr (fun m => (hset m).1) (fun m => (hset m).2) (fun _ _ _ hq => hq) (fun _ => rfl) fun _ _ => rfl⟩

theorem picture_countUnplaced (r : Programme) : (countUnplaced r).picture = r.picture := rfl

theorem lanesHold_forwardPicture {s : State} (h : LanesHold s) (p : ProgrammeNo) (pk : Packet) :
    LanesHold (forwardPicture p pk s) := by
  have hturns : LanesHold (forEach (List.finRange lineCount) (offerAtLine p pk) (s.modProgramme p countReceived)) := by
    refine forEach_invariant LanesHold _ (fun t l _ ht => ?_) (lanesHold_modProgramme h p rfl)
    unfold offerAtLine
    split
    next n hn =>
      unfold pictureLane at hn
      split at hn
      · exact lanesHold_offerPacket ht pk (carriedBy_of_carrierOf hn)
      · cases hn
    · exact ht
  have hunplaced := lanesHold_modProgramme hturns p (picture_countUnplaced _)
  rw [forwardPicture_eq_forEach]
  split
  · exact hturns
  · exact hunplaced

theorem lanesHold_modTrack {s : State} (h : LanesHold s) (p : ProgrammeNo) (t : TrackNo) (f : Track → Track) :
    LanesHold (s.modTrack p t f) :=
  lanesHold_modProgramme h p rfl

theorem lanesHold_modPort {s : State} (h : LanesHold s) (f : PortCounters → PortCounters) : LanesHold (s.modPort f) :=
  lanesHold_of_programmes h rfl rfl rfl rfl rfl

theorem lanesHold_recordedArrival {s : State} (h : LanesHold s) (k : Byte) (b : RecordedBlock) :
    LanesHold (recordedArrival k b s) := by
  unfold recordedArrival
  split
  · split
    · exact lanesHold_of_programmes h rfl rfl rfl rfl rfl
    · exact lanesHold_of_programmes h rfl rfl rfl rfl rfl
  · exact lanesHold_of_programmes h rfl rfl rfl rfl rfl

theorem lanesHold_arriveFrame {s : State} (h : LanesHold s) (f : EthernetFrame) : LanesHold (arriveFrame f s) := by
  unfold arriveFrame
  split
  · exact lanesHold_modPort h _
  · split
    · exact lanesHold_modPort h _
    · unfold takeMediaFrame
      dsimp only
      split
      · exact lanesHold_raise (lanesHold_modPort h _) _
      · exact lanesHold_modTrack h _ _ _
      · exact lanesHold_forwardPicture h _ _
      · exact lanesHold_recordedArrival h _ _

/-! ## Lines: set up, started, stopped, undriven, and sending -/

theorem lanesHold_lineSetup {s : State} (h : LanesHold s) {l : LineNo} {count : Nat} (hoff : (s.line l).state = .off) :
    LanesHold (clearLinks l (setupNotices count (berthsOf l) (storeFitted l count s))) := by
  have hquiet : ∀ b ∈ berthsOf l, OutOfUse s b := fun b hb => by
    obtain rfl := (mem_berthsOf l b).1 hb
    exact outOfUse_of_line_not_running h (by simp [hoff])
  have hberth := berth_setupNotices count (s := storeFitted l count s) hquiet
  have hu := setupNotices_eq_with count (s := storeFitted l count s) hquiet
  simp only [mem_berthsOf] at hberth
  refine lanesHold_clearLinks ?_ l
  generalize setupNotices count (berthsOf l) (storeFitted l count s) = u at hu hberth ⊢
  have hline : ∀ m, u.line m = if l = m then { s.line m with fitted := count } else s.line m := fun m => by
    rw [hu]
    exact s.line_modLine l m _
  have hlanes : u.lanes = s.lanes := by rw [hu]; rfl
  have hdevice : u.device = s.device := by rw [hu]; rfl
  have hmedia : u.media = s.media := by rw [hu]; rfl
  have hset : ∀ m, u.laneSet m = s.laneSet m := fun m => congrArg (Table.get · m) hlanes
  have hstate : ∀ m, (u.line m).state = (s.line m).state := fun m => by rw [hline]; split <;> rfl
  have hlive : ∀ b, u.live b = if lineOf b = l then { s.live b with presence := setupPresence count b } else s.live b :=
    fun b => by
      refine (congrArg Berth.live (hberth b)).trans ?_
      split <;> rfl
  have hlane : ∀ b, (u.live b).lane = (s.live b).lane := fun b => by
    rw [hlive]
    split <;> rfl
  have hpresence : ∀ b, u.presence b = if lineOf b = l then setupPresence count b else s.presence b := fun b => by
    rw [State.presence, hlive]
    split <;> rfl
  have hwanted : ∀ b, wanted u b = wanted s b := fun b => by
    by_cases hb : lineOf b = l
    · have hnot : s.presence b ≠ .present := (h.quietLine b (by rw [hb, hoff]; simp)).1
      have hnow : u.presence b ≠ .present := by
        rw [hpresence, if_pos hb, setupPresence]
        split <;> simp
      rw [wanted_of_not_present hnot, wanted_of_not_present hnow]
    · refine wanted_congr (congrArg rest ((hlive b).trans (if_neg hb))) fun p => ?_
      rw [State.programme, hmedia]
      rfl
  refine lanesHold_iff.2 ⟨⟨fun hconfig m => (hstate m).trans (h.configOff (hdevice ▸ hconfig) m), fun m ho => ?_,
    fun b hb => ?_, fun b => ?_⟩,
    h.routes.congr (fun m => by rw [hset]) (fun m => by rw [hset]) (fun m n _ hq => ?_) hlane fun b _ => hwanted b⟩
  · rw [hstate]
    refine h.openRunning m ?_
    rw [hline] at ho
    split at ho
    · exact ho
    · exact ho
  · rw [hstate] at hb
    rw [hpresence]
    split
    · unfold setupPresence
      split <;> simp
    · exact h.quietLine b hb
  · rw [hpresence, hline]
    by_cases hb : lineOf b = l
    · rw [if_pos hb, if_pos hb.symm, setupPresence]
      split
      next hlt => simpa using hlt
      next hle => simpa using hle
    · rw [if_neg hb, if_neg (Ne.symm hb)]
      exact h.fitted b
  · rw [hline]
    split
    · exact hq
    · exact hq

theorem lanesHold_lineRestart {s : State} (h : LanesHold s) (hrun : s.device ≠ .config) (l : LineNo) :
    LanesHold ((clearLinks l s).modLine l fun x => { x with framesSent := 0, state := .running }) := by
  have hcleared := lanesHold_clearLinks h l
  have hdevice : (clearLinks l s).device ≠ .config := hrun
  generalize clearLinks l s = t at hcleared hdevice
  have hget := t.line_modLine l (f := fun x => { x with framesSent := 0, state := .running })
  refine lanesHold_setLines hcleared (fun hconfig => absurd hconfig hdevice) (fun m ho => ?_) (fun m hm => ?_) (fun m => ?_)
    fun m n _ hq => ?_
  · show ((t.modLine l fun x => { x with framesSent := 0, state := .running }).line m).state = _
    rw [hget]
    have ho : ((t.modLine l fun x => { x with framesSent := 0, state := .running }).line m).slotOpen = true ∨
      ((t.modLine l fun x => { x with framesSent := 0, state := .running }).line m).frameDue = true := ho
    rw [hget] at ho
    split
    · rfl
    next hlm => exact hcleared.openRunning m (by rwa [if_neg hlm] at ho)
  · have hm : ((t.modLine l fun x => { x with framesSent := 0, state := .running }).line m).state ≠ .running := hm
    rw [hget] at hm
    split at hm
    · exact absurd rfl hm
    · exact hm
  · show ((t.modLine l fun x => { x with framesSent := 0, state := .running }).line m).fitted = _
    rw [hget]
    split <;> rfl
  · show ((t.modLine l fun x => { x with framesSent := 0, state := .running }).line m).queues.get n = _
    rw [hget]
    split
    · exact hq
    · exact hq

/-- A change of every line that keeps what it was set up with. -/
theorem lanesHold_mapLines {s : State} (h : LanesHold s) {f : Line → Line}
    (hf : ∀ x, (f x).state = x.state ∧ (f x).fitted = x.fitted ∧ (f x).queues = x.queues)
    (hopen : ∀ x, (f x).slotOpen = true ∨ (f x).frameDue = true → x.slotOpen = true ∨ x.state = .running) :
    LanesHold (s.setLines (s.lines.map f)) := by
  refine lanesHold_setLines h (fun hconfig l => ?_) (fun l ho => ?_) (fun l hl => ?_) (fun l => ?_) fun l n _ hq => ?_
  all_goals rw [Table.get_map] at *
  · exact (hf _).1.trans (h.configOff hconfig l)
  · refine (hf _).1.trans ?_
    rcases hopen _ ho with ho | hr
    · exact h.openRunning l (.inl ho)
    · exact hr
  · exact fun hr => hl ((hf _).1.trans hr)
  · exact (hf _).2.1
  · exact (congrArg (Table.get · n) (hf _).2.2).trans hq

theorem lanesHold_startRequest {s : State} (h : LanesHold s) (hconfig : s.device = .config) :
    LanesHold ((s.setDevice .run).setLines (s.lines.map startLine)) := by
  have hoff := h.configOff hconfig
  have hkeep : ∀ x : Line, (startLine x).slotOpen = x.slotOpen ∧ (startLine x).frameDue = x.frameDue ∧
      (startLine x).fitted = x.fitted ∧ (startLine x).queues = x.queues := fun x => by
    unfold startLine
    split <;> exact ⟨rfl, rfl, rfl, rfl⟩
  have hline : ∀ l, ((s.setDevice .run).setLines (s.lines.map startLine)).line l = startLine (s.line l) :=
    fun l => Table.get_map ..
  refine lanesHold_iff.2 ⟨⟨fun hc => ?_, fun l ho => ?_, fun b _ => h.quietLine b (by rw [hoff]; simp), fun b => ?_⟩,
    h.routes.congr (fun _ => rfl) (fun _ => rfl) (fun l n _ hq => ?_) (fun _ => rfl) fun _ _ => rfl⟩
  · cases hc
  · obtain ⟨hslot, hdue, -⟩ := hkeep (s.line l)
    rw [hline, hslot, hdue] at ho
    have hrunning := h.openRunning l ho
    rw [hoff l] at hrunning
    cases hrunning
  · obtain ⟨-, -, hfitted, -⟩ := hkeep (s.line (lineOf b))
    rw [hline, hfitted]
    exact h.fitted b
  · obtain ⟨-, -, -, hqueues⟩ := hkeep (s.line l)
    rw [hline, hqueues]
    exact hq

theorem lanesHold_sendFrame {s : State} (h : LanesHold s) (l : LineNo) : LanesHold (sendFrame s l) := by
  unfold sendFrame
  split
  next hdue =>
    simp only [Bool.and_eq_true, beq_iff_eq] at hdue
    obtain ⟨-, hrunning⟩ := hdue
    refine lanesHold_modLine h rfl (fun _ => hrunning) rfl fun n _ hq => ?_
    exact (Table.get_map ..).trans (by rw [hq]; rfl)
  · exact lanesHold_modLine h rfl (fun ho => h.openRunning l (ho.imp id fun hf => by cases hf)) rfl fun _ _ hq => hq

theorem lanesHold_beginBlock {s : State} (h : LanesHold s) : LanesHold (beginBlock s) := by
  have hlines := lanesHold_mapLines h (f := dueLine) (fun _ => ⟨rfl, rfl, rfl⟩)
    fun x ho => ho.imp id fun hdue => by simpa [dueLine] using hdue
  refine lanesHold_of_same hlines rfl rfl rfl rfl fun p => ?_
  show ((s.media.programmes.map dueProgramme).get p).picture = _
  rw [Table.get_map]
  rfl

/-! ## Every operation -/

theorem lanesHold_deviceReset (s : State) : LanesHold (deviceReset s) := by
  have hreset : LanesHold State.reset := lanesHold_of_check (by decide)
  exact lanesHold_of_same hreset rfl rfl rfl rfl fun _ => rfl

theorem lanesHold_request {work : State → Answer} (hw : HostWork work) {s : State} (h : LanesHold s) :
    LanesHold (work s).state := by
  cases hw
  case berthStage n x =>
    rcases berthStage_state n x s with heq | ⟨b, heq⟩ <;> rw [heq]
    · exact h
    · have hlive : ∀ c, (s.modStaged b (stageInto x)).live c = s.live c := fun c => by simp
      refine lanesHold_setBerths h (fun c => congrArg LiveRecord.presence (hlive c)) (fun c => congrArg LiveRecord.lane (hlive c))
        fun c => wanted_congr (congrArg rest (hlive c)) fun _ => rfl
  case stageDiscard =>
    rcases stageDiscard_state s with heq | heq <;> rw [heq]
    · exact h
    · exact lanesHold_mapBerths h fun _ => ⟨rfl, rfl, rfl, rfl⟩
  case commitRequest =>
    rcases commitRequest_state s with heq | heq <;> rw [heq]
    · exact h
    · exact lanesHold_of_same h rfl rfl rfl rfl fun _ => rfl
  case berthEdit z am md op d x =>
    rcases berthEdit_state z am md op d x s with heq | ⟨m, o, heq⟩ <;> rw [heq]
    · exact h
    · exact lanesHold_mapBerths h fun y => editBerth_keeps z am m o _ _ y
  case lineSetup n count =>
    rcases lineSetup_state n count s with heq | ⟨l, hfree, -, heq⟩ <;> rw [heq]
    · exact h
    · refine lanesHold_lineSetup h ?_
      cases hdevice : s.device with
      | config => exact h.configOff hdevice l
      | run => exact not_not.1 fun hne => hfree ⟨hdevice, hne⟩
  case lineRestart n =>
    rcases lineRestart_state n s with heq | ⟨l, hrun, heq⟩ <;> rw [heq]
    · exact h
    · exact lanesHold_lineRestart h hrun l
  case lineStop n =>
    rcases lineStop_state n s with heq | ⟨l, heq⟩ <;> rw [heq]
    · exact h
    · exact lanesHold_dropLine h (fun _ => rfl) rfl rfl rfl rfl
  case berthLinkClear n =>
    rcases berthLinkClear_state n s with heq | ⟨b, heq | ⟨hconflict, heq⟩⟩ <;> rw [heq]
    · exact h
    · exact lanesHold_modLinkOf h b _
    · have hrunning : (s.line (lineOf b)).state = .running := not_not.1 fun hne => (h.quietLine b hne).2 hconflict
      have hfitted : (slotOf b).val < (s.line (lineOf b)).fitted := Nat.not_le.1 fun hle => by
        have hex := (h.fitted b).2 hle
        rw [hconflict] at hex
        cases hex
      rw [State.modLinkOf_modLinkOf]
      exact lanesHold_notify_of_running h hrunning hfitted (by simp) _
  case programmeSetup p pic n t0 t1 c =>
    rcases programmeSetup_state p pic n t0 t1 c s with heq | ⟨q, hconfig, -, -, heq⟩ <;> rw [heq]
    · exact h
    · have hstored := lanesHold_modProgramme_config h hconfig q (setupProgramme pic n t0 t1 c)
      split
      · exact lanesHold_dropTrackOne hstored q
      · exact hstored
  case programmeTrim n x =>
    rcases programmeTrim_state n x s with heq | ⟨p, heq⟩ <;> rw [heq]
    · exact h
    · exact lanesHold_modProgramme h p rfl
  case announce x deadline =>
    rcases announce_state x deadline s with heq | ⟨p, -, -, -, heq⟩ <;> rw [heq]
    · exact h
    · obtain ⟨hdevice, -, -, hberths, -, hlines, hlanes, -⟩ :=
        placeEntry_frame (newEntry s .r p deadline.toNat) (countAdmission s)
      exact lanesHold_of_programmes h hdevice hlines hlanes hberths
        (programmes_of_fixtures (s := countAdmission s) (fixtures_placeEntry ..))
  case pttProfileSet n x =>
    rcases pttProfileSet_state n x s with heq | ⟨m, p, -, heq⟩ <;> rw [heq]
    · exact h
    · obtain ⟨hdevice, -, -, -, hberths, -, hlines, hlanes, hmedia, -⟩ := setProfile_frame m p s
      exact lanesHold_of_programmes h hdevice hlines hlanes hberths (by rw [hmedia])
  case cut k mode =>
    rcases cut_state k mode s with heq | ⟨e, hard, -, -, heq⟩ <;> rw [heq]
    · exact h
    · obtain ⟨hdevice, -, -, hberths, -, hlines, hlanes, -⟩ := cutEntry_frame e hard s
      exact lanesHold_of_programmes h hdevice hlines hlanes hberths (programmes_of_fixtures (fixtures_cutEntry ..))
  case chimeLoad n notes =>
    rcases chimeLoad_state n notes s with heq | ⟨p, stored, -, -, -, -, heq⟩ <;> rw [heq]
    · exact h
    · exact lanesHold_of_programmes h rfl rfl rfl rfl rfl
  case mixRead n clear =>
    rcases mixRead_state n clear s with heq | ⟨b, heq⟩ <;> rw [heq]
    · exact h
    · exact lanesHold_of_programmes h rfl rfl rfl rfl rfl
  case coachSet x =>
    rcases coachSet_state x s with heq | heq <;> rw [heq]
    · exact h
    · exact lanesHold_of_programmes h rfl rfl rfl rfl rfl
  case alarmRelease =>
    rcases alarmRelease_state s with heq | heq <;> rw [heq]
    · exact h
    · refine forEach_invariant LanesHold _ (fun t b _ ht => ?_) (lanesHold_of_programmes h rfl rfl rfl rfl rfl)
      obtain ⟨hdevice, -, -, -, hberths, -, hlines, hlanes, hmedia, -⟩ := alarmReleaseAt_frame b t
      exact lanesHold_of_programmes ht hdevice hlines hlanes hberths (by rw [hmedia])
  case callTake =>
    rcases callTake_state s with heq | heq <;> rw [heq]
    · exact h
    · exact lanesHold_of_programmes h rfl rfl rfl rfl rfl
  case callClear n =>
    rcases callClear_state n s with heq | ⟨b, heq⟩ <;> rw [heq]
    · exact h
    · exact lanesHold_of_programmes h rfl rfl rfl rfl rfl
  case startRequest =>
    rcases startRequest_state s with heq | ⟨hconfig, heq | heq⟩ <;> rw [heq]
    · exact h
    · exact lanesHold_startRequest h hconfig
    · have hstarted := lanesHold_startRequest h hconfig
      generalize (s.setDevice .run).setLines (s.lines.map startLine) = t at hstarted
      obtain ⟨hdevice, -, -, hberths, -, hlines, hlanes, hmedia, -⟩ := setLatch_frame t
      exact lanesHold_of_programmes hstarted hdevice hlines hlanes hberths (by rw [hmedia])
  case eventsClear v =>
    obtain ⟨f, heq⟩ := eventsClear_state v s
    rw [heq]; exact lanesHold_of_programmes h rfl rfl rfl rfl rfl
  case eventsEnable v =>
    obtain ⟨f, heq⟩ := eventsEnable_state v s
    rw [heq]; exact lanesHold_of_programmes h rfl rfl rfl rfl rfl
  all_goals simpa using h

theorem lanesHold_takeTrack {s : State} (h : LanesHold s) (p : ProgrammeNo) (k : TrackNo) : LanesHold (takeTrack p k s) := by
  unfold takeTrack
  dsimp only
  split
  · exact lanesHold_raise (lanesHold_modTrack h _ _ _) _
  · exact lanesHold_modTrack h _ _ _

/-- The agreement is kept by every operation, so by every command. -/
theorem commandsKeep_lanesHold : CommandsKeep LanesHold where
  flags _ _ hs := lanesHold_of_programmes hs rfl rfl rfl rfl rfl
  link _ _ _ hs := lanesHold_of_programmes hs rfl rfl rfl rfl rfl
  boundary _ _ hs := lanesHold_of_programmes hs rfl rfl rfl rfl rfl
  reset s _ := lanesHold_deviceReset s
  low s hs := lanesHold_of_same (lanesHold_mapLines hs (f := undrivenLine) (fun _ => ⟨rfl, rfl, rfl⟩)
    fun _ ho => ho.elim (fun hf => by cases hf) fun hf => by cases hf) rfl rfl rfl rfl fun _ => rfl
  request _ hw _ hs := lanesHold_request hw hs
  slot l signal _ hs := lanesHold_completeSlot hs l signal
  conflict l _ hs := lanesHold_driveConflict hs l
  media f _ hs := lanesHold_arriveFrame hs f
  edge c v s hs := by
    obtain ⟨hdevice, -, -, hberths, -, hlines, hlanes, -⟩ := takeEdge_frame c v s
    exact lanesHold_of_programmes hs hdevice hlines hlanes hberths (programmes_takeEdge s c v)
  sampled _ _ _ _ hs := lanesHold_of_programmes hs rfl rfl rfl rfl rfl
  begun _ hs := lanesHold_beginBlock hs
  commit _ hs := lanesHold_carryOutCommit hs
  track p k _ hs := lanesHold_takeTrack hs p k
  voice v s hs := by
    obtain ⟨hdevice, -, -, hberths, -, hlines, hlanes, -⟩ := takeVoice_frame v s
    exact lanesHold_of_programmes hs hdevice hlines hlanes hberths (programmes_of_fixtures (fixtures_takeVoice s v))
  advance k s hs := by
    obtain ⟨hdevice, -, -, hberths, -, hlines, hlanes, -⟩ := advanceIfDue_frame k s
    exact lanesHold_of_programmes hs hdevice hlines hlanes hberths (programmes_of_fixtures (fixtures_advanceIfDue s k))
  mixed micD micC b s hs := by
    obtain ⟨hdevice, -, -, hberths, -, hlines, hlanes, hmedia, -⟩ := mixBerth_frame micD micC b s
    exact lanesHold_of_programmes hs hdevice hlines hlanes hberths (by rw [hmedia])
  sent l _ hs := lanesHold_sendFrame hs l

/-- Settles O6: every operation keeps the agreement, a route change of a batch by leaving its berths out until their turn. -/
theorem everyStepKeepsLanes : Obligations.EveryStepKeepsLanes :=
  fun _ _ hs hstep => commandsKeep_lanesHold.step_keeps
    (fun _ _ h => lanesHold_of_programmes h rfl rfl rfl rfl rfl) hs hstep

end Sys2Proof.Machine
end

section
/-! PROOFS. The queue of commands (O1, O2), RESET_N low (O3), requests that wait (O4), and the state after a reset (O8,
O11). -/

namespace Sys2Proof.Machine

/-- Settles O1: both clauses are the two branches of a step. -/
theorem stepTakesFrontCommand : Obligations.StepTakesFrontCommand := by
  refine ⟨fun _ _ _ => rfl, fun s hempty => ?_⟩
  unfold step
  rw [hempty]

/-! ## What no host request changes -/

/-- A host request leaves the Control Link, RESET_N and the queue of commands alone. -/
theorem frame_of_hostWork {work : State → Answer} (hw : HostWork work) (s : State) :
    (work s).state.link = s.link ∧ (work s).state.resetLow = s.resetLow ∧ (work s).state.pending = s.pending := by
  cases hw
  case berthStage n x => rcases berthStage_state n x s with heq | ⟨b, heq⟩ <;> simp [heq]
  case stageDiscard => rcases stageDiscard_state s with heq | heq <;> simp [heq, emptyStaging]
  case commitRequest => rcases commitRequest_state s with heq | heq <;> simp [heq]
  case berthEdit z am md op d x => rcases berthEdit_state z am md op d x s with heq | ⟨m, o, heq⟩ <;> simp [heq]
  case lineSetup n count =>
    rcases lineSetup_state n count s with heq | ⟨l, -, -, heq⟩ <;> simp [heq, clearLinks, setupNotice]
  case lineRestart n => rcases lineRestart_state n s with heq | ⟨l, -, heq⟩ <;> simp [heq, clearLinks]
  case lineStop n => rcases lineStop_state n s with heq | ⟨l, heq⟩ <;> simp [heq]
  case berthLinkClear n =>
    rcases berthLinkClear_state n s with heq | ⟨b, heq | ⟨-, heq⟩⟩ <;> simp [heq, State.modLinkOf]
  case programmeSetup p pic n t0 t1 c =>
    rcases programmeSetup_state p pic n t0 t1 c s with heq | ⟨q, -, -, -, heq⟩
    · simp [heq]
    · rw [heq]
      split <;> simp [dropTrackOne]
  case programmeTrim n x => rcases programmeTrim_state n x s with heq | ⟨p, heq⟩ <;> simp [heq]
  case announce x deadline =>
    rcases announce_state x deadline s with heq | ⟨p, -, -, -, heq⟩ <;> simp [heq, countAdmission]
  case pttProfileSet n x => rcases pttProfileSet_state n x s with heq | ⟨m, p, -, heq⟩ <;> simp [heq]
  case cut k mode => rcases cut_state k mode s with heq | ⟨e, hard, -, -, heq⟩ <;> simp [heq]
  case chimeLoad n notes => rcases chimeLoad_state n notes s with heq | ⟨p, stored, -, -, -, -, heq⟩ <;> simp [heq]
  case mixRead n clear => rcases mixRead_state n clear s with heq | ⟨b, heq⟩ <;> simp [heq]
  case coachSet x => rcases coachSet_state x s with heq | heq <;> simp [heq]
  case alarmRelease => rcases alarmRelease_state s with heq | heq <;> simp [heq]
  case callTake => rcases callTake_state s with heq | heq <;> simp [heq]
  case callClear n => rcases callClear_state n s with heq | ⟨b, heq⟩ <;> simp [heq, dropCall]
  case startRequest => rcases startRequest_state s with heq | ⟨-, heq | heq⟩ <;> simp [heq]
  case eventsClear v =>
    obtain ⟨f, heq⟩ := eventsClear_state v s
    simp [heq]
  case eventsEnable v =>
    obtain ⟨f, heq⟩ := eventsEnable_state v s
    simp [heq]
  all_goals simp

/-! ## The queue of commands -/

theorem commandsKeep_pending (q : List Instr) : CommandsKeep fun t => t.pending = q where
  flags _ _ hs := hs
  link _ _ _ hs := hs
  boundary _ _ hs := hs
  reset _ hs := hs
  low _ hs := hs
  request _ hw s hs := (frame_of_hostWork hw s).2.2.trans hs
  slot l signal s hs := by simpa using hs
  conflict l s hs := by simpa using hs
  media f s hs := by simpa using hs
  edge c v s hs := by simpa using hs
  sampled _ _ _ _ hs := hs
  begun _ hs := hs
  commit s hs := by simpa [carryOutCommit] using hs
  track p k s hs := by simpa using hs
  voice v s hs := by simpa using hs
  advance h s hs := by simpa using hs
  mixed micD micC b s hs := by simpa using hs
  sent l s hs := by simpa using hs

/-- Settles O2: the queue's rest is no operation's to change. -/
theorem execKeepsQueue : Obligations.ExecKeepsQueue :=
  fun _ s _ hexec => (commandsKeep_pending s.pending).exec_keeps rfl hexec

/-! ## RESET_N low (R171) -/

theorem exec_of_low {c : Instr} {s : State} (hlow : s.resetLow = true) (hc : c ≠ .resetNHigh) : exec c s = .next s := by
  cases c
  case resetNHigh => exact absurd rfl hc
  all_goals exact congrArg Host.Outcome.next (whenUp_of_low hlow _)

/-- Settles O3: every command but the pin's return waits for RESET_N, and the pin going low is one change of state. -/
theorem resetNLowTakesNothing : Obligations.ResetNLowTakesNothing := by
  refine ⟨fun c s hlow hc => ⟨exec_of_low hlow hc, by simp [State.attn, hlow], by simp [State.ctlRtr, hlow]⟩,
    fun s hup => ⟨_, congrArg Host.Outcome.next (whenUp_of_up hup _), rfl, fun l => ?_⟩⟩
  exact Table.get_map ..

/-! ## Requests that wait for the replies before them (R168) -/

/-- A request's command carries out its owner's work; RESTART's own work is always DONE. -/
theorem exec_of_requestKind {c : Instr} {k : Byte} (h : requestKind c = some k) :
    ∃ work, HostWork work ∧ (k = restartKind → ∀ s, (work s).status = .done) ∧
      ∀ s, exec c s = .next (takeRequest k work s) := by
  cases c <;> cases h <;> refine ⟨_, ?_, ?_, fun _ => rfl⟩
  case restart.refl.refine_2 => exact fun _ _ => rfl
  all_goals first | constructor | exact fun hk => absurd hk (by decide)

theorem link_takeRecord (r : Record) (s : State) :
    (∃ rep flag, (takeRecord r s).link.tx = .sending rep flag) ∧ (takeRecord r s).link.buffer = s.link.buffer ∧
      (takeRecord r s).resetLow = s.resetLow := by
  unfold takeRecord
  split
  next kind st _ =>
    refine ⟨⟨_, _, rfl⟩, ?_, ?_⟩
    · simp only [linkRefusal, startReply, State.modLink]
      split <;> rfl
    · simp only [linkRefusal, startReply, State.modLink]
      split <;> rfl
  next kind work htaken =>
    have hw : HostWork work := hostWork_of_takenAs htaken
    obtain ⟨hlink, hlow, -⟩ := frame_of_hostWork hw s
    exact ⟨⟨_, _, rfl⟩, (show (startReply kind (work s)).link.buffer = (work s).state.link.buffer from rfl).trans
      (congrArg ControlLink.buffer hlink), hlow⟩

/-- Once the reply being sent has ended, what waits is carried out as before it ended. -/
theorem settle_sendEnds {s : State} {r : Reply} (h : s.link.tx = .sending r false) : settle (sendEnds s) = settle s := by
  have hends : sendEnds s = takeOldest (s.modLink fun k => { k with tx := .free }) := by simp only [sendEnds, h]
  have hsettle : settle s = settleFor s.link.buffer.length (sendEnds s) := by
    show settleFor (s.link.buffer.length + 1) s = _
    simp only [settleFor, h]
  rw [hsettle]
  cases hbuffer : s.link.buffer with
  | nil =>
    have hfree : (sendEnds s).link.tx = .free := by
      rw [hends]
      simp only [takeOldest, State.modLink, hbuffer]
    rw [settle_of_free hfree, settleFor_of_free hfree]
  | cons r rest =>
    have htaken : sendEnds s = takeRecord r ((s.modLink fun k => { k with tx := .free }).modLink fun k =>
        { k with buffer := rest }) := by
      rw [hends]
      simp only [takeOldest, State.modLink, hbuffer]
    obtain ⟨-, hrest, -⟩ := link_takeRecord r ((s.modLink fun k => { k with tx := .free }).modLink fun k =>
        { k with buffer := rest })
    rw [← htaken] at hrest
    show settleFor ((sendEnds s).link.buffer.length + 1) _ = _
    rw [hrest]
    rfl

theorem resetLow_sendEnds {s : State} {r : Reply} (h : s.link.tx = .sending r false) : (sendEnds s).resetLow = s.resetLow := by
  simp only [sendEnds, h]
  unfold takeOldest
  split
  · exact (link_takeRecord _ _).2.2
  · rfl

/-- Settles O4: settling sends the earlier replies one after the other, so one of them sent before makes no difference. -/
theorem requestsWaitForEarlierReplies : Obligations.RequestsWaitForEarlierReplies := by
  intro c k s hkind hup
  obtain ⟨work, hw, hrestart, hexec⟩ := exec_of_requestKind hkind
  refine ⟨fun r htx => ⟨sendEnds s, congrArg Host.Outcome.next (whenUp_of_up hup _), ?_⟩, fun hfree => ?_⟩
  · have hup' : Up (sendEnds s) := (resetLow_sendEnds htx).trans hup
    rw [hexec, hexec, takeRequest, takeRequest, whenUp_of_up hup, whenUp_of_up hup', settle_sendEnds htx]
  · obtain ⟨hlink, -, -⟩ := frame_of_hostWork hw s
    refine ⟨⟨k, statusCode (work s).status, (work s).body⟩, startReply k (work s), ?_, rfl, ?_⟩
    · rw [hexec, takeRequest_of_ready ⟨hup, hfree⟩]
    · have hflag : (k == restartKind && (work s).status == .done) = decide (k = 0x1E) := by
        by_cases hk : k = restartKind
        · rw [hrestart hk]
          simp [hk, restartKind]
        · rw [beq_eq_false_iff_ne.2 hk, decide_eq_false (show ¬ k = 0x1E from hk)]
          rfl
      unfold startReply
      rw [hflag, State.modLink_link, hlink]

/-! ## After a reset (R171) -/

theorem announcementsHold_reset : AnnouncementsHold State.reset := announcementsHold_of_check (by decide)

/-- Settles O8: the three invariants are decided on the reset state. -/
theorem invariantsHoldAtReset : Obligations.InvariantsHoldAtReset :=
  ⟨rangesHold_reset, lanesHold_of_check (by decide), announcementsHold_reset⟩

end Sys2Proof.Machine
end

section
/-! PROOFS. The other blocks after a device reset (O11), and COACH READ, STATUS READ and EVENTS READ (O16). -/

namespace Sys2Proof.Machine

/-- Settles O11: a reset writes these values. -/
theorem deviceResetOtherBlocks : Obligations.DeviceResetOtherBlocks := by
  refine afterDeviceReset_of fun s => ⟨⟨rfl, rfl, rfl, rfl, (by decide : State.reset.attn = true), fun e => ?_, ?_⟩, ?_, ?_, ⟨rfl, rfl⟩, ?_,
    ⟨rfl, rfl, rfl, rfl, rfl, rfl, rfl⟩, fun v => ?_, ?_, ?_, fun c => ?_, rfl, rfl, rfl, rfl, rfl, rfl⟩
  · rw [flag_deviceReset]; exact decide_eq_true_iff
  · exact (by decide : ∀ i, i < 13 → State.reset.events.enables.getLsbD i = true)
  · exact (by decide : ∀ p, let r := State.reset.programme p
      r.picture = false ∧ r.trackCount = 1 ∧ r.trim0 = 0 ∧ r.trim1 = 0 ∧ r.stillCard = 0 ∧ r.received = 0 ∧
        r.unplaced = 0)
  · exact (by decide : ∀ p k, let x := State.reset.track p k
      x.state = .idle ∧ x.expected = 0 ∧ (∀ i, x.slots.get i = none) ∧ x.lastGood = none ∧ x.concealUsed = false ∧
        x.missRun = 0 ∧ x.accepted = 0 ∧ x.concealed = 0 ∧ x.silent = 0 ∧ x.skipped = 0 ∧ x.late = 0)
  · exact (by decide : ∀ l, (State.reset.laneSet l).waits = [] ∧
      ∀ n, (State.reset.laneSet l).lanes.get n = .free ∧ (State.reset.laneSet l).drops.get n = 0)
  · cases v <;> rfl
  · exact ⟨rfl, rfl, rfl, rfl⟩
  · exact (by decide : ∀ b, let m := State.reset.mixOf b
      m.floor = none ∧ m.duckTarget = 0 ∧ m.gateTarget = 127 ∧ m.duckStep = 1 ∧ m.gateStep = 1 ∧ m.duck = 0 ∧
        m.gate = 127 ∧ m.lastAp = 127 ∧ m.lastAa = 127 ∧ m.lastAc = 127 ∧ m.clipFlag = false ∧ m.clipCount = 0)
  · cases c <;> rfl

theorem byteFlag_eq (v : Bool) : byteFlag v = [if v then 1 else 0] := by
  cases v <;> rfl

/-- Settles O16: each reply is the values it carries, one after the other. -/
theorem coachStatusAndEventsReads : Obligations.CoachStatusAndEventsReads := by
  intro s hready
  refine ⟨?_, ?_, ?_⟩
  · rw [exec_coachRead_of_ready hready]
    simp only [coachRead, byteFlag_eq, settingsBytes, byte1, List.cons_append, List.nil_append]
  · rw [exec_statusRead_of_ready hready]
    simp only [statusRead, byte1]
    cases s.device <;> rfl
  · rw [exec_eventsRead_of_ready hready]
    rfl

end Sys2Proof.Machine
end

section
/-! PROOFS. BERTH READ and MIX READ (O12), LINE READ, BERTH LINK READ and LANE READ (O13). -/

namespace Sys2Proof.Machine

/-! ## Replies made of pieces of one length -/

section
variable {α : Type} {f : α → List Byte} {m : Nat}

theorem length_flatMap_of_length {xs : List α} (h : ∀ x, (f x).length = m) : (xs.flatMap f).length = m * xs.length := by
  induction xs with
  | nil => rfl
  | cons x xs ih =>
    rw [List.flatMap_cons, List.length_append, h, ih, List.length_cons, Nat.mul_succ]
    omega

/-- The piece of the element at a place. -/
theorem take_drop_flatMap {xs : List α} (h : ∀ x, (f x).length = m) {i : Nat} {x : α} (hx : xs[i]? = some x) (rest : List Byte) :
    ((xs.flatMap f ++ rest).drop (m * i)).take m = f x := by
  induction xs generalizing i with
  | nil => cases hx
  | cons y ys ih =>
    rw [List.flatMap_cons, List.append_assoc]
    cases i with
    | zero =>
      cases hx
      rw [Nat.mul_zero, List.drop_zero, List.take_left' (h _)]
    | succ i =>
      rw [Nat.mul_succ, Nat.add_comm, ← List.drop_drop, List.drop_left' (h y)]
      exact ih hx

theorem drop_flatMap {xs : List α} (h : ∀ x, (f x).length = m) (rest : List Byte) :
    (xs.flatMap f ++ rest).drop (m * xs.length) = rest :=
  List.drop_left' (length_flatMap_of_length h)

end

/-- A part of a piece, when the piece stands at a place. -/
theorem take_drop_of_take_drop {bs piece : List Byte} {i m : Nat} (h : (bs.drop i).take m = piece) {j n : Nat}
    (hjn : j + n ≤ m) : (bs.drop (i + j)).take n = (piece.drop j).take n := by
  rw [← h, List.drop_take, List.take_take, List.drop_drop, Nat.min_eq_left (by omega)]

theorem getElem?_of_take_drop {bs piece : List Byte} {i m : Nat} (h : (bs.drop i).take m = piece) {j : Nat} (hj : j < m) :
    bs[i + j]? = piece[j]? := by
  rw [← h, List.getElem?_take_of_lt hj, List.getElem?_drop]

/-! ## The mask of present fields (R11) -/

theorem halfOf_ofNat (n : Nat) : halfOf (BitVec.ofNat 8 (n / 256)) (BitVec.ofNat 8 n) = BitVec.ofNat 16 n := by
  apply BitVec.eq_of_toNat_eq
  rw [toNat_halfOf]
  simp only [BitVec.toNat_ofNat]
  omega

theorem sum_zipIdx_succ (xs : List (Option Nat)) (i : Nat) :
    ((xs.zipIdx (i + 1)).map fun x => if x.1.isSome then 2 ^ x.2 else 0).sum =
      2 * ((xs.zipIdx i).map fun x => if x.1.isSome then 2 ^ x.2 else 0).sum := by
  induction xs generalizing i with
  | nil => rfl
  | cons x xs ih =>
    simp only [List.zipIdx_cons, List.map_cons, List.sum_cons, ih (i + 1)]
    split
    · rw [Nat.pow_succ, Nat.mul_add, Nat.mul_comm]
    · rw [Nat.zero_add, Nat.zero_add]

theorem maskOf_cons (x : Option Nat) (xs : List (Option Nat)) : maskOf (x :: xs) = 2 * maskOf xs + x.isSome.toNat := by
  unfold maskOf
  rw [List.zipIdx_cons, List.map_cons, List.sum_cons, sum_zipIdx_succ]
  cases x <;> simp [Nat.add_comm]

theorem testBit_maskOf (xs : List (Option Nat)) (k : Nat) : (maskOf xs).testBit k = (xs.getD k none).isSome := by
  induction xs generalizing k with
  | nil => simp [maskOf]
  | cons x xs ih =>
    rw [maskOf_cons]
    cases k with
    | zero => cases x <;> simp [Nat.testBit_zero, Nat.add_mod]
    | succ k =>
      rw [Nat.testBit_succ, Nat.mul_add_div (by decide), Nat.div_eq_of_lt (Bool.toNat_lt _), Nat.add_zero, ih]
      rfl

/-- The fields of a staged record as bytes. -/
theorem map_stagedFields (g : StagedRecord) : (stagedFields g).map (Option.map (BitVec.ofNat 8)) =
    [g.programme.map fun p => BitVec.ofNat 8 ((p.map (·.val)).getD 255),
      g.track.map fun k => BitVec.ofNat 8 k.val, g.picture.map fun v => if v then 1 else 0,
      g.volume.map fun v => BitVec.ofNat 8 v, g.zone.map fun z => BitVec.ofNat 8 z.val,
      g.language.map fun k => BitVec.ofNat 8 k.val, g.dnd.map fun v => if v then 1 else 0,
      g.lock.map fun v => if v then 1 else 0, g.tag0.map fun v => if v then 1 else 0,
      g.tag1.map fun v => if v then 1 else 0, g.tag2.map fun v => if v then 1 else 0,
      g.tag3.map fun v => if v then 1 else 0] := by
  have hflag : ∀ v : Option Bool, (v.map Bool.toNat).map (BitVec.ofNat 8) = v.map fun v => if v then 1 else 0 := by
    rintro (_ | _ | _) <;> rfl
  simp only [stagedFields, List.map_cons, List.map_nil, hflag, Option.map_map]
  rfl

theorem stagedBytes_eq (g : StagedRecord) : stagedBytes g =
    byte2 (maskOf (stagedFields g)) ++ ((stagedFields g).map (Option.map (BitVec.ofNat 8))).filterMap fun v => v := by
  rw [stagedBytes, List.filterMap_map]
  rfl

/-- Settles O12: the replies are the model's own fields written out; the mask is read bit by bit. -/
theorem berthAndMixReads : Obligations.BerthAndMixReads := by
  intro s n clear hready
  rw [exec_berthRead_of_ready hready, exec_mixRead_of_ready hready]
  refine ⟨fun hbeyond => ?_, fun b hb => ⟨?_, ?_⟩⟩
  · rw [berthRead, mixRead, carriedFin_of_le hbeyond]
    exact ⟨rfl, rfl⟩
  · refine ⟨BitVec.ofNat 8 (maskOf (stagedFields (s.staged b)) / 256), BitVec.ofNat 8 (maskOf (stagedFields (s.staged b))), ?_,
      fun k hk => ?_⟩
    · rw [berthRead, carriedFin_of_eq hb, ← map_stagedFields]
      simp only [berthBody, stagedBytes_eq, liveBytes, byteFlag_eq, byteOr255, byte1, byte2, List.cons_append, List.nil_append]
      rfl
    · rw [halfOf_ofNat, BitVec.getLsbD_ofNat, testBit_maskOf, ← map_stagedFields]
      have hlt : k < 16 := by omega
      simp only [hlt, decide_true, Bool.true_and, List.getD_eq_getElem?_getD, List.getElem?_map]
      cases (stagedFields (s.staged b))[k]? with
      | none => rfl
      | some v => cases v <;> rfl
  · rw [mixRead, carriedFin_of_eq hb]
    by_cases hclear : clear = 0
    · rw [if_pos hclear, hclear]
      simp only [mixBody, byteFlag_eq, byteOr255, byte1, byte2, byteHandle, List.cons_append, List.nil_append]
      rfl
    · have hflag : carriedFlag clear = true := by rw [carriedFlag_eq]; exact decide_eq_true hclear
      rw [if_neg hclear]
      simp only [hflag, if_true, mixBody, byteFlag_eq, byteOr255, byte1, byte2, byteHandle, List.cons_append,
        List.nil_append]
      rfl

/-! ## LINE READ, BERTH LINK READ and LANE READ (R43, R46, R82) -/

theorem getElem?_berthsOf (l : LineNo) (k : SlotNo) : (berthsOf l)[k.val]? = some (berthAt l k) := by
  rw [berthsOf, List.getElem?_map, List.getElem?_eq_getElem (by simp), List.getElem_finRange]
  rfl

/-- The six bytes of a lane. -/
theorem laneBytes_eq (s : State) (l : LineNo) (n : LaneNo) : laneBytes s l n =
    (match (s.laneSet l).lanes.get n with
      | .free => [0, 0xFF, 0]
      | .carrying p c => [1, BitVec.ofNat 8 p.val, BitVec.ofNat 8 c]) ++
    ([BitVec.ofNat 8 ((s.line l).queues.get n).length] ++ byte2 ((s.laneSet l).drops.get n)) := by
  unfold laneBytes
  cases (s.laneSet l).lanes.get n <;> rfl

theorem length_laneBytes (s : State) (l : LineNo) (n : LaneNo) : (laneBytes s l n).length = 6 := by
  rw [laneBytes_eq]
  cases (s.laneSet l).lanes.get n <;> rfl

/-- The two bytes of a slot in LINE READ's reply. -/
def slotPiece (s : State) (b : BerthNo) : List Byte :=
  [BitVec.ofNat 8 (codePresence (s.presence b)), if (s.linkOf b).errorSum then 1 else 0]

/-- The seven bytes of a line in LINE READ's reply. -/
def linePiece (x : Line) : List Byte :=
  [BitVec.ofNat 8 (codeLineState x.state), BitVec.ofNat 8 x.fitted] ++ byte4 x.framesSent.toNat ++ [BitVec.ofNat 8 x.faultCount]

theorem lineRead_of_eq {n : Byte} {l : LineNo} (hl : n.toNat = l.val) (s : State) :
    lineRead n s = ⟨.done, linePiece (s.line l) ++ (berthsOf l).flatMap (slotPiece s), s⟩ := by
  rw [lineRead, carriedFin_of_eq hl]
  have hpiece : (fun b => byte1 (codePresence (s.presence b)) ++ byteFlag (s.linkOf b).errorSum) = slotPiece s :=
    funext fun b => by rw [byteFlag_eq]; rfl
  dsimp only
  rw [hpiece]
  rfl

theorem laneRead_of_eq {n : Byte} {l : LineNo} (hl : n.toNat = l.val) (s : State) :
    laneRead n s = ⟨.done, (List.finRange laneCount).flatMap (laneBytes s l) ++
      (BitVec.ofNat 8 (s.laneSet l).waits.length :: (s.laneSet l).waits.map fun b => BitVec.ofNat 8 b.val), s⟩ := by
  rw [laneRead, carriedFin_of_eq hl, List.map_eq_flatMap]
  dsimp only
  rw [List.append_assoc]
  rfl

theorem slots_of_lineRead (s : State) (l : LineNo) (k : SlotNo) :
    (linePiece (s.line l) ++ (berthsOf l).flatMap (slotPiece s))[7 + 2 * k.val]? =
        some (BitVec.ofNat 8 (codePresence (s.presence (berthAt l k)))) ∧
      (linePiece (s.line l) ++ (berthsOf l).flatMap (slotPiece s))[8 + 2 * k.val]? =
        some (if (s.linkOf (berthAt l k)).errorSum then 1 else 0) := by
  have hpiece := take_drop_flatMap (f := slotPiece s) (m := 2) (fun _ => rfl) (getElem?_berthsOf l k) []
  rw [List.append_nil] at hpiece
  have hskip : ∀ i, (linePiece (s.line l) ++ (berthsOf l).flatMap (slotPiece s))[7 + i]? = ((berthsOf l).flatMap (slotPiece s))[i]? :=
    fun i => by
      rw [List.getElem?_append_right (Nat.le_add_right 7 i)]
      exact congrArg (fun j => ((berthsOf l).flatMap (slotPiece s))[j]?) (Nat.add_sub_cancel_left 7 i)
  constructor
  · rw [hskip]
    exact getElem?_of_take_drop hpiece (j := 0) (by decide)
  · rw [show 8 + 2 * k.val = 7 + (2 * k.val + 1) by omega, hskip]
    exact getElem?_of_take_drop hpiece (j := 1) (by decide)

theorem lane_of_laneRead (s : State) (l : LineNo) (m : LaneNo) (rest : List Byte) :
    (((List.finRange laneCount).flatMap (laneBytes s l) ++ rest).drop (6 * m.val)).take 6 = laneBytes s l m :=
  take_drop_flatMap (length_laneBytes s l) (by rw [List.getElem?_eq_getElem (by simp), List.getElem_finRange]; rfl) rest

/-- Settles O13: the pieces of each reply, at their places. -/
theorem lineLinkAndLaneReads : Obligations.LineLinkAndLaneReads := by
  intro s n hready
  rw [exec_lineRead_of_ready hready, exec_laneRead_of_ready hready, exec_berthLinkRead_of_ready hready]
  refine ⟨fun hbeyond => ?_, fun hbeyond => ?_, fun l hl => ⟨?_, ?_⟩, fun b hb => ?_⟩
  · rw [lineRead, laneRead, carriedFin_of_le hbeyond]
    exact ⟨rfl, rfl⟩
  · rw [berthLinkRead, carriedFin_of_le hbeyond]
    rfl
  · rw [lineRead_of_eq hl]
    refine ⟨_, rfl, ?_, List.take_left' rfl, slots_of_lineRead s l⟩
    rw [List.length_append, length_flatMap_of_length (f := slotPiece s) (m := 2) fun _ => rfl]
    rfl
  · rw [laneRead_of_eq hl]
    have hlane := fun m => lane_of_laneRead s l m
      (BitVec.ofNat 8 (s.laneSet l).waits.length :: (s.laneSet l).waits.map fun b => BitVec.ofNat 8 b.val)
    refine ⟨_, rfl, fun m p c hm => ?_, fun m hm => ?_, fun m => ?_,
      drop_flatMap (xs := List.finRange laneCount) (length_laneBytes s l) _⟩
    · have h := take_drop_of_take_drop (hlane m) (j := 0) (n := 3) (by decide)
      rw [Nat.add_zero, laneBytes_eq, hm] at h
      exact h
    · have h := take_drop_of_take_drop (hlane m) (j := 0) (n := 3) (by decide)
      rw [Nat.add_zero, laneBytes_eq, hm] at h
      exact h
    · have h := take_drop_of_take_drop (hlane m) (j := 3) (n := 3) (by decide)
      rw [laneBytes_eq] at h
      refine h.trans ?_
      cases (s.laneSet l).lanes.get m <;> rfl
  · rw [berthLinkRead, carriedFin_of_eq hb]
    simp only [byteFlag_eq, LinkRecord.errorSum, byte1, List.cons_append, List.nil_append]

end Sys2Proof.Machine
end

section
/-! PROOFS. PROGRAMME READ and CHIME READ (O14), ANNOUNCEMENT READ and FINISHED READ (O15). -/

namespace Sys2Proof

theorem Table.getElem?_cells {α : Type} {n : Nat} (t : Table α n) (i : Fin n) : t.cells[i.val]? = some (t.get i) := by
  rw [List.getElem?_eq_getElem (by rw [t.size]; exact i.isLt)]
  rfl

end Sys2Proof

namespace Sys2Proof.Machine

/-! ## PROGRAMME READ and CHIME READ (R54, R143) -/

theorem slotBytes_eq (t : Track) : t.slots.cells.flatMap (fun x => byteFlag x.isSome) =
    (List.finRange jitterSlots).map fun i => if (t.slots.get i).isSome then 1 else 0 := by
  rw [Table.cells_eq, List.flatMap_map, List.map_eq_flatMap]
  exact List.flatMap_congr fun i _ => byteFlag_eq _

/-- The nineteen bytes of a track. -/
theorem trackBytes_eq (t : Track) : trackBytes t =
    [BitVec.ofNat 8 (codeTrackState t.state), t.expected] ++
      ((List.finRange jitterSlots).map fun i => if (t.slots.get i).isSome then 1 else 0) ++
      ([if t.lastGood.isSome then 1 else 0, if t.concealUsed then 1 else 0, BitVec.ofNat 8 t.missRun] ++
        byte2 t.accepted.toNat ++ byte2 t.concealed ++ byte2 t.silent ++ byte2 t.skipped ++ byte2 t.late) := by
  unfold trackBytes
  rw [slotBytes_eq]
  simp only [byteFlag_eq, byte1, List.append_assoc, List.cons_append, List.nil_append]

theorem length_trackBytes (t : Track) : (trackBytes t).length = 19 := by
  rw [trackBytes_eq]
  rfl

/-- The nine bytes of a programme ahead of its tracks. -/
def programmePiece (r : Programme) : List Byte :=
  [if r.picture then 1 else 0, BitVec.ofNat 8 r.trackCount, BitVec.ofNat 8 r.trim0, BitVec.ofNat 8 r.trim1,
    BitVec.ofNat 8 r.stillCard] ++ byte2 r.received.toNat ++ byte2 r.unplaced.toNat

theorem programmeBody_eq (r : Programme) : programmeBody r = programmePiece r ++ r.tracks.cells.flatMap trackBytes := by
  unfold programmeBody programmePiece
  simp only [byteFlag_eq, byte1, List.append_assoc, List.cons_append, List.nil_append]

theorem track_of_programmeBody (r : Programme) (k : TrackNo) :
    ((programmeBody r).drop (9 + 19 * k.val)).take 19 = trackBytes (r.tracks.get k) := by
  have h := take_drop_flatMap length_trackBytes (r.tracks.getElem?_cells k) []
  rw [List.append_nil] at h
  rw [programmeBody_eq, ← List.drop_drop, List.drop_left' (show (programmePiece r).length = 9 from rfl)]
  exact h

theorem programmeRead_of_eq {n : Byte} {p : ProgrammeNo} (hp : n.toNat = p.val) (s : State) :
    programmeRead n s = ⟨.done, programmeBody (s.programme p), s⟩ := by
  have hne : n ≠ 0xFF := fun h => by
    have := p.isLt
    rw [h] at hp
    simp [programmeCount] at *
    omega
  rw [programmeRead, if_neg hne, carriedFin_of_eq hp]

/-- The eight bytes of a voice. -/
def voicePiece (v : Voice) : List Byte :=
  match v.playing with
  | none => [0, 0, 0, 0, 0, 0, 0, 0]
  | some q => [1, q.entry, BitVec.ofNat 8 q.pattern.val, BitVec.ofNat 8 q.noteIndex] ++ byte2 q.blocksInto ++
      [BitVec.ofNat 8 q.samplePhase, BitVec.ofNat 8 q.env]

theorem voiceBytes_eq (v : Voice) : voiceBytes v = voicePiece v := by
  unfold voiceBytes voicePiece
  cases v.playing <;> rfl

theorem length_voicePiece (v : Voice) : (voicePiece v).length = 8 := by
  unfold voicePiece
  cases v.playing <;> rfl

/-- CHIME READ's reply: the notes' count, the notes, and the three voices. -/
theorem chimeRead_of_eq {n : Byte} {p : PatternNo} (hp : n.toNat = p.val) (s : State) :
    chimeRead n s = ⟨.done, [BitVec.ofNat 8 (s.chimes.patterns.get p).length] ++ ((s.chimes.patterns.get p).flatMap noteBytes ++
      [Source.d, Source.c, Source.r].flatMap fun v => voicePiece (s.voice v)), s⟩ := by
  rw [chimeRead, carriedFin_of_eq hp]
  simp only [voiceBytes_eq, List.flatMap_cons, List.flatMap_nil, List.append_nil, List.append_assoc]
  rfl

theorem getElem?_sources (v : Source) : [Source.d, Source.c, Source.r][codeSource v]? = some v := by
  cases v <;> rfl

/-- Settles O14: the pieces of each reply, at their places. -/
theorem programmeAndChimeReads : Obligations.ProgrammeAndChimeReads := by
  intro s n hready
  rw [exec_programmeRead_of_ready hready, exec_chimeRead_of_ready hready]
  refine ⟨fun hbeyond hall => ?_, fun hbeyond => ?_, fun p hp => ?_, fun hall => ?_, fun p hp => ?_⟩
  · rw [programmeRead, if_neg hall, carriedFin_of_le hbeyond]
    rfl
  · rw [chimeRead, carriedFin_of_le hbeyond]
    rfl
  · rw [programmeRead_of_eq hp]
    refine ⟨_, rfl, ?_, ?_, fun k => ?_⟩
    · rw [programmeBody_eq, List.length_append, length_flatMap_of_length length_trackBytes, Table.size]
      rfl
    · rw [programmeBody_eq]
      exact List.take_left' rfl
    · have htrack := track_of_programmeBody (s.programme p) k
      rw [trackBytes_eq] at htrack
      refine ⟨?_, ?_, ?_⟩
      · exact take_drop_of_take_drop htrack (j := 0) (n := 2) (by decide)
      · have h := take_drop_of_take_drop htrack (j := 2) (n := 4) (by decide)
        rw [show 9 + 19 * k.val + 2 = 11 + 19 * k.val by omega] at h
        exact h
      · have h := take_drop_of_take_drop htrack (j := 6) (n := 13) (by decide)
        rw [show 9 + 19 * k.val + 6 = 15 + 19 * k.val by omega] at h
        exact h
  · rw [programmeRead, if_pos hall]
    simp only [portBody, byteHandle, byte1, List.append_assoc]
    rfl
  · rw [chimeRead_of_eq hp]
    have hnote : ∀ x, (noteBytes x).length = 6 := fun _ => rfl
    have hvoice : ∀ v, (voicePiece (s.voice v)).length = 8 := fun v => length_voicePiece _
    refine ⟨_, rfl, rfl, ?_, fun i x hx => ?_, fun v => ?_⟩ <;> dsimp only
    · rw [List.length_append, List.length_append, length_flatMap_of_length hnote, length_flatMap_of_length hvoice]
      simp only [List.length_cons, List.length_nil]
      omega
    · rw [← List.drop_drop, List.singleton_append, List.drop_one, List.tail_cons]
      exact take_drop_flatMap hnote hx _
    · rw [← List.drop_drop, ← List.drop_drop, List.singleton_append, List.drop_one, List.tail_cons, drop_flatMap hnote]
      have h := take_drop_flatMap hvoice (getElem?_sources v) []
      rw [List.append_nil] at h
      exact h

/-! ## ANNOUNCEMENT READ and FINISHED READ (R101, R119, R180) -/

/-- An entry of the table in ANNOUNCEMENT READ's reply. -/
def entryPiece (s : State) (e : Entry) : List Byte :=
  [0, e.handle, BitVec.ofNat 8 (codeSource e.source), BitVec.ofNat 8 e.params.cls, e.params.zones, e.params.attrMask,
    BitVec.ofNat 8 (codeMode e.params.mode), BitVec.ofNat 8 ((e.params.chime.map (·.val)).getD 255),
    BitVec.ofNat 8 e.params.duck, BitVec.ofNat 8 e.params.attack, BitVec.ofNat 8 e.params.release,
    BitVec.ofNat 8 e.params.level, BitVec.ofNat 8 e.params.card] ++ byte2 e.params.lead ++ byte2 e.params.tail ++
    byte2 e.params.maxLive ++ byte2 e.deadline ++ byte4 e.admission.toNat ++ [BitVec.ofNat 8 (codePhase e.phase)] ++
    byte2 e.timer ++ byte2 e.liveCount ++ [BitVec.ofNat 8 e.audience, BitVec.ofNat 8 e.peak,
    if e.earlyRelease then 1 else 0, BitVec.ofNat 8 ((e.endReason.map codeEndReason).getD 0)] ++
    byte2 e.starvation ++ [BitVec.ofNat 8 (queuePosition s e.handle)]

theorem entryBytes_eq (s : State) (e : Entry) : byte1 0 ++ entryBytes s e = entryPiece s e := by
  unfold entryBytes entryPiece paramsBytes
  simp only [byteFlag_eq, byteOr255, byte1, List.append_assoc, List.cons_append, List.nil_append]
  rfl

theorem readHandle_of_entry {s : State} {h : Byte} {e : Entry} (he : s.entry? h = some e) :
    readHandle h s = ⟨.done, entryPiece s e, s⟩ := by
  rw [readHandle, he, ← entryBytes_eq]

theorem readHandle_of_finished {s : State} {h : Byte} (hnone : s.entry? h = none) {r : FinishedRecord}
    (hr : (s.ann.finished.find? fun r => r.handle = h) = some r) : readHandle h s = ⟨.done, byte1 1 ++ finishedBytes r, s⟩ := by
  rw [readHandle, hnone]
  dsimp only
  rw [hr]

theorem readHandle_of_absent {s : State} {h : Byte} (hnone : s.entry? h = none)
    (hr : (s.ann.finished.find? fun r => r.handle = h) = none) : readHandle h s = refuse .notFound s := by
  rw [readHandle, hnone]
  dsimp only
  rw [hr]

theorem readSource_of_entry {s : State} {v : Source} {e : Entry} (he : s.active? v = some e) :
    readSource v s = ⟨.done, entryPiece s e, s⟩ := by
  rw [readSource, he, ← entryBytes_eq]

theorem readSource_of_absent {s : State} {v : Source} (hnone : s.active? v = none) :
    readSource v s = refuse .notFound s := by
  rw [readSource, hnone]

theorem carriedSource_eq_some {c : Byte} {v : Source} : carriedSource c = some v ↔ c.toNat = codeSource v := by
  unfold carriedSource
  split
  case h_1 h => rw [h]; cases v <;> simp [codeSource]
  case h_2 h => rw [h]; cases v <;> simp [codeSource]
  case h_3 h => rw [h]; cases v <;> simp [codeSource]
  case h_4 h0 h1 h2 => cases v <;> simp [codeSource] <;> assumption

theorem carriedSource_of_le {c : Byte} (h : 3 ≤ c.toNat) : carriedSource c = none := by
  cases hv : carriedSource c with
  | none => rfl
  | some v =>
    rw [carriedSource_eq_some.1 hv] at h
    cases v <;> simp [codeSource] at h

theorem length_packedRecord (r : FinishedRecord) : (packedRecord r).length = 9 := rfl

/-- Source, class and end reason in one byte (R180). -/
theorem packed_fields {k c e : Nat} (hk : k ≤ 2) (hc : c ≤ 3) (he : e ≤ 7) :
    let packed := BitVec.ofNat 8 (k * 64 + c * 16 + e)
    packed.toNat / 64 = k ∧ packed.toNat / 16 % 4 = c ∧ packed.getLsbD 3 = false ∧ packed.toNat % 8 = e := by
  interval_cases k <;> interval_cases c <;> interval_cases e <;> decide

theorem codeSource_le (v : Source) : codeSource v ≤ 2 := by cases v <;> decide

theorem codeEndReason_le (e : EndReason) : codeEndReason e ≤ 7 := by cases e <;> decide

theorem finishedRead_of_start {x : Byte} (h : x.toNat < 8) (s : State) : finishedRead x s =
    ⟨.done, [BitVec.ofNat 8 s.ann.finished.length, x] ++
      ((s.ann.finished.drop x.toNat).take 6).flatMap packedRecord, s⟩ := by
  rw [finishedRead, if_neg (by omega)]
  rfl

/-- Settles O15: the table is read before the finished list; finished records are pieces of nine bytes. -/
theorem announcementAndFinishedReads : Obligations.AnnouncementAndFinishedReads := by
  intro s x c hready
  dsimp only
  rw [exec_announcementRead_of_ready hready, exec_finishedRead_of_ready hready]
  refine ⟨?_, fun hx hc => ?_, fun v hx hv => ?_, fun hx => ?_, fun hx => ?_⟩
  · rintro (⟨h0, h1⟩ | ⟨rfl, rfl⟩ | ⟨rfl, hc⟩)
    · rw [announcementRead, if_neg h0, if_neg h1]; rfl
    · rfl
    · rw [announcementRead, if_neg (by decide), if_pos rfl, carriedSource_of_le hc]; rfl
  · have hread : announcementRead x c s = readHandle c s := by rw [announcementRead, if_pos hx, if_neg hc]
    rw [hread]
    split
    next e he => rw [readHandle_of_entry he]; rfl
    next hnone =>
      split
      next r hr =>
        rw [readHandle_of_finished hnone hr]
        rfl
      next hr => rw [readHandle_of_absent hnone hr]; rfl
  · have hread : announcementRead x c s = readSource v s := by
      rw [announcementRead, if_neg (by rw [hx]; decide), if_pos hx, carriedSource_eq_some.2 hv]
    rw [hread]
    split
    next e he => rw [readSource_of_entry he]; rfl
    next hnone => rw [readSource_of_absent hnone]; rfl
  · rw [finishedRead, if_pos (by omega)]; rfl
  · rw [finishedRead_of_start hx]
    refine ⟨_, rfl, ?_, fun i r hi hr hcls => ?_⟩
    · rw [length_flatMap_of_length length_packedRecord, List.length_take, List.length_drop]
    · have hat : ((s.ann.finished.drop x.toNat).take 6)[i]? = some r := by
        rw [List.getElem?_take_of_lt hi, List.getElem?_drop]
        exact hr
      have hpiece := take_drop_flatMap length_packedRecord hat []
      rw [List.append_nil] at hpiece
      obtain ⟨h64, h16, h3, h8⟩ := packed_fields (codeSource_le r.source) hcls (codeEndReason_le r.endReason)
      exact ⟨_, hpiece, h64, h16, h3, h8⟩

end Sys2Proof.Machine
end

section
/-! PROOFS. ALARM RELEASE (O53), the call queue (O54), contacts and ALARM_IN (O55), START and the device resets (O56),
EVENTS CLEAR, EVENTS ENABLE and the two pins (O57). -/

namespace Sys2Proof.Machine

/-! ## ALARM RELEASE (R153, R158) -/

/-- A berth's mix once the latch has been cleared. -/
def releasedMix (s : State) (b : BerthNo) : MixState :=
  if s.presence b = .present then
    match s.floorEntry? b with
    | some e => { s.mixOf b with duck := 127, duckStep := e.params.attack }
    | none => { s.mixOf b with duck := 127, duckTarget := 0, duckStep := 1 }
  else s.mixOf b

theorem alarmReleaseAt_eq (s : State) (b : BerthNo) : alarmReleaseAt s b = s.setMix (s.mix.set b (releasedMix s b)) := by
  unfold alarmReleaseAt releasedMix
  split
  · cases s.floorEntry? b <;> rfl
  · exact congrArg s.setMix (Table.set_get_self s.mix b).symm

theorem forEach_alarmReleaseAt_eq (bs : List BerthNo) (s : State) :
    forEach bs alarmReleaseAt s = s.setMix (forEach bs alarmReleaseAt s).mix := by
  induction bs generalizing s with
  | nil => rfl
  | cons b bs ih =>
    have htail := ih (alarmReleaseAt s b)
    rw [alarmReleaseAt_eq s b] at htail
    show forEach bs alarmReleaseAt (alarmReleaseAt s b) = s.setMix (forEach bs alarmReleaseAt (alarmReleaseAt s b)).mix
    rw [alarmReleaseAt_eq s b]
    exact htail

/-- What the release of a berth reads: the berths, the entries, and the berth's own mix. -/
def releaseView (b : BerthNo) (s : State) : Table Berth berthCount × Announcer × MixState := (s.berths, s.ann, s.mixOf b)

theorem releasedMix_congr {s t : State} {b : BerthNo} (h : releaseView b s = releaseView b t) :
    releasedMix s b = releasedMix t b := by
  obtain ⟨hberths, hrest⟩ := Prod.mk.inj h
  obtain ⟨hann, hmix⟩ := Prod.mk.inj hrest
  have hpresence : s.presence b = t.presence b := congrArg (fun x => (Table.get x b).live.presence) hberths
  have hfloor : s.floorEntry? b = t.floorEntry? b := by
    unfold State.floorEntry?
    rw [hmix, show s.entry? = t.entry? from funext fun h => by rw [State.entry?, hann]; rfl]
  rw [releasedMix, hpresence, hfloor, hmix]
  rfl

/-- Every berth is released on its own. -/
theorem mixOf_alarmRelease (s : State) (b : BerthNo) : (forEach allBerths alarmReleaseAt s).mixOf b = releasedMix s b := by
  have hturn := forEach_own_turn releaseView (f := alarmReleaseAt) (is := allBerths) (fun u t i h => ?_) (fun u i j hij => ?_)
    (List.nodup_finRange berthCount) s (List.mem_finRange b)
  · have hmix : (forEach allBerths alarmReleaseAt s).mixOf b = (alarmReleaseAt s b).mixOf b := by
      generalize forEach allBerths alarmReleaseAt s = t at hturn ⊢
      exact congrArg (fun x => x.2.2) hturn
    rw [hmix, alarmReleaseAt_eq]
    exact Table.get_set_same ..
  · rw [alarmReleaseAt_eq, alarmReleaseAt_eq, releasedMix_congr h]
    obtain ⟨hberths, hrest⟩ := Prod.mk.inj h
    obtain ⟨hann, -⟩ := Prod.mk.inj hrest
    refine Prod.ext hberths (Prod.ext hann ?_)
    exact (Table.get_set_same ..).trans (Table.get_set_same ..).symm
  · rw [alarmReleaseAt_eq]
    exact Prod.ext rfl (Prod.ext rfl (Table.get_set_ne _ hij _))

/-- Settles O53: the latch is cleared, and then every berth is released on its own. -/
theorem alarmReleaseMutesProgrammes : Obligations.AlarmReleaseMutesProgrammes := by
  intro s hready
  rw [exec_alarmRelease_of_ready hready]
  refine ⟨fun h => ?_, fun hrun hcontact hlatch => ?_, fun hrun hcontact hlatch => ?_⟩
  · rw [alarmRelease, if_pos h, byteFlag_eq]
  · have hfree : ¬ (s.device = .config ∨ s.coach.alarmIn.active = true) := by simp [hrun, hcontact]
    rw [alarmRelease, if_neg hfree, if_neg (by simp [hlatch]), byteFlag_eq]; rfl
  · have hfree : ¬ (s.device = .config ∨ s.coach.alarmIn.active = true) := by simp [hrun, hcontact]
    have hmix := mixOf_alarmRelease (s.modCoach fun k => { k with latch := false })
    rw [alarmRelease, if_neg hfree, if_pos hlatch, byteFlag_eq, forEach_alarmReleaseAt_eq]
    refine ⟨_, rfl, fun b => ?_⟩
    have hb : (forEach allBerths alarmReleaseAt (s.modCoach fun k => { k with latch := false })).mix.get b =
      releasedMix (s.modCoach fun k => { k with latch := false }) b := hmix b
    rw [hb]
    refine ⟨fun hp => if_neg hp, fun hp e he => ?_, fun hp hfloor => ?_⟩
    · refine (if_pos hp).trans ?_
      rw [show (s.modCoach fun k => { k with latch := false }).floorEntry? b = some e from he]
      rfl
    · have hnone : (s.modCoach fun k => { k with latch := false }).floorEntry? b = none := by
        unfold State.floorEntry?
        rw [show (s.modCoach fun k => { k with latch := false }).mixOf b = s.mixOf b from rfl, hfloor]
        rfl
      refine (if_pos hp).trans ?_
      rw [hnone]
      rfl

/-! ## CALL TAKE and CALL CLEAR (R163, R164) -/

theorem find?_call {before after : List CallEntry} {c : CallEntry} {b : BerthNo} (hc : c.berth = b)
    (hothers : ∀ d ∈ before ++ after, d.berth ≠ b) : ((before ++ c :: after).find? fun d => d.berth = b) = some c := by
  rw [List.find?_append, List.find?_eq_none.2 fun d hd => by simpa using hothers d (List.mem_append_left _ hd)]
  simp [hc]

theorem filter_calls {before after : List CallEntry} {c : CallEntry} {b : BerthNo} (hc : c.berth = b)
    (hothers : ∀ d ∈ before ++ after, d.berth ≠ b) :
    ((before ++ c :: after).filter fun d => d.berth ≠ b) = before ++ after := by
  have hkeep : ∀ xs : List CallEntry, (∀ d ∈ xs, d.berth ≠ b) → (xs.filter fun d => d.berth ≠ b) = xs := fun xs hxs =>
    List.filter_eq_self.2 fun d hd => by simpa using hxs d hd
  rw [List.filter_append, List.filter_cons, hkeep before fun d hd => hothers d (List.mem_append_left _ hd),
    hkeep after fun d hd => hothers d (List.mem_append_right _ hd)]
  simp [hc]

/-- Settles O54: the oldest entry is taken, or the one entry of the named berth filtered out. -/
theorem callsLeaveTheQueue : Obligations.CallsLeaveTheQueue := by
  intro s hready
  rw [exec_callTake_of_ready hready]
  refine ⟨fun hempty => ?_, fun c rest hcalls => ?_, fun n => ⟨fun hbeyond => ?_, fun b hb => ⟨fun hnone => ?_, ?_⟩⟩⟩
  · rw [callTake, hempty]; rfl
  · rw [callTake, hcalls]; rfl
  · rw [exec_callClear_of_ready hready, callClear, carriedFin_of_le hbeyond]; rfl
  · rw [exec_callClear_of_ready hready, callClear, carriedFin_of_eq hb]
    dsimp only
    rw [List.find?_eq_none.2 fun c hc => by simpa using hnone c hc]
    rfl
  · intro before c after hcalls hc hothers
    rw [exec_callClear_of_ready hready, callClear, carriedFin_of_eq hb, hcalls]
    dsimp only
    rw [find?_call hc hothers]
    dsimp only [dropCall, State.modCoach]
    rw [hcalls, filter_calls hc hothers]
    rfl

/-! ## Contact filters and ALARM_IN (R155 to R157) -/

theorem setFilter_eq (s : State) (c : Contact) (f : Filter) : s.setFilter c f = { s with coach := withFilter s.coach c f } := by
  cases c <;> rfl

theorem exec_edgeCommand {s : State} (hup : Up s) {c : Contact} {active : Bool} (h : (s.filter c).active ≠ active) :
    exec (edgeCommand c active) s = .next (takeEdge c active s) := by
  have hedge : exec (edgeCommand c active) s = .next (whenUp s fun s => edgeIfOther c active s) := by
    cases c <;> cases active <;> rfl
  rw [hedge, whenUp_of_up hup, edgeIfOther, if_neg h]

theorem exec_alarmInPress {s : State} (hup : Up s) : exec .alarmInPress s =
    .next (if s.coach.alarmIn.active = true then s
      else alarmPress { s with coach := { s.coach with alarmIn := ⟨true, 0⟩ } }) :=
  congrArg Host.Outcome.next (whenUp_of_up hup _)

theorem exec_alarmInRelease {s : State} (hup : Up s) : exec .alarmInRelease s =
    .next (if s.coach.alarmIn.active = false then s else { s with coach := { s.coach with alarmIn := ⟨false, 0⟩ } }) :=
  congrArg Host.Outcome.next (whenUp_of_up hup _)

/-- Settles O55: a sample by its three branches, and the edges of ALARM_IN by device state and latch. -/
theorem contactFiltersAndAlarmEdges : Obligations.ContactFiltersAndAlarmEdges := by
  refine ⟨fun s c active hup => ?_, fun s hup => ?_⟩
  · have hsample : exec (.contactSample c active) s = .next (takeSample c active s) :=
      congrArg Host.Outcome.next (whenUp_of_up hup _)
    rw [hsample]
    refine ⟨fun hsame => ?_, fun hother hrun => ?_, fun hother hrun => ?_⟩
    · have hzero : takeSample c active s = s.setFilter c ⟨(s.filter c).active, 0⟩ := if_pos hsame
      rw [hzero, setFilter_eq, hsame]
    · have hcount : takeSample c active s = s.setFilter c ⟨(s.filter c).active, (s.filter c).run + 1⟩ :=
        (if_neg hother).trans (if_pos hrun)
      have hactive : (s.filter c).active = !active := Bool.eq_not.2 hother
      rw [hcount, setFilter_eq, hactive]
    · have hedge : takeSample c active s = takeEdge c active s := (if_neg hother).trans (if_neg (Nat.not_lt.2 hrun))
      rw [hedge, exec_edgeCommand hup hother]
  · rw [exec_alarmInPress hup, exec_alarmInRelease hup]
    refine ⟨fun hactive => ?_, fun hidle hquiet => ?_, fun hidle hrun hlatch => ?_, fun hidle => ?_, fun hactive => ?_⟩
    · rw [if_pos hactive]
    · rw [if_neg (by simp [hidle])]
      unfold alarmPress setLatch
      rcases hquiet with hconfig | hlatch
      · simp [hconfig]
      · simp [hlatch]
    · rw [if_neg (by simp [hidle])]
      unfold alarmPress setLatch
      simp only [hrun, hlatch, if_true, Bool.false_eq_true, if_false]
      rfl
    · rw [if_pos hidle]
    · rw [if_neg (by simp [hactive])]

/-! ## START and the device resets (R170, R171) -/

/-- Settles O56: START by device state and contact, and the one way a reset is written. -/
theorem startAndDeviceResets : Obligations.StartAndDeviceResets := by
  refine ⟨fun s hready => ⟨fun hrun => ?_, fun hconfig => ?_, ?_⟩, fun s r hup htx => ?_, fun s => ⟨fun hlow => ?_, fun hup => ?_⟩⟩
  · rw [exec_start_of_ready hready, startRequest, if_pos hrun]; rfl
  · rw [exec_start_of_ready hready, startRequest, if_neg (by simp [hconfig])]
    refine ⟨s.lines.map startLine, ?_, fun l => Table.get_map ..⟩
    unfold setLatch
    cases hcontact : s.coach.alarmIn.active with
    | false => simp; rfl
    | true =>
      cases hlatch : s.coach.latch with
      | false => simp [hlatch]; rfl
      | true =>
        have hcoach : { s.coach with latch := true } = s.coach := by rw [← hlatch]
        simp only [State.setLines_coach, State.setDevice_coach, hlatch, if_true, Bool.not_true, Bool.and_false, Bool.or_true,
          Bool.false_eq_true, if_false, hcoach]
        rfl
  · exact congrArg Host.Outcome.next (takeRequest_of_ready hready _ _)
  · refine (congrArg Host.Outcome.next (whenUp_of_up hup _)).trans ?_
    simp only [sendEnds, htx]
    rfl
  · exact congrArg Host.Outcome.next (if_pos hlow)
  · exact congrArg Host.Outcome.next (if_neg (by simp [hup]))

/-! ## Event flags and pins (R167, R174 to R176) -/

theorem exists_eventBit {i : Nat} (h : i < 13) : ∃ e, eventBit e = i :=
  ⟨[Event.restarted, .commitDone, .berthChanged, .berthPresence, .call, .recordedGo, .annFinished, .starved, .mediaError, .clip,
    .lineFault, .alarm, .linkError].getD i .restarted, by interval_cases i <;> rfl⟩

theorem attn_iff {s : State} (hup : Up s) :
    s.attn = true ↔ ∃ e, s.flag e = true ∧ s.events.enables.getLsbD (eventBit e) = true := by
  have hand : s.attn = (s.events.flags &&& s.events.enables != 0) := by simp [State.attn, hup]
  rw [hand, bne_iff_ne]
  constructor
  · intro hne
    by_contra hno
    refine hne (BitVec.eq_of_getLsbD_eq fun i hi => ?_)
    obtain ⟨e, rfl⟩ : ∃ e, eventBit e = i := exists_eventBit hi
    rw [BitVec.getLsbD_and, show (0 : BitVec 13).getLsbD (eventBit e) = false from BitVec.getLsbD_zero]
    exact Bool.eq_false_iff.2 fun hset => hno ⟨e, Bool.and_eq_true_iff.1 hset⟩
  · rintro ⟨e, hflag, henable⟩ hzero
    have hset : (s.events.flags &&& s.events.enables).getLsbD (eventBit e) = true := by
      rw [BitVec.getLsbD_and, henable, Bool.and_true]
      exact hflag
    rw [hzero, show (0 : BitVec 13).getLsbD (eventBit e) = false from BitVec.getLsbD_zero] at hset
    cases hset

/-- Settles O57: the flags and enables bit by bit, and the pins as they are read. -/
theorem eventFlagsAndPins : Obligations.EventFlagsAndPins := by
  refine ⟨fun s v hready => ⟨fun hbeyond => ?_, fun hwithin => ⟨⟨s.events.flags &&& ~~~ v.setWidth 13, fun i hi => ?_, ?_⟩,
    v.setWidth 13, fun i hi => ?_, ?_⟩⟩, fun s hup => ⟨attn_iff hup, ?_⟩⟩
  · have hrefused : beyondEvents v = true := decide_eq_true hbeyond
    rw [exec_eventsClear_of_ready hready, exec_eventsEnable_of_ready hready, eventsClear, eventsEnable, if_pos hrefused,
      if_pos hrefused]
    exact ⟨rfl, rfl⟩
  · simp [hi]
  · have hfits : ¬ beyondEvents v = true := by simpa [beyondEvents] using hwithin
    rw [exec_eventsClear_of_ready hready, eventsClear, if_neg hfits]
    rfl
  · simp [hi]
  · have hfits : ¬ beyondEvents v = true := by simpa [beyondEvents] using hwithin
    rw [exec_eventsEnable_of_ready hready, eventsEnable, if_neg hfits]
    rfl
  · rw [State.ctlRtr, hup]
    exact decide_eq_true_iff

end Sys2Proof.Machine
end

section
/-! PROOFS. BERTH EDIT (O22), LINE RESTART and BERTH LINK CLEAR (O25), PROGRAMME SETUP and PROGRAMME TRIM (O32), PTT PROFILE
SET (O39). -/

namespace Sys2Proof.Machine

/-! ## BERTH EDIT (R20, R21) -/

theorem carriedMode_eq (v : Byte) : carriedMode v =
    [TestMode.none, .allSet, .allClear, .anySet, .anyClear][v.toNat]? := by
  unfold carriedMode
  rcases v.toNat with _ | _ | _ | _ | _ | k <;> rfl

theorem carriedEditOp_eq (v : Byte) : carriedEditOp v =
    [EditOp.set, .clear, .toggle, .copy, .and, .or, .xor][v.toNat]? := by
  unfold carriedEditOp
  rcases v.toNat with _ | _ | _ | _ | _ | _ | _ | k <;> rfl

theorem berthEdit_of_mode {mode : Byte} (h : 5 ≤ mode.toNat) (zones mask op dst src : Byte) (s : State) :
    berthEdit zones mask mode op dst src s = refuse .badField s := by
  have hnone : carriedMode mode = none := by rw [carriedMode_eq]; exact List.getElem?_eq_none (by simpa using h)
  simp only [berthEdit, hnone]

theorem berthEdit_of_op {op : Byte} (h : 7 ≤ op.toNat) (zones mask mode dst src : Byte) (s : State) :
    berthEdit zones mask mode op dst src s = refuse .badField s := by
  have hnone : carriedEditOp op = none := by rw [carriedEditOp_eq]; exact List.getElem?_eq_none (by simpa using h)
  unfold berthEdit
  split
  next ho => rw [hnone] at ho; cases ho
  · rfl

theorem berthEdit_of_attributes {dst src : Byte} (h : 8 ≤ dst.toNat ∨ 8 ≤ src.toNat ∨ dst.toNat < 2) (zones mask mode op : Byte)
    (s : State) : berthEdit zones mask mode op dst src s = refuse .badField s := by
  have hrefused : 8 ≤ dst.toNat ∨ 8 ≤ src.toNat ∨ dst.toNat = attrOccupied ∨ dst.toNat = attrHeadphone := by
    unfold attrOccupied attrHeadphone
    omega
  unfold berthEdit
  split
  · exact if_pos hrefused
  · rfl

/-- Settles O22: each selected berth is edited from its attributes as they stood. -/
theorem berthEditSetsDestination : Obligations.BerthEditSetsDestination := by
  intro s zones mask mode op dst src hready
  rw [exec_berthEdit_of_ready hready]
  refine ⟨?_, fun m o hm ho hmin hmax hsrc => ?_⟩
  · rintro (h | h | h | h | h)
    · rw [berthEdit_of_mode h]; rfl
    · rw [berthEdit_of_op h]; rfl
    · rw [berthEdit_of_attributes (.inl h)]; rfl
    · rw [berthEdit_of_attributes (.inr (.inl h))]; rfl
    · rw [berthEdit_of_attributes (.inr (.inr h))]; rfl
  · have hfit : ¬ (8 ≤ dst.toNat ∨ 8 ≤ src.toNat ∨ dst.toNat = attrOccupied ∨ dst.toNat = attrHeadphone) := by
      unfold attrOccupied attrHeadphone
      omega
    rw [← carriedMode_eq] at hm
    rw [← carriedEditOp_eq] at ho
    refine ⟨s.berths.map (editBerth zones mask m o dst.toNat src.toNat), ?_, fun b => ?_⟩
    · simp only [berthEdit, hm, ho, if_neg hfit, Table.countP_cells]
      cases o <;> rfl
    · have hget : (s.berths.map (editBerth zones mask m o dst.toNat src.toNat)).get b =
          editBerth zones mask m o dst.toNat src.toNat (s.berth b) := Table.get_map ..
      rw [hget]
      have hselects : editSelects zones mask m (s.berth b).live = (s.presence b != .excluded &&
        zones.getLsbD (s.live b).zone.val && passesTest m mask (s.live b).attrs) := rfl
      refine ⟨fun hno => if_neg (Bool.eq_false_iff.1 (hselects.trans hno)), fun hyes => ?_⟩
      · have hedit : editBerth zones mask m o dst.toNat src.toNat (s.berth b) = { s.berth b with live := { s.live b with
            attrs := editAttrs o dst.toNat src.toNat (s.live b).attrs } } := if_pos (hselects.trans hyes)
        rw [hedit]
        refine ⟨rfl, fun n hn => ?_⟩
        refine (hasAttr_putAttr (s.live b).attrs dst.toNat n _ hn).trans ?_
        cases o <;> rfl

/-! ## LINE RESTART and BERTH LINK CLEAR (R45, R47) -/

section
variable {line : Byte} {l : LineNo} (hl : line.toNat = l.val) {s : State} (hrun : s.device = .run)
include hl hrun

theorem lineRestart_of_busy (h : (s.line l).state = .running ∨ (s.line l).fitted = 0) :
    lineRestart line s = refuse .wrongState s := by
  simp only [lineRestart, hrun, carriedFin_of_eq hl, if_pos h, reduceCtorEq, if_false]

theorem lineRestart_of_fit (h : (s.line l).state ≠ .running) (hfitted : (s.line l).fitted ≠ 0) :
    lineRestart line s = ⟨.done, [], { s with lines := s.lines.set l { s.line l with
      state := .running, framesSent := 0, links := .fill slotCount .clear } }⟩ := by
  have hfree : ¬ ((s.line l).state = .running ∨ (s.line l).fitted = 0) := fun hc => hc.elim h hfitted
  have hmod : (clearLinks l s).modLine l (fun x => { x with framesSent := 0, state := .running }) =
      s.modLine l fun x => { x with state := .running, framesSent := 0, links := .fill slotCount .clear } :=
    congrArg s.setLines (Table.modify_modify s.lines l (fun x => { x with links := .fill slotCount .clear }) fun x =>
      { x with framesSent := 0, state := .running })
  unfold lineRestart
  rw [if_neg (by simp [hrun]), carriedFin_of_eq hl]
  dsimp only
  rw [if_neg hfree, hmod]
  rfl

end

theorem berthLinkClear_of_eq {n : Byte} {b : BerthNo} (hb : n.toNat = b.val) {s : State} (hp : s.presence b ≠ .excluded) :
    berthLinkClear n s = ⟨.done, [],
      if s.presence b = .conflict then notify .absent b (s.modLinkOf b fun r => { clearedLink r with collisionRun := 0 })
      else s.modLinkOf b clearedLink⟩ := by
  simp only [berthLinkClear, carriedFin_of_eq hb, if_neg hp, State.modLinkOf_modLinkOf]
  split <;> rfl

theorem notify_absent_of_conflict {s : State} {b : BerthNo} (h : s.presence b = .conflict) :
    notify .absent b s = raise .berthPresence (s.modLive b fun r => { r with presence := .absent }) := by
  simp [notify, h]

/-- Settles O25: each request's tests in their order, and the records it clears. -/
theorem lineRestartAndBerthLinkClear : Obligations.LineRestartAndBerthLinkClear := by
  refine ⟨fun s line hready => ?_, fun s n hready => ?_⟩
  · rw [exec_lineRestart_of_ready hready]
    refine ⟨fun hconfig => ?_, fun hrun hbeyond => ?_, fun l hl hrun => ⟨fun hbusy => ?_, fun hstate hfitted => ?_⟩⟩
    · rw [lineRestart, if_pos hconfig]; rfl
    · rw [lineRestart, if_neg (by simp [hrun]), carriedFin_of_le hbeyond]; rfl
    · rw [lineRestart_of_busy hl hrun hbusy]; rfl
    · rw [lineRestart_of_fit hl hrun hstate hfitted]
  · rw [exec_berthLinkClear_of_ready hready]
    refine ⟨fun hbeyond => ?_, fun b hb => ⟨fun hex => ?_, fun hp => ?_, fun hconflict => ?_⟩⟩
    · rw [berthLinkClear, carriedFin_of_le hbeyond]; rfl
    · simp only [berthLinkClear, carriedFin_of_eq hb, if_pos hex]; rfl
    · have hne : s.presence b ≠ .excluded ∧ s.presence b ≠ .conflict := by rcases hp with hp | hp <;> simp [hp]
      rw [berthLinkClear_of_eq hb hne.1, if_neg hne.2]
      rfl
    · rw [berthLinkClear_of_eq hb (by simp [hconflict]), if_pos hconflict, notify_absent_of_conflict (by simpa using hconflict)]
      rfl

/-! ## PROGRAMME SETUP and PROGRAMME TRIM (R52, R53, R6) -/

/-- What PROGRAMME SETUP leaves of the state (R52, R6). -/
def storeProgramme (q : ProgrammeNo) (pic n t0 t1 card : Byte) (s : State) : State :=
  if n = 1 then dropTrackOne q (s.modProgramme q (setupProgramme pic n t0 t1 card))
  else s.modProgramme q (setupProgramme pic n t0 t1 card)

theorem berth_dropTrackOne (q : ProgrammeNo) (s : State) (b : BerthNo) : (dropTrackOne q s).berth b =
    if (s.live b).programme = some q ∧ (s.live b).track = 1 then { s.berth b with live := { s.live b with track := 0 } }
    else s.berth b :=
  Table.get_map ..

section
variable (s : State) (q : ProgrammeNo) (pic n t0 t1 card : Byte)

theorem storeProgramme_eq : storeProgramme q pic n t0 t1 card s =
    { s with media := { s.media with programmes := (storeProgramme q pic n t0 t1 card s).media.programmes },
             berths := (storeProgramme q pic n t0 t1 card s).berths } := by
  unfold storeProgramme
  split <;> rfl

theorem programme_storeProgramme (r : ProgrammeNo) : (storeProgramme q pic n t0 t1 card s).programme r =
    if q = r then setupProgramme pic n t0 t1 card (s.programme r) else s.programme r := by
  rw [← s.programme_modProgramme]
  unfold storeProgramme
  split <;> rfl

theorem berth_storeProgramme (b : BerthNo) : (storeProgramme q pic n t0 t1 card s).berth b =
    if n = 1 ∧ (s.live b).programme = some q ∧ (s.live b).track = 1 then
      { s.berth b with live := { s.live b with track := 0 } } else s.berth b := by
  unfold storeProgramme
  by_cases hn : n = 1
  · rw [if_pos hn, berth_dropTrackOne]
    simp [hn]
  · rw [if_neg hn, if_neg fun h => hn h.1]
    rfl

end

theorem get_zero_setupProgramme (pic n t0 t1 card : Byte) (r : Programme) :
    (setupProgramme pic n t0 t1 card r).tracks.get 0 = r.tracks.get 0 := by
  unfold setupProgramme
  dsimp only
  split
  · exact Table.get_modify_ne _ (by decide) _
  · rfl

theorem get_one_setupProgramme (pic n t0 t1 card : Byte) (r : Programme) :
    (setupProgramme pic n t0 t1 card r).tracks.get 1 =
      if r.trackCount = 2 ∧ n = 1 then retireTrack (r.tracks.get 1) else r.tracks.get 1 := by
  have hone : n.toNat = 1 ↔ n = 1 := BitVec.toNat_inj (y := 1)
  unfold setupProgramme
  simp only [hone]
  split
  · exact Table.get_modify_same ..
  · rfl

theorem programmeSetup_of_fit {s : State} (hconfig : s.device = .config) {p n card : Byte} {q : ProgrammeNo}
    (hp : p.toNat = q.val) (hn : n = 1 ∨ n = 2) (hcard : card.toNat ≤ 63) (pic t0 t1 : Byte) :
    programmeSetup p pic n t0 t1 card s = ⟨if 63 < t0.toNat ∨ 63 < t1.toNat then .clamped else .done, [p],
      storeProgramme q pic n t0 t1 card s⟩ := by
  have hcount : ¬ (n.toNat ≠ 1 ∧ n.toNat ≠ 2) := by rcases hn with rfl | rfl <;> decide
  have hstatus : doneOrClamped (outside 0 trimMax t0.toNat || outside 0 trimMax t1.toNat) =
      if 63 < t0.toNat ∨ 63 < t1.toNat then Status.clamped else .done := by
    by_cases h0 : 63 < t0.toNat <;> by_cases h1 : 63 < t1.toNat <;> simp [doneOrClamped, outside, trimMax, h0, h1]
  simp only [programmeSetup, hconfig, reduceCtorEq, if_false, carriedFin_of_eq hp, if_neg hcount, cardMax,
    if_neg (Nat.not_lt.2 hcard), hstatus]
  rcases hn with rfl | rfl <;> rfl

theorem programmeSetup_of_badField {s : State} (hconfig : s.device = .config) {p n card : Byte}
    (h : 8 ≤ p.toNat ∨ (n ≠ 1 ∧ n ≠ 2) ∨ 63 < card.toNat) (pic t0 t1 : Byte) :
    programmeSetup p pic n t0 t1 card s = refuse .badField s := by
  have hcount : (n ≠ 1 ∧ n ≠ 2) ↔ n.toNat ≠ 1 ∧ n.toNat ≠ 2 := by
    simp only [ne_eq, ← BitVec.toNat_inj]
    rfl
  unfold programmeSetup
  rw [if_neg (by simp [hconfig])]
  split
  · rfl
  next q hq =>
    split
    · rfl
    next hn =>
      refine if_pos ?_
      have hlt := q.isLt
      rw [← carriedFin_eq_some.1 hq] at hlt
      rcases h with h | h | h
      · exact absurd hlt (Nat.not_lt.2 h)
      · exact absurd (hcount.1 h) hn
      · exact h

theorem programmeTrim_of_badField {p : Byte} {x : TrimBody}
    (h : 8 ≤ p.toNat ∨ x.undefinedBit = true ∨ above cardMax x.stillCard = true) (s : State) :
    programmeTrim p x s = refuse .badField s := by
  unfold programmeTrim
  split
  · rfl
  next q hq =>
    refine if_pos ?_
    have hlt := q.isLt
    rw [← carriedFin_eq_some.1 hq] at hlt
    rcases h with h | h | h
    · exact absurd hlt (Nat.not_lt.2 h)
    · simp [h]
    · simp [h]

theorem programmeTrim_of_fit {p : Byte} {q : ProgrammeNo} (hp : p.toNat = q.val) {x : TrimBody} (hbit : x.undefinedBit = false)
    (hcard : ¬ above cardMax x.stillCard = true) (s : State) :
    programmeTrim p x s = ⟨doneOrClamped (above trimMax x.trim0 || above trimMax x.trim1), [],
      s.modProgramme q fun r => { r with
        trim0 := x.trim0.elim r.trim0 fun v => min 63 v.toNat
        trim1 := x.trim1.elim r.trim1 fun v => min 63 v.toNat
        stillCard := x.stillCard.elim r.stillCard fun v => v.toNat }⟩ := by
  simp only [programmeTrim, carriedFin_of_eq hp, hbit, hcard, Bool.false_or, if_false, storing_eq_elim, Bool.false_eq_true,
    ← storing_of_not_above hcard]
  rfl

/-- Settles O32: a fit record is stored whole, and the Track of the programme's berths follows its track count. -/
theorem programmeSetupAndTrim : Obligations.ProgrammeSetupAndTrim := by
  refine ⟨fun s p pic n t0 t1 card hready => ?_, fun s p x hready => ?_⟩
  · dsimp only
    rw [exec_programmeSetup_of_ready hready]
    refine ⟨fun hrun => ?_, fun hconfig hbad => ?_, fun q hconfig hp hn hcard => ?_⟩
    · rw [programmeSetup, if_pos hrun]; rfl
    · rw [programmeSetup_of_badField hconfig hbad]; rfl
    · rw [programmeSetup_of_fit hconfig hp hn hcard]
      have hsetup := programme_storeProgramme s q pic n t0 t1 card
      have hberth := berth_storeProgramme s q pic n t0 t1 card
      refine ⟨storeProgramme q pic n t0 t1 card s, rfl, storeProgramme_eq s q pic n t0 t1 card, fun r hr => ?_, ?_, ?_, ?_, hberth⟩
      · rw [hsetup, if_neg (Ne.symm hr)]
      · rw [hsetup, if_pos rfl, ← carriedFlag_eq]
        rfl
      · rw [State.track, hsetup, if_pos rfl]
        exact get_zero_setupProgramme ..
      · rw [State.track, hsetup, if_pos rfl]
        exact get_one_setupProgramme ..
  · rw [exec_programmeTrim_of_ready hready]
    refine ⟨fun h => ?_, fun q hp hbit hcard => ?_⟩
    · rw [programmeTrim_of_badField (by rwa [above_iff])]; rfl
    · have hfit : ¬ above cardMax x.stillCard = true := by
        rw [above_iff]
        rintro ⟨v, hv, hlt⟩
        exact absurd hlt (Nat.not_lt.2 (hcard v hv))
      have habove : ∀ v : Option Byte, above trimMax v = v.any fun v => decide (63 < v.toNat) := fun v => by cases v <;> rfl
      have hgetD : ∀ {α : Type} (v : Option Byte) (f : Byte → α) (old : α), v.elim old f = (v.map f).getD old := fun v f old => by
        cases v <;> rfl
      rw [programmeTrim_of_fit hp hbit hfit]
      simp only [habove, hgetD]
      rfl

/-! ## The parameters of an announcement (R87, R92) and PTT PROFILE SET (R99, R100) -/

theorem carriedChime_eq_none {v : Byte} : carriedChime v = none ↔ 3 < v.toNat ∧ v ≠ 0xFF := by
  unfold carriedChime
  split
  next h => simp [h]
  next h =>
    rw [Option.map_eq_none_iff, carriedFin_eq_none]
    exact ⟨fun h4 => ⟨h4, h⟩, fun h3 => h3.1⟩

theorem carriedMode_eq_none {v : Byte} : carriedMode v = none ↔ 4 < v.toNat := by
  rw [carriedMode_eq, List.getElem?_eq_none_iff]
  simp
  omega

theorem carriedParams_eq_none {x : AnnounceBody} : carriedParams x = none ↔ RefusedFields x := by
  have hcls : carriedFin 4 x.cls = none ↔ 3 < x.cls.toNat := by rw [carriedFin_eq_none]; omega
  unfold RefusedFields
  rw [← hcls, ← carriedMode_eq_none, ← carriedChime_eq_none]
  unfold carriedParams
  cases carriedFin 4 x.cls <;> cases carriedMode x.mode <;> cases carriedChime x.chime <;> simp

theorem storedFrom_of_carried {x : AnnounceBody} {p : Params} (h : carriedParams x = some p) : StoredFrom x p := by
  unfold carriedParams at h
  split at h
  next c m k hc hm hk =>
    cases h
    refine ⟨(carriedFin_eq_some.1 hc).symm, ⟨rfl, rfl⟩, (carriedMode_eq x.mode).symm.trans hm, ?_, rfl, rfl, rfl, rfl, rfl, rfl, rfl, rfl⟩
    unfold carriedChime at hk
    split at hk
    next hall => cases hk; exact hall
    · cases k with
      | none =>
        obtain ⟨i, -, hi⟩ := Option.map_eq_some_iff.1 hk
        cases hi
      | some n =>
        obtain ⟨i, hi, heq⟩ := Option.map_eq_some_iff.1 hk
        cases heq
        exact carriedFin_eq_some.1 hi
  · cases h

theorem storeStatus_eq (x : AnnounceBody) : doneOrClamped (paramsClamp x) = storeStatus x := by
  have hclamp : paramsClamp x = true ↔ 127 < x.duck.toNat ∨ x.attack.toNat = 0 ∨ 16 < x.attack.toNat ∨ x.release.toNat = 0 ∨
      16 < x.release.toNat ∨ 126 < x.level.toNat ∨ 63 < x.card.toNat ∨ 4095 < x.lead.toNat ∨ 4095 < x.tail.toNat := by
    simp only [paramsClamp, outside, Nat.not_lt_zero, decide_false, Bool.false_or, Bool.or_eq_true, decide_eq_true_eq,
      Nat.lt_one_iff, or_assoc]
    exact Iff.rfl
  unfold doneOrClamped storeStatus
  simp only [hclamp]

/-- Settles O39: the profile is replaced by the parameters carried, which the reply repeats. -/
theorem pttProfileSetStoresProfile : Obligations.PttProfileSetStoresProfile := by
  intro s profile x hready
  dsimp only
  rw [exec_pttProfileSet_of_ready hready]
  have hprofile : ∀ m, carriedProfile profile = some m → profile.toNat ≤ 1 := fun m hm => by
    unfold carriedProfile at hm
    split at hm <;> first | omega | cases hm
  refine ⟨fun h => ?_, fun hprof hfields => ?_⟩
  · unfold pttProfileSet
    split
    next m p hm hp =>
      rcases h with h | h
      · exact absurd (hprofile m hm) (Nat.not_le.2 h)
      · rw [carriedParams_eq_none.2 h] at hp
        cases hp
    · rfl
  · obtain ⟨p, hp⟩ := Option.ne_none_iff_exists'.1 (mt carriedParams_eq_none.1 hfields)
    refine ⟨p, storedFrom_of_carried hp, ?_⟩
    have hcases : profile = 0 ∨ profile = 1 := by
      rw [← BitVec.toNat_inj, ← BitVec.toNat_inj]
      show profile.toNat = 0 ∨ profile.toNat = 1
      omega
    rcases hcases with rfl | rfl
    · simp only [pttProfileSet, hp, storeStatus_eq, show carriedProfile 0 = some .d from rfl]
      rfl
    · simp only [pttProfileSet, hp, storeStatus_eq, show carriedProfile 1 = some .c from rfl]
      rfl

end Sys2Proof.Machine
end

section
/-! PROOFS. Media frames that are discarded (O33). -/

namespace Sys2Proof.Machine

/-! ## Frames that are discarded (R49, R50) -/

/-- A media frame's length is bad (R50). -/
def BadLength (k : Byte) (len held : Nat) : Prop := held < len ∨ (k = 2 ∧ (len = 0 ∨ 1400 < len)) ∨ (k ≠ 2 ∧ len ≠ 96)

section
variable {s : State} {k name trk seq : Byte} {e : Bool} {len : Nat} {held : List Byte}

theorem takeMediaFrame_of_discarded {c : MediaCause} (h : routeMedia s ⟨k, name, trk, seq, e, len, held⟩ = .discarded c) :
    takeMediaFrame ⟨k, name, trk, seq, e, len, held⟩ s = raise .mediaError (s.modPort (countCause c)) := by
  simp only [takeMediaFrame, h]

theorem mediaKind_eq_none {v : Byte} : mediaKind v = none ↔ v ≠ 1 ∧ v ≠ 2 ∧ v ≠ 3 := by
  simp only [ne_eq, ← BitVec.toNat_inj]
  show _ ↔ v.toNat ≠ 1 ∧ v.toNat ≠ 2 ∧ v.toNat ≠ 3
  unfold mediaKind
  rcases v.toNat with _ | _ | _ | _ | k <;> simp

theorem routeMedia_of_kind (h1 : k ≠ 1) (h2 : k ≠ 2) (h3 : k ≠ 3) :
    routeMedia s ⟨k, name, trk, seq, e, len, held⟩ = .discarded .kind := by
  simp only [routeMedia, mediaKind_eq_none.2 ⟨h1, h2, h3⟩]

theorem mediaKind_of_named (h : k = 1 ∨ k = 2 ∨ k = 3) :
    mediaKind k = some (if k = 2 then .picture else if k = 1 then .audio else .recorded) := by
  rcases h with rfl | rfl | rfl <;> rfl

theorem lengthFits_iff (h : k = 1 ∨ k = 2 ∨ k = 3) :
    lengthFits (if k = 2 then .picture else if k = 1 then .audio else .recorded) ⟨k, name, trk, seq, e, len, held⟩ = true ↔
      ¬ BadLength k len held.length := by
  unfold BadLength lengthFits
  rcases h with rfl | rfl | rfl
  · simp
  · simp
    omega
  · simp

theorem routeMedia_of_length (h : k = 1 ∨ k = 2 ∨ k = 3) (hbad : BadLength k len held.length) :
    routeMedia s ⟨k, name, trk, seq, e, len, held⟩ = .discarded .length := by
  have hfits : lengthFits (if k = 2 then .picture else if k = 1 then .audio else .recorded)
      ⟨k, name, trk, seq, e, len, held⟩ = false := Bool.eq_false_iff.2 fun hf => (lengthFits_iff h).1 hf hbad
  simp only [routeMedia, mediaKind_of_named h, hfits, Bool.not_false, if_true]

theorem routeMedia_of_programme (h : k = 1 ∨ k = 2) (hfit : ¬ BadLength k len held.length) (hname : 8 ≤ name.toNat) :
    routeMedia s ⟨k, name, trk, seq, e, len, held⟩ = .discarded .programme := by
  have hk : k = 1 ∨ k = 2 ∨ k = 3 := h.imp id .inl
  have hfits := (lengthFits_iff (name := name) (trk := trk) (seq := seq) (e := e) hk).2 hfit
  simp only [routeMedia, mediaKind_of_named hk, hfits, Bool.not_true, Bool.false_eq_true, if_false]
  rcases h with rfl | rfl
  · simp only [show ((1 : Byte) = 2) = False by decide, if_false, if_true, carriedFin_of_le hname]
  · simp only [if_true, carriedFin_of_le hname]

theorem routeMedia_of_track (hfit : ¬ BadLength 1 len held.length) {p : ProgrammeNo} (hp : name.toNat = p.val)
    (htrk : 2 ≤ trk.toNat ∨ (s.programme p).trackCount ≤ trk.toNat) :
    routeMedia s ⟨1, name, trk, seq, e, len, held⟩ = .discarded .track := by
  have hfits : lengthFits .audio ⟨1, name, trk, seq, e, len, held⟩ = true := (lengthFits_iff (.inl rfl)).2 hfit
  have hkind : mediaKind 1 = some .audio := rfl
  simp only [routeMedia, hkind, hfits, Bool.not_true, Bool.false_eq_true, if_false, carriedFin_of_eq hp]
  split
  · rfl
  next t ht =>
    have hlt := t.isLt
    rw [← carriedFin_eq_some.1 ht] at hlt ⊢
    exact if_neg (by omega)

theorem routeMedia_of_picture (hfit : ¬ BadLength 2 len held.length) {p : ProgrammeNo} (hp : name.toNat = p.val)
    (hpicture : (s.programme p).picture = false) :
    routeMedia s ⟨2, name, trk, seq, e, len, held⟩ = .discarded .picture := by
  have hfits : lengthFits .picture ⟨2, name, trk, seq, e, len, held⟩ = true := (lengthFits_iff (.inr (.inl rfl))).2 hfit
  have hkind : mediaKind 2 = some .picture := rfl
  simp only [routeMedia, hkind, hfits, Bool.not_true, Bool.false_eq_true, if_false, carriedFin_of_eq hp, hpicture]

end

/-- Settles O33: the tests in their order, each with its counter. -/
theorem mediaFramesDiscarded : Obligations.MediaFramesDiscarded := by
  intro s f hup
  have hexec : exec (.mediaFrame f) s = .next (arriveFrame f s) := congrArg Host.Outcome.next (whenUp_of_up hup _)
  refine ⟨fun hbad => ?_, fun hgood htype => ?_, fun k name trk seq fl hi lo held hgood htype hbytes => ?_⟩
  · rw [hexec, arriveFrame, if_pos (by simp [hbad])]
    rfl
  · have hforeign : f.etherType ≠ mediaType := htype
    rw [hexec, arriveFrame, if_neg (by simp [hgood]), if_pos hforeign]
    rfl
  · have hdiscard : ∀ {c : MediaCause}, routeMedia s ⟨k, name, trk, seq, fl.getLsbD 0, 256 * hi.toNat + lo.toNat, held⟩ =
        .discarded c → exec (.mediaFrame f) s = .next (raise .mediaError (s.modPort (countCause c))) := fun h => by
      rw [exec_mediaFrame_of_bytes hup hgood htype hbytes, takeMediaFrame_of_discarded h]
    refine ⟨fun h1 h2 h3 => hdiscard (routeMedia_of_kind h1 h2 h3), fun hk hbad => hdiscard (routeMedia_of_length hk hbad),
      fun hk hfit hname => hdiscard (routeMedia_of_programme hk hfit hname), fun p hk hfit hp htrk => ?_,
      fun p hk hfit hp hpicture => ?_⟩
    · subst hk
      exact hdiscard (routeMedia_of_track hfit hp htrk)
    · subst hk
      exact hdiscard (routeMedia_of_picture hfit hp hpicture)

end Sys2Proof.Machine
end

section
/-! PROOFS. Which events an operation may raise. -/

namespace Sys2Proof.Machine

/-- From s to t no event flag is cleared, and only the listed ones may have been set; the enables stay. -/
structure Raises (es : List Event) (s t : State) : Prop where
  enables : t.events.enables = s.events.enables
  grown : ∀ e, s.flag e = true → t.flag e = true
  others : ∀ e, e ∉ es → t.flag e = s.flag e

namespace Raises

variable {es : List Event} {s t u : State}

theorem refl (es : List Event) (s : State) : Raises es s s := ⟨rfl, fun _ h => h, fun _ _ => rfl⟩

theorem trans (h : Raises es s t) (k : Raises es t u) : Raises es s u :=
  ⟨k.enables.trans h.enables, fun e he => k.grown e (h.grown e he), fun e he => (k.others e he).trans (h.others e he)⟩

theorem of_events (h : t.events = s.events) : Raises es s t :=
  ⟨by rw [h], fun e he => by rw [State.flag, h]; exact he, fun e _ => by rw [State.flag, h]; rfl⟩

theorem raised {e : Event} (he : e ∈ es) (h : Raises es s t) : Raises es s (raise e t) := by
  refine ⟨h.enables, fun f hf => ?_, fun f hf => ?_⟩
  · rw [flag_raise, h.grown f hf]; rfl
  · rw [flag_raise, h.others f hf, decide_eq_false (fun hef : e = f => hf (by rw [← hef]; exact he)), Bool.or_false]

/-- A change that leaves the event flags as they are. -/
theorem changed {t' : State} (h : Raises es s t) (heq : t'.events = t.events) : Raises es s t' := h.trans (of_events heq)

theorem raised_changed {e : Event} (he : e ∈ es) (h : t.events = s.events) : Raises es s (raise e t) := (of_events h).raised he

theorem after (h : Raises es t u) (heq : t.events = s.events) : Raises es s u := (of_events heq).trans h

theorem forEach_turns {α : Type} {f : State → α → State} (h : ∀ s x, Raises es s (f s x)) (xs : List α) (s : State) :
    Raises es s (forEach xs f s) :=
  forEach_invariant (fun t => Raises es s t) xs (fun t x _ ht => ht.trans (h t x)) (refl es s)

end Raises

/-! ## Floors, presence and reply slots -/

theorem raises_notify (v : Presence) (b : BerthNo) (s : State) : Raises [.berthPresence] s (notify v b s) := by
  unfold notify
  dsimp only
  split
  · exact .refl _ _
  · have hleft : ∀ u : State, u.events = s.events → Raises [Event.berthPresence] s
        (if v = .present then entersPresent b u else u) := fun u hu => by
      split
      · exact .of_events (by simpa using hu)
      · exact .of_events hu
    have hstored := hleft (if s.presence b = .present then leavesPresent b (s.modLive b fun r => { r with presence := v })
        else s.modLive b fun r => { r with presence := v }) (by split <;> simp)
    split
    · exact hstored
    · exact hstored.raised (by simp)

theorem raises_dropLine (l : LineNo) (s : State) : Raises [.berthPresence] s (dropLine l s) := by
  refine Raises.forEach_turns (fun t b => ?_) _ s
  split
  · exact raises_notify _ b t
  · exact .refl _ _

/-- The events that a reply slot may raise. -/
def slotEvents : List Event := [.berthPresence, .berthChanged, .call]

theorem Raises.mono {es fs : List Event} {s t : State} (h : Raises es s t) (hsub : ∀ e ∈ es, e ∈ fs) : Raises fs s t :=
  ⟨h.enables, h.grown, fun e he => h.others e fun hes => he (hsub e hes)⟩

theorem raises_takeBerthRequest (b : BerthNo) (q : BerthRequest) (s : State) : Raises slotEvents s (takeBerthRequest b q s) := by
  unfold takeBerthRequest
  dsimp only
  split
  · exact .refl _ _
  · have hrouted : Raises slotEvents s (if s.presence b = .present ∧
        ((applyRequest s q (s.live b)).programme ≠ (s.live b).programme ∨ (applyRequest s q (s.live b)).picture ≠ (s.live b).picture)
        then routeChange b (s.modLive b fun _ => applyRequest s q (s.live b))
        else s.modLive b fun _ => applyRequest s q (s.live b)) := .of_events (by split <;> simp)
    split
    · exact hrouted
    · exact hrouted.raised (by simp [slotEvents])

theorem raises_handOnRequest (b : BerthNo) (q : BerthRequest) (s : State) : Raises slotEvents s (handOnRequest b q s) := by
  unfold handOnRequest
  split
  · unfold takeCall
    split
    · exact .refl _ _
    · exact .raised_changed (by simp [slotEvents]) rfl
  · exact .of_events rfl
  · exact raises_takeBerthRequest b q s

theorem raises_goodFromPresent (b : BerthNo) (q : Option BerthRequest) (toggle occupied headphone : Bool) (s : State) :
    Raises slotEvents s (goodFromPresent b q toggle occupied headphone s) := by
  have hsensed : Raises slotEvents s (writeSensed b occupied headphone (s.modLinkOf b goodLink)) := .of_events rfl
  unfold goodFromPresent
  dsimp only
  cases q with
  | none => exact hsensed.changed rfl
  | some q =>
    dsimp only
    split
    · exact hsensed.changed rfl
    · exact (hsensed.trans (raises_handOnRequest b q _)).changed rfl

theorem raises_applyOutcome (b : BerthNo) (o : Outcome) (s : State) : Raises slotEvents s (applyOutcome b o s) := by
  have hnotify : ∀ v t, t.events = s.events → Raises slotEvents s (notify v b t) := fun v t ht =>
    (Raises.of_events ht).trans ((raises_notify v b t).mono (by simp [slotEvents]))
  have hlost : ∀ o, Raises slotEvents s (applyLost o b s) := fun o => by
    unfold applyLost
    dsimp only
    split
    · exact hnotify _ _ rfl
    · exact .of_events rfl
  unfold applyOutcome
  split
  · unfold applyCollision
    dsimp only
    split
    · exact hnotify _ _ rfl
    · exact .of_events rfl
  · split
    · exact raises_goodFromPresent b _ _ _ _ s
    · exact (hnotify .present (putToggle b _ (s.modLinkOf b goodLink)) rfl).changed rfl
  · exact hlost _
  · exact hlost _
  · exact hlost _

theorem raises_completeSlot (l : LineNo) (signal : SlotSignal) (s : State) : Raises slotEvents s (completeSlot l signal s) := by
  unfold completeSlot
  dsimp only
  split
  · split
    · exact (raises_applyOutcome _ _ _).after rfl
    · exact .of_events rfl
  · exact .refl _ _

theorem raises_openBoundary (s : State) : Raises slotEvents s (openBoundary s) := by
  unfold openBoundary
  split
  · exact .refl _ _
  · exact (Raises.forEach_turns (fun t l => raises_completeSlot l .silent t) _ s).changed rfl

theorem raises_takeCommit (s : State) : Raises [.commitDone] s (takeCommit s) := by
  unfold takeCommit carryOutCommit
  split
  · exact .raised_changed (by simp) (by simp)
  · exact .refl _ _

theorem raises_takeAge (s : State) : Raises [.linkError] s (takeAge s) := by
  unfold takeAge
  split
  · refine Raises.after (t := s.modBoundary fun v => { v with ageDue := false }) ?_ rfl
    unfold ageStep
    split
    · exact .refl _ _
    · dsimp only
      split
      · exact .raised_changed (by simp) rfl
      · exact .of_events rfl
  · exact .refl _ _

theorem raises_takeTrack (p : ProgrammeNo) (k : TrackNo) (s : State) : Raises [.starved] s (takeTrack p k s) := by
  unfold takeTrack
  dsimp only
  split
  · exact .raised_changed (by simp) rfl
  · exact .of_events rfl

theorem raises_takeTracks (s : State) : Raises [.starved] s (takeTracks s) := by
  refine Raises.forEach_turns (fun t x => ?_) _ s
  unfold takeTrackIfDue
  split
  · exact raises_takeTrack _ _ t
  · exact .refl _ _

/-! ## Announcements -/

/-- The events that the announcements may raise. -/
def tableEvents : List Event := [.annFinished, .recordedGo]

theorem raises_enterTail (h : Byte) (why : EndReason) (s : State) : Raises tableEvents s (enterTail h why s) :=
  .of_events (by simp)

theorem raises_removeEntry (h : Byte) (cause : EndReason) (s : State) : Raises tableEvents s (removeEntry h cause s) := by
  unfold removeEntry
  split
  · exact .refl _ _
  · refine (Raises.of_events ?_).raised (by simp [tableEvents])
    dsimp only [writeFinished, clearFloors]
    split <;> split <;> rfl

theorem raises_handOn (s : State) : Raises tableEvents s (handOn s) := by
  unfold handOn
  split
  · exact .refl _ _
  · exact .raised_changed (by simp [tableEvents]) rfl

theorem raises_removeAndHandOn (h : Byte) (cause : EndReason) (s : State) : Raises tableEvents s (removeAndHandOn h cause s) := by
  unfold removeAndHandOn
  split
  · exact .refl _ _
  · split
    · exact (raises_removeEntry h cause s).trans (raises_handOn _)
    · exact raises_removeEntry h cause s

theorem raises_takeAdvance (n : Nat) (h : Byte) (s : State) : Raises tableEvents s (takeAdvance n h s) := by
  induction n generalizing h s with
  | zero => exact .refl _ _
  | succ n ih =>
    unfold takeAdvance
    split
    · exact .refl _ _
    next e he =>
      have hread : Raises tableEvents s (s.modEntry h fun x => { x with due := false, blockPhase := some e.phase }) := .of_events rfl
      dsimp only
      generalize s.modEntry h (fun x => { x with due := false, blockPhase := some e.phase }) = t at hread ⊢
      split
      · split
        · exact hread
        · split
          · exact hread.trans (raises_removeEntry h .stale t)
          · exact hread.changed rfl
      · split
        · have hended : Raises tableEvents s (endLead e t) := hread.changed (by simp)
          split
          · exact hended
          · exact hended.trans (ih h _)
        · exact hread.changed rfl
      · exact hread
      · have hlive : Raises tableEvents s (liveAdvance e t) := hread.changed (by simp)
        split
        · exact hlive
        · split
          · exact hlive.trans (ih h _)
          · exact hlive
      · split
        · have hremoved := hread.trans (raises_removeAndHandOn h .completed t)
          split
          · split
            · exact hremoved
            · exact hremoved.trans (ih _ _)
          · exact hremoved
        · exact hread.changed rfl

theorem raises_advanceIfDue (h : Byte) (s : State) : Raises tableEvents s (advanceIfDue s h) := by
  unfold advanceIfDue
  split
  · exact .refl _ _
  · split
    · exact raises_takeAdvance _ h s
    · exact .refl _ _

theorem raises_chimeEndReaches (h : Byte) (s : State) : Raises tableEvents s (chimeEndReaches h s) := by
  unfold chimeEndReaches
  split
  · exact .refl _ _
  · split
    · exact .refl _ _
    · split
      · exact (raises_enterTail h .short s).trans (raises_takeAdvance _ h _)
      · exact (raises_takeAdvance _ h _).after rfl

theorem raises_takeVoice (v : Source) (s : State) : Raises tableEvents s (takeVoice s v) := by
  unfold takeVoice
  split
  · split
    · exact (raises_chimeEndReaches _ _).after (by simp)
    · exact .of_events (by simp)
    · exact .of_events (by simp)
  · exact .refl _ _

theorem raises_takeVoices (s : State) : Raises tableEvents s (takeVoices s) :=
  Raises.forEach_turns (fun t v => raises_takeVoice v t) _ s

theorem raises_takeEntries (s : State) : Raises tableEvents s (takeEntries s) :=
  Raises.forEach_turns (fun t h => raises_advanceIfDue h t) _ s

/-! ## The mix -/

theorem raises_mixBerth (micD micC : Block) (b : BerthNo) (s : State) : Raises [.clip] s (mixBerth micD micC s b) := by
  unfold mixBerth
  dsimp only
  split
  · split
    · exact .raised_changed (by simp) (by simp)
    · exact .of_events (by simp)
  · exact .refl _ _

theorem raises_takeBerths (micD micC : Block) (first : List BerthNo) (s : State) :
    Raises [.clip] s (takeBerths micD micC first s) :=
  Raises.forEach_turns (fun t b => raises_mixBerth micD micC b t) _ s

end Sys2Proof.Machine
end

section
/-! PROOFS. The stages of a block start; COMMIT and when it falls due (O19); what a block start leaves as it is (O51). -/

namespace Sys2Proof.Machine

/-! ## The stages -/

theorem exec_blockStart {s : State} (h : Up s) (micD micC : Block) (first : List BerthNo) :
    exec (.blockStart micD micC first) s = .next (closeBoundary (takeFrames (afterMixes micD micC first s))) := by
  show Host.Outcome.next (whenUp s _) = _
  rw [whenUp_of_up h]
  rfl

/-- What sending its frame makes of a line. -/
def sentLine (s : State) (l : LineNo) : Line :=
  if (s.line l).frameDue && ((s.line l).state == .running) then
    { s.line l with frame := some (composeFrame s l), framesSent := (s.line l).framesSent + 1,
                    queues := (s.line l).queues.map List.tail, slotOpen := true, frameDue := false }
  else { s.line l with frameDue := false }

theorem sendFrame_eq (s : State) (l : LineNo) : sendFrame s l = s.setLines (s.lines.set l (sentLine s l)) := by
  unfold sendFrame sentLine
  split <;> rfl

/-- A frame carries of the lines its own alone. -/
theorem composeFrame_setLines {s : State} {ls : Table Line lineCount} {l : LineNo} (h : ls.get l = s.line l) :
    composeFrame (s.setLines ls) l = composeFrame s l := by
  have hword : ∀ b, lineOf b = l → controlWord (s.setLines ls) b = controlWord s b := fun b hb => by
    have hlink : (s.setLines ls).linkOf b = s.linkOf b := by
      subst hb
      exact congrArg (fun x : Line => x.links.get (slotOf b)) h
    unfold controlWord
    rw [hlink]
    rfl
  have hline : (s.setLines ls).line l = s.line l := h
  have hwords : ∀ (bs : List BerthNo), (∀ b ∈ bs, lineOf b = l) →
      bs.map (controlWord (s.setLines ls)) = bs.map (controlWord s) := fun bs hbs =>
    List.map_congr_left fun b hb => hword b (hbs b hb)
  unfold composeFrame
  rw [hline, hwords _ fun b hb => (mem_berthsOf l b).1 (List.mem_filter.1 hb).1]
  rfl

/-- A frame sent or not, of its line only these fields have changed since the block began. -/
theorem sentLine_of_bare {s : State} {l : LineNo} {x : Line} (h : bare (s.line l) = bare (dueLine x)) :
    sentLine s l = { x with framesSent := (sentLine s l).framesSent, queues := (sentLine s l).queues,
                            frame := (sentLine s l).frame, slotOpen := (sentLine s l).slotOpen, frameDue := false } := by
  have hsent : sentLine s l = { s.line l with
      framesSent := (sentLine s l).framesSent, queues := (sentLine s l).queues, frame := (sentLine s l).frame,
      slotOpen := (sentLine s l).slotOpen, frameDue := false } := by
    unfold sentLine
    split <;> rfl
  rw [line_eq_of_bare h] at hsent
  exact hsent

theorem sentLine_setLines {s : State} {ls : Table Line lineCount} {l : LineNo} (h : ls.get l = s.line l) :
    sentLine (s.setLines ls) l = sentLine s l := by
  have hline : (s.setLines ls).line l = s.line l := h
  unfold sentLine
  rw [composeFrame_setLines h, hline]

theorem forEach_sendFrame {ls : List LineNo} (hnodup : ls.Nodup) (s : State) :
    ∃ lines, forEach ls sendFrame s = s.setLines lines ∧ ∀ l, lines.get l = if l ∈ ls then sentLine s l else s.line l := by
  induction ls generalizing s with
  | nil => exact ⟨s.lines, rfl, fun l => rfl⟩
  | cons l ls ih =>
    obtain ⟨hl, hnodup⟩ := List.nodup_cons.1 hnodup
    obtain ⟨lines, heq, hget⟩ := ih hnodup (sendFrame s l)
    refine ⟨lines, heq.trans (by rw [sendFrame_eq]; rfl), fun m => (hget m).trans ?_⟩
    have hother : ∀ k, k ≠ l → (s.lines.set l (sentLine s l)).get k = s.line k := fun k hk =>
      Table.get_set_ne _ (Ne.symm hk) _
    rw [sendFrame_eq]
    by_cases hml : m = l
    · subst hml
      rw [if_neg hl, if_pos (List.mem_cons_self ..)]
      exact Table.get_set_same ..
    · simp only [List.mem_cons, hml, false_or]
      split
      · exact sentLine_setLines (hother m hml)
      · exact hother m hml

theorem takeFrames_eq (s : State) : ∃ lines, takeFrames s = s.setLines lines ∧ ∀ l, lines.get l = sentLine s l := by
  obtain ⟨lines, heq, hget⟩ := forEach_sendFrame (List.nodup_finRange lineCount) s
  exact ⟨lines, heq, fun l => (hget l).trans (if_pos (List.mem_finRange l))⟩

theorem raises_afterCommit (micD micC : Block) (first : List BerthNo) (s : State) :
    Raises [.linkError, .starved, .annFinished, .recordedGo, .clip] (takeCommit (openBoundary s))
      (afterMixes micD micC first s) := by
  have hage := raises_takeAge (takeCommit (openBoundary s))
  have htracks := raises_takeTracks (takeAge (takeCommit (openBoundary s)))
  have hvoices := raises_takeVoices (takeTracks (takeAge (takeCommit (openBoundary s))))
  have hentries := raises_takeEntries (takeVoices (takeTracks (takeAge (takeCommit (openBoundary s)))))
  have hberths := raises_takeBerths micD micC first (afterAdvances s)
  exact ((((hage.mono (by simp)).trans (htracks.mono (by simp))).trans (hvoices.mono (by simp [tableEvents]))).trans
    (hentries.mono (by simp [tableEvents]))).trans (hberths.mono (by simp))

theorem openBoundary_of_closed {s : State} (h : s.boundary.opened = false) :
    openBoundary s = beginBlock (completeOpenSlots s) := if_neg (by simp [h])

/-! ## COMMIT (R15, R17) -/

theorem commitDue_openBoundary {s : State} (h : s.boundary.opened = false) :
    (openBoundary s).boundary.commitDue = (s.commitPending && decide ((s.blockCount + 1).toNat % 12 = 0)) := by
  rw [openBoundary_of_closed h]
  show (_ && decide _) = _
  rw [(completeOpenSlots_frame s).2.2.2.1, (completeOpenSlots_frame s).2.1]
  rfl

theorem takeCommit_of_not_due {s : State} (h : s.boundary.commitDue = false) : takeCommit s = s := if_neg (by simp [h])

/-- Settles O19: no stage of a block start but the commit touches the flag of the pending commit, or COMMIT_DONE. -/
theorem commitFallsDueAtPollCycle : Obligations.CommitFallsDueAtPollCycle := by
  refine ⟨fun s hready => ⟨fun hpending => ?_, fun hpending => ?_⟩, fun s micD micC first hup hclosed hpending => ?_⟩
  · rw [exec_commit_of_ready hready, commitRequest, if_pos hpending]
    rfl
  · rw [exec_commit_of_ready hready, commitRequest, if_neg (by simp [hpending])]
    rfl
  · have hdue := commitDue_openBoundary hclosed
    have hafter := raises_afterCommit micD micC first s
    have hflag : (closeBoundary (takeFrames (afterMixes micD micC first s))).flag .commitDone =
        (takeCommit (openBoundary s)).flag .commitDone := by
      have hsame : (closeBoundary (takeFrames (afterMixes micD micC first s))).flag .commitDone =
          (afterMixes micD micC first s).flag .commitDone := by simp [State.flag]
      exact hsame.trans (hafter.others .commitDone (by simp))
    have hcommit : (closeBoundary (takeFrames (afterMixes micD micC first s))).commitPending =
        (takeCommit (openBoundary s)).commitPending := by simp [afterMixes, afterAdvances]
    have hcount : (closeBoundary (takeFrames (afterMixes micD micC first s))).blockCount = s.blockCount + 1 := by
      simp [afterMixes, afterAdvances, openBoundary_of_closed hclosed, beginBlock]
    refine ⟨_, exec_blockStart hup micD micC first, hcount, fun hcycle => ?_, fun hcycle => ?_⟩
    · rw [hcommit, hflag, takeCommit, if_pos (by rw [hdue, hpending, decide_eq_true hcycle]; rfl)]
      exact ⟨rfl, by rw [carryOutCommit, flag_raise, decide_eq_true rfl, Bool.or_true]⟩
    · rw [hcommit, hflag, takeCommit_of_not_due (by rw [hdue, decide_eq_false hcycle, Bool.and_false])]
      exact ⟨by simp [hpending], (raises_openBoundary s).others .commitDone (by simp [slotEvents])⟩

/-! ## What a block start leaves as it is -/

theorem line_applyLost (o : Outcome) (b : BerthNo) (s : State) (l : LineNo) :
    ((applyLost o b s).line l).slotOpen = (s.line l).slotOpen ∧ ((applyLost o b s).line l).state = (s.line l).state := by
  have hlink : ((s.modLinkOf b (lostLink o)).line l).slotOpen = (s.line l).slotOpen ∧
      ((s.modLinkOf b (lostLink o)).line l).state = (s.line l).state := by
    rw [State.modLinkOf, State.line_modLine]
    split <;> exact ⟨rfl, rfl⟩
  unfold applyLost
  dsimp only
  split
  · have hbare := bare_line_notify .absent b (s.modLinkOf b (lostLink o)) l
    rw [slotOpen_of_bare hbare, state_of_bare hbare]
    exact hlink
  · exact hlink

theorem slotOpen_completeSilent (l m : LineNo) (s : State) :
    ((completeSlot l .silent s).line m).slotOpen = if l = m then false else (s.line m).slotOpen := by
  have hclosed : ((s.modLine l fun x => { x with slotOpen := false }).line m).slotOpen =
      if l = m then false else (s.line m).slotOpen := by
    rw [State.line_modLine]
    split <;> rfl
  unfold completeSlot
  dsimp only
  split
  · split
    · exact (line_applyLost .silent _ _ m).1.trans hclosed
    · exact hclosed
  next hopen =>
    split
    next hlm => rw [← hlm]; exact Bool.eq_false_iff.2 hopen
    · rfl

theorem state_completeSilent (l m : LineNo) (s : State) : ((completeSlot l .silent s).line m).state = (s.line m).state := by
  have hclosed : ((s.modLine l fun x => { x with slotOpen := false }).line m).state = (s.line m).state := by
    rw [State.line_modLine]
    split <;> rfl
  unfold completeSlot
  dsimp only
  split
  · split
    · exact (line_applyLost .silent _ _ m).2.trans hclosed
    · exact hclosed
  · rfl

theorem completeSlot_of_closed {l : LineNo} {s : State} (h : (s.line l).slotOpen = false) (signal : SlotSignal) :
    completeSlot l signal s = s := if_neg (by simp [h])

theorem completeOpenSlots_of_closed {s : State} (h : ∀ l, (s.line l).slotOpen = false) : completeOpenSlots s = s :=
  forEach_invariant (fun t => t = s) _ (fun t l _ ht => by rw [ht]; exact completeSlot_of_closed (h l) .silent) rfl

theorem slotOpen_completeOpenSlots (s : State) (m : LineNo) : ((completeOpenSlots s).line m).slotOpen = false := by
  have hall : ∀ (ls : List LineNo) (t : State), m ∈ ls ∨ (t.line m).slotOpen = false →
      ((forEach ls (fun u l => completeSlot l .silent u) t).line m).slotOpen = false := by
    intro ls
    induction ls with
    | nil => exact fun t h => h.resolve_left (by simp)
    | cons l ls ih =>
      refine fun t h => ih _ ?_
      rw [slotOpen_completeSilent]
      rcases h with h | h
      · rcases List.mem_cons.1 h with rfl | h
        · exact .inr (if_pos rfl)
        · exact .inl h
      · exact .inr (by rw [h]; split <;> rfl)
  exact hall _ s (.inl (List.mem_finRange m))

theorem exec_replySlotComplete {s : State} (h : Up s) (l : LineNo) (signal : SlotSignal) :
    exec (.replySlotComplete l signal) s = .next (completeSlot l signal s) := by
  show Host.Outcome.next (whenUp s _) = _
  rw [whenUp_of_up h]

theorem resetLow_completeSlot (l : LineNo) (signal : SlotSignal) (s : State) : (completeSlot l signal s).resetLow = s.resetLow := by
  simp

theorem link_takeAge (s : State) :
    (takeAge s).link = { s.link with receive := (takeAge s).link.receive, age := (takeAge s).link.age,
                                     timeout := (takeAge s).link.timeout } := by
  unfold takeAge ageStep
  split
  · split
    · rfl
    · dsimp only
      split <;> rfl
  · rfl

theorem link_takeAge_of_hunt {s : State} (h : s.link.receive = .hunt) : (takeAge s).link = s.link := by
  have hmod : (s.modBoundary fun v => { v with ageDue := false }).link.receive = .hunt := h
  unfold takeAge ageStep
  rw [hmod]
  split <;> rfl

theorem programme_takeTrack (q : ProgrammeNo) (k : TrackNo) (p : ProgrammeNo) (s : State) :
    (takeTrack q k s).programme p = { s.programme p with tracks := ((takeTrack q k s).programme p).tracks } := by
  have hmod : ∀ f, (s.modTrack q k f).programme p =
      { s.programme p with tracks := ((s.modTrack q k f).programme p).tracks } := fun f => by
    rw [State.modTrack, State.programme_modProgramme]
    split <;> rfl
  unfold takeTrack
  dsimp only
  split
  · exact hmod _
  · exact hmod _

theorem programme_takeTracks (p : ProgrammeNo) (s : State) :
    (takeTracks s).programme p = { s.programme p with tracks := ((takeTracks s).programme p).tracks } := by
  refine forEach_invariant (fun t => t.programme p = { s.programme p with tracks := (t.programme p).tracks }) _
    (fun t x _ ht => ?_) rfl
  unfold takeTrackIfDue
  split
  · have hstep := programme_takeTrack x.1 x.2 p t
    rw [ht] at hstep
    exact hstep
  · exact ht

theorem mediaRest_takeTrack (p : ProgrammeNo) (k : TrackNo) (s : State) :
    (takeTrack p k s).media.recorded = s.media.recorded ∧ (takeTrack p k s).media.port = s.media.port := by
  unfold takeTrack
  generalize (fun x => { playTrack x with due := false } : Track → Track) = f
  dsimp only
  split <;> exact ⟨rfl, rfl⟩

theorem mediaRest_takeTracks (s : State) :
    (takeTracks s).media.recorded = s.media.recorded ∧ (takeTracks s).media.port = s.media.port := by
  have hstep : ∀ (t : State) x, (takeTrackIfDue t x).media.recorded = t.media.recorded ∧
      (takeTrackIfDue t x).media.port = t.media.port := fun t x => by
    unfold takeTrackIfDue
    split
    · exact mediaRest_takeTrack x.1 x.2 t
    · exact ⟨rfl, rfl⟩
  unfold takeTracks
  exact ⟨forEach_keeps (fun t => t.media.recorded) (f := takeTrackIfDue) (fun t x => (hstep t x).1) allTracks s,
    forEach_keeps (fun t => t.media.port) (f := takeTrackIfDue) (fun t x => (hstep t x).2) allTracks s⟩

theorem fixtures_afterTracks (micD micC : Block) (first : List BerthNo) (s : State) :
    fixtures (takeBerths micD micC first (takeEntries (takeVoices s))) = fixtures s := by
  have hvoices : fixtures (takeVoices s) = fixtures s := forEach_keeps fixtures (fun t v => fixtures_takeVoice t v) _ s
  have hentries : ∀ u, fixtures (takeEntries u) = fixtures u := fun u =>
    forEach_keeps fixtures (fun t h => fixtures_advanceIfDue t h) _ u
  have hberths : ∀ u, fixtures (takeBerths micD micC first u) = fixtures u := fun u =>
    forEach_keeps fixtures (fun t b => fixtures_mixBerth t micD micC b) _ u
  exact (hberths _).trans ((hentries _).trans hvoices)

theorem bare_line_takeCommit (s : State) (l : LineNo) : bare ((takeCommit s).line l) = bare (s.line l) := by
  unfold takeCommit carryOutCommit
  split
  · exact bare_line_applyBatch (commitBatch s) (s.setBerths (s.berths.map (commitBerth s))) l
  · rfl

theorem ann_eq_of_fixtures {s t : State} (h : fixtures t = fixtures s) :
    t.ann = { s.ann with entries := t.ann.entries, queue := t.ann.queue, finished := t.ann.finished } := by
  have hcounter := congrArg Fixtures.admissionCounter h
  have hhandle := handleCounter_of_fixtures h
  have hdriver := driver_of_fixtures h
  have hcrew := crew_of_fixtures h
  simp only [fixtures] at hcounter
  show Announcer.mk _ _ _ _ _ _ _ = _
  rw [hcounter, hhandle, hdriver, hcrew]

theorem lines_afterMixes (micD micC : Block) (first : List BerthNo) (s : State) :
    (afterMixes micD micC first s).lines = (takeCommit (openBoundary s)).lines := by
  simp [afterMixes, afterAdvances]

/-- Settles O51: a slot still open completes as SILENT first, and each stage changes what is its own. -/
theorem blockStartFrame : Obligations.BlockStartFrame := by
  refine ⟨fun s micD micC first hup hclosed => ?_, fun s micD micC first hup hclosed hslots => ?_⟩
  · have hkeeps : ∀ l t, Up t → Up (completeSlot l .silent t) := fun l t ht => (resetLow_completeSlot l .silent t).trans ht
    have h1 := hkeeps 0 s hup
    have h2 := hkeeps 1 _ h1
    have h3 := hkeeps 2 _ h2
    have hall : completeSlot 3 .silent (completeSlot 2 .silent (completeSlot 1 .silent (completeSlot 0 .silent s))) =
        completeOpenSlots s := rfl
    refine ⟨_, _, _, _, exec_replySlotComplete hup 0 .silent, exec_replySlotComplete h1 1 .silent,
      exec_replySlotComplete h2 2 .silent, exec_replySlotComplete h3 3 .silent, ?_, ?_⟩
    · rw [hall]
      exact slotOpen_completeOpenSlots s
    · rw [hall, exec_blockStart hup, exec_blockStart ((completeOpenSlots_frame s).2.2.2.2.2.2.1.trans hup)]
      have hopen : openBoundary (completeOpenSlots s) = openBoundary s := by
        rw [openBoundary_of_closed hclosed,
          openBoundary_of_closed ((congrArg Boundary.opened (by simp)).trans hclosed),
          completeOpenSlots_of_closed (slotOpen_completeOpenSlots s)]
      unfold afterMixes afterAdvances
      rw [hopen]
  · have hopen : openBoundary s = beginBlock s := by
      rw [openBoundary_of_closed hclosed, completeOpenSlots_of_closed hslots]
    have hmixed : afterMixes micD micC first s = takeBerths micD micC first (takeEntries (takeVoices (takeTracks
        (takeAge (takeCommit (beginBlock s)))))) := by rw [afterMixes, afterAdvances, hopen]
    obtain ⟨lines, hframes, hlines⟩ := takeFrames_eq (afterMixes micD micC first s)
    have hfix := fixtures_afterTracks micD micC first (takeTracks (takeAge (takeCommit (beginBlock s))))
    obtain ⟨hrecorded, htrackPort⟩ := mediaRest_takeTracks (takeAge (takeCommit (beginBlock s)))
    have htracks := fun p => programme_takeTracks p (takeAge (takeCommit (beginBlock s)))
    have hbegunPort : (takeAge (takeCommit (beginBlock s))).media.port = s.media.port := by simp [beginBlock]
    have hbegunStock : (takeAge (takeCommit (beginBlock s))).media.recorded = s.media.recorded := by simp [beginBlock]
    have hbegunProgramme : ∀ p, (takeAge (takeCommit (beginBlock s))).programme p = dueProgramme (s.programme p) :=
      fun p => by simp [beginBlock, State.programme]
    have hannTracks : (takeTracks (takeAge (takeCommit (beginBlock s)))).ann = (beginBlock s).ann := by simp
    have hchimeTracks : (takeTracks (takeAge (takeCommit (beginBlock s)))).chimes.patterns = s.chimes.patterns := by
      simp [beginBlock]
    have hcommitLink : (takeCommit (beginBlock s)).link = s.link := by simp [beginBlock]
    have hlinkLast : (afterMixes micD micC first s).link = (takeAge (takeCommit (beginBlock s))).link := by
      rw [hmixed]; simp
    rw [← hmixed] at hfix
    have hcount : (afterMixes micD micC first s).blockCount = s.blockCount + 1 := by rw [hmixed]; simp [beginBlock]
    have hdevice : (afterMixes micD micC first s).device = s.device := by rw [hmixed]; simp [beginBlock]
    have hcoach : (afterMixes micD micC first s).coach = s.coach := by rw [hmixed]; simp [beginBlock]
    have hlow : (afterMixes micD micC first s).resetLow = s.resetLow := by rw [hmixed]; simp [beginBlock]
    have henables : (afterMixes micD micC first s).events.enables = s.events.enables :=
      (raises_afterCommit micD micC first s).enables.trans
        ((raises_takeCommit _).enables.trans (raises_openBoundary s).enables)
    have hpatterns : (afterMixes micD micC first s).chimes.patterns = s.chimes.patterns :=
      (patterns_of_fixtures hfix).trans hchimeTracks
    have hport : (afterMixes micD micC first s).media.port = s.media.port :=
      (port_of_fixtures hfix).trans (htrackPort.trans (hbegunPort))
    have hstock : (takeTracks (takeAge (takeCommit (beginBlock s)))).media.recorded = s.media.recorded :=
      hrecorded.trans (hbegunStock)
    have hprogramme : ∀ p, (afterMixes micD micC first s).programme p =
        { s.programme p with tracks := ((afterMixes micD micC first s).programme p).tracks } := fun p => by
      have hsame : (afterMixes micD micC first s).programme p =
          (takeTracks (takeAge (takeCommit (beginBlock s)))).programme p := by
        exact congrArg (fun x : Table Programme programmeCount => x.get p) (programmes_of_fixtures hfix)
      have hplayed := htracks p
      rw [hbegunProgramme, ← hsame] at hplayed
      exact hplayed
    have harrivals := arrivals_of_fixtures hfix
    rw [hstock] at harrivals
    have hann := ann_eq_of_fixtures hfix
    rw [hannTracks] at hann
    have hbegunLine : ∀ l, (beginBlock s).line l = dueLine (s.line l) := fun l => Table.get_map ..
    have hline : ∀ l, bare ((afterMixes micD micC first s).line l) = bare (dueLine (s.line l)) := fun l => by
      rw [State.line, lines_afterMixes, hopen, ← hbegunLine]
      exact bare_line_takeCommit _ l
    have hberths : (afterMixes micD micC first s).berths = (takeCommit (beginBlock s)).berths := by rw [hmixed]; simp
    have hlanes : (afterMixes micD micC first s).lanes = (takeCommit (beginBlock s)).lanes := by rw [hmixed]; simp
    have hpending : (afterMixes micD micC first s).commitPending = (takeCommit (beginBlock s)).commitPending := by
      rw [hmixed]; simp
    have hdue := commitDue_openBoundary hclosed
    rw [hopen] at hdue
    refine ⟨_, exec_blockStart hup micD micC first, ?_⟩
    rw [hframes]
    generalize afterMixes micD micC first s = o at *
    refine ⟨hcount, rfl, hdevice, hcoach, hlow, henables, hpatterns, hport, harrivals, hprogramme, hann, ?_,
      fun hhunt => ?_, fun l => ?_, fun hnot => ?_⟩
    · have hlink := link_takeAge (takeCommit (beginBlock s))
      rw [hcommitLink, ← hlinkLast] at hlink
      exact hlink
    · exact (hlinkLast.trans (link_takeAge_of_hunt (by rw [hcommitLink]; exact hhunt))).trans hcommitLink
    · have hx := sentLine_of_bare (hline l)
      rw [← hlines l] at hx
      exact hx
    · have hnotDue : (beginBlock s).boundary.commitDue = false := by
        rw [hdue]
        rcases hnot with hnot | hnot
        · rw [hnot]; rfl
        · rw [decide_eq_false hnot, Bool.and_false]
      rw [takeCommit_of_not_due hnotDue] at hberths hlanes hpending
      exact ⟨hberths, hlanes, hpending⟩

end Sys2Proof.Machine
end

section
/-! PROOFS. The outbound frames (O50). -/

namespace Sys2Proof.Machine

/-! ## The bytes of a control word (R181) -/

theorem getLsbD_seven_ofNat (n : Nat) : (BitVec.ofNat 8 n).getLsbD 7 = decide (n / 128 % 2 = 1) := by
  rw [BitVec.getLsbD_ofNat, Nat.testBit_eq_decide_div_mod_eq]
  rfl

theorem getLsbD_six_ofNat (n : Nat) : (BitVec.ofNat 8 n).getLsbD 6 = decide (n / 64 % 2 = 1) := by
  rw [BitVec.getLsbD_ofNat, Nat.testBit_eq_decide_div_mod_eq]
  rfl

/-- A flag in bit 7 above a field of seven bits. -/
theorem flagged_byte (v : Bool) {n : Nat} (h : n < 128) :
    (BitVec.ofNat 8 ((if v then 128 else 0) + n)).getLsbD 7 = v ∧
      (BitVec.ofNat 8 ((if v then 128 else 0) + n)).toNat % 128 = n := by
  rw [getLsbD_seven_ofNat, BitVec.toNat_ofNat]
  cases v
  · exact ⟨decide_eq_false (by simp only [Bool.false_eq_true, if_false]; omega), by simp only [Bool.false_eq_true, if_false]; omega⟩
  · exact ⟨decide_eq_true (by simp only [if_true]; omega), by simp only [if_true]; omega⟩

theorem controlWord_bytes (w : ControlWord) (hcard : w.card ≤ 63) (hvolume : w.shownVolume ≤ 127) (hlane : w.lane ≤ 4)
    (hclass : w.floorClass.getD 0 ≤ 3) :
    ∃ b0 b1 b2 : Byte, controlWordBytes w = [b0, b1, b2] ∧
      b0.getLsbD 7 = w.acknowledged ∧ b0.getLsbD 6 = w.takenToggle ∧ b0.toNat % 64 = w.card ∧
      b1.getLsbD 7 = w.lockSet ∧ b1.toNat % 128 = w.shownVolume ∧
      b2.getLsbD 7 = w.callQueued ∧ b2.toNat / 16 % 8 = w.floorClass.getD 7 ∧ b2.toNat % 16 = w.lane := by
  have hfloor : w.floorClass.getD 7 ≤ 7 := by
    cases hc : w.floorClass with
    | none => exact Nat.le_refl 7
    | some c =>
      rw [hc] at hclass
      exact Nat.le_trans hclass (by decide)
  have htoggle : (if w.takenToggle then 64 else 0) + w.card < 128 := by split <;> omega
  have hb0 := flagged_byte w.acknowledged htoggle
  have hb1 := flagged_byte w.lockSet (n := w.shownVolume) (by omega)
  have hb2 := flagged_byte w.callQueued (n := w.floorClass.getD 7 * 16 + w.lane) (by omega)
  refine ⟨_, _, _, rfl, ?_, ?_, ?_, hb1.1, hb1.2, ?_, ?_, ?_⟩
  all_goals rw [Nat.add_assoc]
  · exact hb0.1
  · rw [getLsbD_six_ofNat]
    cases w.takenToggle <;> cases w.acknowledged <;> simp <;> omega
  · rw [BitVec.toNat_ofNat]
    cases w.takenToggle <;> cases w.acknowledged <;> simp <;> omega
  · exact hb2.1
  · have := hb2.2
    omega
  · have := hb2.2
    omega

/-! ## The frames of a block start (R31 to R33, R79, R80) -/

theorem state_completeOpenSlots (s : State) (l : LineNo) : ((completeOpenSlots s).line l).state = (s.line l).state :=
  forEach_keeps (fun t => (t.line l).state) (f := fun t m => completeSlot m .silent t)
    (fun t m => state_completeSilent m l t) _ s

/-- What a block start has made of a line when its frame is about to be sent. -/
theorem line_afterMixes {s : State} (h : s.boundary.opened = false) (micD micC : Block) (first : List BerthNo) (l : LineNo) :
    ((afterMixes micD micC first s).line l).frameDue = decide ((s.line l).state = .running) ∧
      ((afterMixes micD micC first s).line l).state = (s.line l).state := by
  have hbare : bare ((afterMixes micD micC first s).line l) = bare (dueLine ((completeOpenSlots s).line l)) := by
    have hbegun : (beginBlock (completeOpenSlots s)).line l = dueLine ((completeOpenSlots s).line l) := Table.get_map ..
    rw [State.line, lines_afterMixes, openBoundary_of_closed h, ← hbegun]
    exact bare_line_takeCommit _ l
  rw [frameDue_of_bare hbare, state_of_bare hbare]
  rw [dueLine, state_completeOpenSlots]
  exact ⟨rfl, rfl⟩

theorem screenCard_eq (s : State) (b : BerthNo) : screenCard s b =
    (let r := s.live b
     let entry := s.floorEntry? b
     let card := (entry.map fun e => e.params.card).getD 0
     if s.coach.latch = true ∧ (entry.map fun e => e.params.cls) = some 3 ∧ card ≠ 0 then card
     else if s.coach.latch = true then s.coach.alarmCard
     else if card ≠ 0 then card
     else if r.lane = .waiting then s.coach.busyCard
     else match r.programme with
       | none => 0
       | some p => if r.picture = true ∧ (s.programme p).picture = false then (s.programme p).stillCard else 0) := by
  unfold screenCard floorClass
  simp only [Bool.and_eq_true, beq_iff_eq, bne_iff_ne, ne_eq, and_assoc]
  cases (s.live b).programme with
  | none => cases (s.live b).picture <;> rfl
  | some p =>
    cases (s.live b).picture
    · simp
    · cases hpicture : (s.programme p).picture <;> simp [hpicture]

theorem laneNumber_eq (v : LaneField) : laneNumber v = match v with
    | .lane n => n.val + 1
    | .none => 0
    | .waiting => 0 := by
  cases v <;> rfl

theorem links_sentLine (s : State) (l : LineNo) : (sentLine s l).links = (s.line l).links := by
  unfold sentLine
  split <;> rfl

/-- A control word is made from what its berth has after the block start. -/
theorem controlWord_sent {s : State} {lines : Table Line lineCount} (hlines : ∀ l, lines.get l = sentLine s l) (b : BerthNo) :
    controlWord s b = controlWord (closeBoundary (s.setLines lines)) b := by
  have hlink : (closeBoundary (s.setLines lines)).linkOf b = s.linkOf b := by
    show (lines.get (lineOf b)).links.get (slotOf b) = (s.line (lineOf b)).links.get (slotOf b)
    rw [hlines, links_sentLine]
  unfold controlWord
  rw [hlink]
  rfl

/-- Settles O50: each RUNNING line sends the frame composed from the state that the mix leaves. -/
theorem outboundFrames : Obligations.OutboundFrames := by
  refine ⟨controlWord_bytes, fun s micD micC first hup => ?_⟩
  obtain ⟨lines, hframes, hlines⟩ := takeFrames_eq (afterMixes micD micC first s)
  refine ⟨_, exec_blockStart hup micD micC first, fun l => ⟨fun hclosed => line_afterMixes hclosed micD micC first l, ?_⟩⟩
  rw [hframes]
  generalize afterMixes micD micC first s = o at *
  refine ⟨fun hnot => ?_, fun hdue hrunning => ?_⟩
  · show lines.get l = _
    rw [hlines, sentLine, if_neg]
    rcases hnot with hnot | hnot
    · rw [hnot]; exact Bool.false_ne_true
    · rw [beq_eq_false_iff_ne.2 hnot, Bool.and_false]; exact Bool.false_ne_true
  · refine ⟨composeFrame o l, ⟨(o.line l).queues.map List.tail, fun n => Table.get_map .., ?_⟩, rfl, rfl, ?_, rfl, rfl⟩
    · show lines.get l = _
      rw [hlines, sentLine, if_pos (by rw [hdue, hrunning]; rfl)]
    · refine List.map_congr_left fun b _ => ?_
      rw [controlWord_sent hlines, controlWord, screenCard_eq, laneNumber_eq]
      generalize closeBoundary (o.setLines lines) = t
      rfl

end Sys2Proof.Machine
end

section
/-! PROOFS. What each track plays at a block start, and TRACK_STARVED (O35). -/

namespace Sys2Proof.Machine

/-! ## One track (R58 to R60) -/

section
variable {x : Track}

theorem playTrack_of_not_flowing (h : x.state ≠ .flowing) : playTrack x = { x with played := Block.silence } := by
  unfold playTrack
  split
  · contradiction
  · rfl

theorem playTrack_of_block {blk : Block} (h : x.state = .flowing) (h0 : x.slots.get 0 = some blk) :
    playTrack x = { x with played := blk, lastGood := some blk, missRun := 0, concealUsed := false,
                           expected := x.expected + 1, slots := slide 1 x.slots } := by
  simp [playTrack, h, starvesNow, h0, moveWindow, playChoice]

theorem missPlayed_playChoice (h0 : x.slots.get 0 = none) : MissPlayed x (playChoice x) := by
  unfold playChoice
  rw [h0]
  refine ⟨fun blk hused hgood => ?_, fun h => ?_⟩
  · simp [hused, hgood, countHalf, countTo, halfMax]
  · rcases h with h | h
    · simp [h, countHalf, countTo, halfMax]
    · cases hused : x.concealUsed <;> simp [h, countHalf, countTo, halfMax]

theorem playChoice_of_miss (h0 : x.slots.get 0 = none) : playChoice x =
    { x with played := (playChoice x).played, concealed := (playChoice x).concealed, silent := (playChoice x).silent,
             missRun := min 250 (x.missRun + 1), concealUsed := x.concealUsed || x.lastGood.isSome } := by
  unfold playChoice
  rw [h0]
  cases hused : x.concealUsed <;> cases hgood : x.lastGood <;> simp [countTo, trackStarveLimit]

theorem starvesNow_iff : starvesNow x = true ↔ x.state = .flowing ∧ x.slots.get 0 = none ∧ 249 ≤ x.missRun := by
  simp [starvesNow, trackStarveLimit, and_assoc]

theorem playTrack_of_miss (h : x.state = .flowing) (hrun : ¬ starvesNow x = true) : playTrack x = moveWindow (playChoice x) := by
  simp only [playTrack, h, if_neg hrun]

theorem playTrack_of_starved (h : starvesNow x = true) : playTrack x = starveTrack (moveWindow (playChoice x)) := by
  simp only [playTrack, (starvesNow_iff.1 h).1, if_pos h]

theorem countP_slide_one {slots : Table (Option Block) jitterSlots} (h0 : slots.get 0 = none) :
    (slide 1 slots).cells.countP Option.isSome = slots.cells.countP Option.isSome := by
  have hcells : ∀ t : Table (Option Block) jitterSlots, t.cells = [t.get 0, t.get 1, t.get 2, t.get 3] := fun t => t.cells_eq
  have hmoved : (slide 1 slots).cells = [slots.get 1, slots.get 2, slots.get 3, none] := hcells _
  rw [hmoved, hcells slots, h0]
  simp [List.countP_cons, Nat.add_assoc]

/-- A miss in a run of 249 starves the track. -/
theorem starvedFrom_playTrack (h : starvesNow x = true) : StarvedFrom x { playTrack x with due := false } := by
  obtain ⟨-, h0, hrun⟩ := starvesNow_iff.1 h
  have hchoice := playChoice_of_miss h0
  have hplayed := missPlayed_playChoice h0
  rw [playTrack_of_starved h]
  refine ⟨hplayed, ?_⟩
  generalize playChoice x = y at *
  have hslots : y.slots = x.slots := by rw [hchoice]
  have hskipped : y.skipped = x.skipped := by rw [hchoice]
  have hmiss : min 250 (x.missRun + 1) = 250 := Nat.min_eq_left (by omega)
  unfold starveTrack moveWindow
  dsimp only
  rw [hslots, countP_slide_one h0, hskipped]
  rw [hmiss] at hchoice
  rw [hchoice]
  rfl

end

/-! ## Every track in its turn -/

/-- What the advance of a track makes of it. -/
def playedTrack (x : Track) : Track := { playTrack x with due := false }

theorem takeTrack_eq (p : ProgrammeNo) (k : TrackNo) (s : State) : takeTrack p k s =
    if starvesNow (s.track p k) then raise .starved (s.modTrack p k playedTrack) else s.modTrack p k playedTrack := rfl

theorem track_takeTrack (p q : ProgrammeNo) (k m : TrackNo) (s : State) : (takeTrack p k s).track q m =
    if p = q ∧ k = m then playedTrack (s.track q m) else s.track q m := by
  rw [← State.track_modTrack, takeTrack_eq]
  split <;> rfl

theorem track_takeTrackIfDue (x y : ProgrammeNo × TrackNo) (s : State) : (takeTrackIfDue s x).track y.1 y.2 =
    if x = y ∧ (s.track y.1 y.2).due = true then playedTrack (s.track y.1 y.2) else s.track y.1 y.2 := by
  unfold takeTrackIfDue
  split
  next hdue =>
    rw [track_takeTrack]
    by_cases hxy : x = y
    · subst hxy
      simp [hdue]
    · rw [if_neg (fun h => hxy (Prod.ext h.1 h.2)), if_neg (fun h => hxy h.1)]
  next hdue =>
    rw [if_neg]
    rintro ⟨rfl, h⟩
    exact hdue h

theorem track_takeTracks (p : ProgrammeNo) (k : TrackNo) (s : State) (hdue : (s.track p k).due = true) :
    (takeTracks s).track p k = playedTrack (s.track p k) := by
  have hown := forEach_own_turn (fun (x : ProgrammeNo × TrackNo) (t : State) => t.track x.1 x.2) (f := takeTrackIfDue)
    (fun t u x htu => by rw [track_takeTrackIfDue, track_takeTrackIfDue]; simp only [true_and]; rw [htu])
    (fun t x y hxy => by rw [track_takeTrackIfDue, if_neg (fun h => hxy h.1)]) (is := allTracks) (by decide) s (j := (p, k))
    (by simp [allTracks])
  have hturn := track_takeTrackIfDue (p, k) (p, k) s
  rw [if_pos ⟨rfl, hdue⟩] at hturn
  exact hown.trans hturn

/-- A track that starves raises TRACK_STARVED in its turn, and no later turn clears it. -/
theorem flag_starved_of_turn (p : ProgrammeNo) (k : TrackNo) (xs : List (ProgrammeNo × TrackNo)) (s : State)
    (hmem : (p, k) ∈ xs) (hdue : (s.track p k).due = true) (hstarves : starvesNow (s.track p k) = true) :
    (forEach xs takeTrackIfDue s).flag .starved = true := by
  have hraises : ∀ t x, Raises [.starved] t (takeTrackIfDue t x) := fun t x => by
    unfold takeTrackIfDue
    split
    · exact raises_takeTrack _ _ t
    · exact .refl _ _
  induction xs generalizing s with
  | nil => exact absurd hmem (List.not_mem_nil)
  | cons x xs ih =>
    by_cases hx : x = (p, k)
    · subst hx
      refine (Raises.forEach_turns hraises xs _).grown .starved ?_
      rw [takeTrackIfDue, if_pos hdue, takeTrack_eq, if_pos hstarves, flag_raise, decide_eq_true rfl, Bool.or_true]
    · have hsame : (takeTrackIfDue s x).track p k = s.track p k := by
        have hturn := track_takeTrackIfDue x (p, k) s
        rw [if_neg (fun h => hx h.1)] at hturn
        exact hturn
      exact ih (takeTrackIfDue s x) ((List.mem_cons.1 hmem).resolve_left (Ne.symm hx)) (by rw [hsame]; exact hdue)
        (by rw [hsame]; exact hstarves)

theorem track_begun {s : State} (h : s.boundary.opened = false) (p : ProgrammeNo) (k : TrackNo) :
    (takeAge (takeCommit (openBoundary s))).track p k = dueTrack (s.track p k) := by
  have hprogramme : (takeAge (takeCommit (openBoundary s))).programme p = dueProgramme (s.programme p) := by
    rw [openBoundary_of_closed h]
    simp [beginBlock, State.programme]
  rw [State.track, hprogramme]
  exact Table.get_map ..

theorem track_afterMixes (p : ProgrammeNo) (k : TrackNo) (micD micC : Block) (first : List BerthNo) (s : State) :
    (afterMixes micD micC first s).track p k = (takeTracks (takeAge (takeCommit (openBoundary s)))).track p k := by
  have hfix := fixtures_afterTracks micD micC first (takeTracks (takeAge (takeCommit (openBoundary s))))
  exact congrArg (fun t : Table Programme programmeCount => (t.get p).tracks.get k) (programmes_of_fixtures hfix)

theorem flag_starved_afterMixes (micD micC : Block) (first : List BerthNo) {s : State} {p : ProgrammeNo} {k : TrackNo}
    (hdue : ((takeAge (takeCommit (openBoundary s))).track p k).due = true)
    (hstarves : starvesNow ((takeAge (takeCommit (openBoundary s))).track p k) = true) :
    (afterMixes micD micC first s).flag .starved = true := by
  have htracks : (takeTracks (takeAge (takeCommit (openBoundary s)))).flag .starved = true :=
    flag_starved_of_turn p k allTracks _ (by simp [allTracks]) hdue hstarves
  have hvoices := (raises_takeVoices (takeTracks (takeAge (takeCommit (openBoundary s))))).grown .starved htracks
  have hentries := (raises_takeEntries _).grown .starved hvoices
  exact (raises_takeBerths micD micC first _).grown .starved hentries

theorem starvedCause_iff {p : ProgrammeNo} {k : TrackNo} {s : State} : starvedCause p k s = true ↔
    (s.track p k).due = true ∧ (s.track p k).state = .flowing ∧ (s.track p k).slots.get 0 = none ∧ 249 ≤ (s.track p k).missRun := by
  rw [starvedCause, Bool.and_eq_true, starvesNow_iff]

theorem exec_trackStarved {s : State} (h : Up s) (p : ProgrammeNo) (k : TrackNo) : exec (.trackStarved p k) s =
    .next (if starvedCause p k (openBoundary s) then takeTrack p k (openBoundary s) else s) := by
  show Host.Outcome.next (whenUp s _) = _
  rw [whenUp_of_up h]

/-- Settles O35: each track has one turn at a block start, and plays the block of its slot 0 or misses it. -/
theorem tracksPlayAndStarve : Obligations.TracksPlayAndStarve := by
  refine ⟨fun s micD micC first hup hclosed => ⟨_, exec_blockStart hup micD micC first, fun p k => ?_⟩, fun s p k hup => ⟨?_, ?_⟩⟩
  · have hturn : (closeBoundary (takeFrames (afterMixes micD micC first s))).track p k = playedTrack (dueTrack (s.track p k)) := by
      have hmedia : (closeBoundary (takeFrames (afterMixes micD micC first s))).media = (afterMixes micD micC first s).media := by
        simp
      have hsame := congrArg (fun m : Media => (m.programmes.get p).tracks.get k) hmedia
      have hplayed := track_takeTracks p k (takeAge (takeCommit (openBoundary s))) (by rw [track_begun hclosed]; rfl)
      rw [track_begun hclosed, ← track_afterMixes p k micD micC first] at hplayed
      exact hsame.trans hplayed
    have hflag : starvesNow (dueTrack (s.track p k)) = true →
        (closeBoundary (takeFrames (afterMixes micD micC first s))).flag .starved = true := fun hstarves => by
      have hevents : (closeBoundary (takeFrames (afterMixes micD micC first s))).events = (afterMixes micD micC first s).events := by
        simp
      rw [State.flag, hevents]
      exact flag_starved_afterMixes micD micC first (p := p) (k := k) (by rw [track_begun hclosed]; rfl)
        (by rw [track_begun hclosed]; exact hstarves)
    generalize closeBoundary (takeFrames (afterMixes micD micC first s)) = t at hturn hflag ⊢
    dsimp only
    rw [hturn]
    generalize s.track p k = x at hflag ⊢
    refine ⟨fun hstate => ?_, fun blk hstate h0 => ?_, fun hstate h0 hrun => ?_, fun hstate h0 hrun => ?_⟩
    · rw [playedTrack, playTrack_of_not_flowing (x := dueTrack x) hstate]
      rfl
    · rw [playedTrack, playTrack_of_block (x := dueTrack x) hstate h0]
      exact ⟨get_slide 1 x.slots, rfl⟩
    · have hnot : ¬ starvesNow (dueTrack x) = true := fun hstarves =>
        absurd (starvesNow_iff.1 hstarves).2.2 (Nat.not_le.2 hrun)
      have hplayed := missPlayed_playChoice (x := dueTrack x) h0
      have hchoice := playChoice_of_miss (x := dueTrack x) h0
      rw [playedTrack, playTrack_of_miss (x := dueTrack x) hstate hnot]
      generalize playChoice (dueTrack x) = y at hplayed hchoice ⊢
      have hslots : y.slots = x.slots := by rw [hchoice]; rfl
      refine ⟨hplayed, fun i => ?_, ?_⟩
      · show (slide 1 y.slots).get i = _
        rw [hslots]
        exact get_slide 1 x.slots i
      · have hmiss : min 250 ((dueTrack x).missRun + 1) = x.missRun + 1 := Nat.min_eq_right (by show x.missRun + 1 ≤ 250; omega)
        rw [hmiss] at hchoice
        rw [hchoice]
        rfl
    · have hstarves : starvesNow (dueTrack x) = true := starvesNow_iff.2 ⟨hstate, h0, hrun⟩
      exact ⟨starvedFrom_playTrack hstarves, hflag hstarves⟩
  · intro hdue hstate h0 hrun
    have hstarves := starvesNow_iff.2 ⟨hstate, h0, hrun⟩
    refine ⟨playedTrack ((openBoundary s).track p k), starvedFrom_playTrack hstarves, ?_⟩
    rw [exec_trackStarved hup, if_pos (starvedCause_iff.2 ⟨hdue, hstate, h0, hrun⟩), takeTrack_eq, if_pos hstarves]
    generalize openBoundary s = o
    rfl
  · intro hnot
    rw [exec_trackStarved hup, if_neg]
    rw [starvedCause_iff]
    rintro ⟨hdue, hstate, h0, hrun⟩
    rcases hnot with hnot | hnot | hnot | hnot
    · exact Bool.false_ne_true (hnot.symm.trans hdue)
    · exact hnot hstate
    · exact hnot h0
    · exact absurd hrun (Nat.not_le.2 hnot)

end Sys2Proof.Machine
end

section
/-! PROOFS. A commit that falls due (O20). -/

namespace Sys2Proof.Machine

/-! ## The berth records (R16) -/

theorem hasAttr_carryAttr (v : Option Bool) (n : Nat) (attrs : Byte) {m : Nat} (h : m < 8) :
    hasAttr (carryAttr v n attrs) m = if m = n then v.getD (hasAttr attrs m) else hasAttr attrs m := by
  cases v with
  | none => split <;> rfl
  | some b => exact hasAttr_putAttr attrs n m b h

theorem hasAttr_carryFields (g : StagedRecord) (r : LiveRecord) {n : Nat} (h : n < 8) :
    hasAttr (carryFields g r).attrs n =
      ([none, none, g.dnd, g.lock, g.tag0, g.tag1, g.tag2, g.tag3].getD n none).getD (hasAttr r.attrs n) := by
  simp only [carryFields, hasAttr_carryAttr _ _ _ h, attrDnd, attrLock, attrTag0]
  match n, h with
  | 0, _ => rfl
  | 1, _ => rfl
  | 2, _ => rfl
  | 3, _ => rfl
  | 4, _ => rfl
  | 5, _ => rfl
  | 6, _ => rfl
  | 7, _ => rfl

theorem clampTrack_eq (s : State) (r : LiveRecord) : clampTrack s r =
    { r with track := if r.programme.all fun q => r.track.val < (s.programme q).trackCount then r.track else 0 } := by
  obtain ⟨presence, programme, track, picture, volume, zone, language, attrs, lane⟩ := r
  cases programme with
  | none => rfl
  | some p =>
    unfold clampTrack
    dsimp only [Option.all]
    split
    next h => rw [if_pos (decide_eq_true h)]
    next h => rw [if_neg (by simpa using h)]

theorem live_commitBerth_of_held {s : State} {x : Berth} (h : x.staged ≠ .empty) :
    (commitBerth s x).live = clampTrack s (carryFields x.staged x.live) := by
  unfold commitBerth
  rw [if_neg h]

theorem staged_commitBerth (s : State) (x : Berth) : (commitBerth s x).staged = .empty := by
  unfold commitBerth
  split
  · assumption
  · rfl

theorem berth_setBerths_map (s : State) (f : Berth → Berth) (b : BerthNo) :
    (s.setBerths (s.berths.map f)).berth b = f (s.berth b) := Table.get_map ..

/-! ## The batch of lane work (R76) -/

theorem inTurn_forEach {done : State → State → BerthNo → Prop} {f : State → BerthNo → State} (h : ∀ s b, done s (f s b) b)
    (bs : List BerthNo) (s : State) : InTurn done bs s (forEach bs f s) := by
  induction bs generalizing s with
  | nil => rfl
  | cons b bs ih => exact ⟨f s b, h s b, ih (f s b)⟩

theorem releasedWait_batchUnwait (s : State) (b : BerthNo) : ReleasedWait s (batchUnwait s b) b := by
  unfold ReleasedWait batchUnwait
  cases (s.live b).lane <;> rfl

theorem releasedLane_batchRelease (s : State) (b : BerthNo) : ReleasedLane s (batchRelease s b) b := by
  unfold ReleasedLane batchRelease
  cases (s.live b).lane with
  | none => rfl
  | waiting => rfl
  | lane n => exact leftLane_releaseLane b n s

@[simp] theorem drops_batchUnwait (b : BerthNo) (s : State) (m : LineNo) :
    ((batchUnwait s b).laneSet m).drops = (s.laneSet m).drops := by
  unfold batchUnwait
  split <;> simp

@[simp] theorem drops_batchRelease (b : BerthNo) (s : State) (m : LineNo) :
    ((batchRelease s b).laneSet m).drops = (s.laneSet m).drops := by
  unfold batchRelease
  split <;> simp

theorem drops_applyBatch (bs : List BerthNo) (s : State) (m : LineNo) :
    ((applyBatch bs s).laneSet m).drops = (s.laneSet m).drops := by
  unfold applyBatch
  refine (forEach_keeps (fun t => (t.laneSet m).drops) (f := fun t b => acquire b t) (fun t b => by simp) bs _).trans ?_
  refine (forEach_keeps (fun t => (t.laneSet m).drops) (f := batchRelease) (fun t b => by simp) bs _).trans ?_
  exact forEach_keeps (fun t => (t.laneSet m).drops) (f := batchUnwait) (fun t b => by simp) bs s

/-- A send queue is left as it was or emptied. -/
def QueuesCut (s t : State) : Prop :=
  ∀ l n, (t.line l).queues.get n = (s.line l).queues.get n ∨ (t.line l).queues.get n = []

theorem QueuesCut.of_lines {s t : State} (h : t.lines = s.lines) : QueuesCut s t := fun l n =>
  .inl (by rw [State.line, h]; rfl)

theorem QueuesCut.trans {s t u : State} (h : QueuesCut s t) (k : QueuesCut t u) : QueuesCut s u := fun l n =>
  (k l n).elim (fun hk => (h l n).imp hk.trans hk.trans) .inr

theorem queuesCut_freeTheLane (l : LineNo) (n : LaneNo) (s : State) : QueuesCut s (freeTheLane l n s) := by
  intro m k
  have hline : (freeTheLane l n s).line m =
      ((setLane l n .free s).modLine l fun x => { x with queues := x.queues.set n [] }).line m := rfl
  rw [hline, State.line_modLine]
  split
  · dsimp only
    rw [Table.get_set]
    split
    · exact .inr rfl
    · exact .inl rfl
  · exact .inl rfl

theorem queuesCut_handOver (l : LineNo) (n : LaneNo) (w : BerthNo) (s : State) : QueuesCut s (handOver l n w s) := by
  unfold handOver
  split
  · exact queuesCut_freeTheLane l n s
  · refine .of_lines ?_
    dsimp only
    rw [forEach_lines _ _ fun t b => by simp]
    simp

theorem queuesCut_releaseLane (b : BerthNo) (n : LaneNo) (s : State) : QueuesCut s (releaseLane b n s) := by
  have hfield : QueuesCut s (setLaneField b .none s) := .of_lines (by simp)
  unfold releaseLane
  dsimp only
  split
  · exact hfield
  · split
    · exact hfield.trans (.of_lines (by simp))
    · split
      · exact hfield.trans (queuesCut_freeTheLane _ _ _)
      · exact hfield.trans (queuesCut_handOver _ n _ _)

theorem queuesCut_applyBatch (bs : List BerthNo) (s : State) : QueuesCut s (applyBatch bs s) := by
  have hrelease : ∀ t b, QueuesCut t (batchRelease t b) := fun t b => by
    unfold batchRelease
    split
    · exact queuesCut_releaseLane b _ t
    · exact .of_lines rfl
  have hunwaited : QueuesCut s (forEach bs batchUnwait s) := .of_lines (forEach_lines bs s fun t b => by simp)
  have hreleased := forEach_invariant (fun t => QueuesCut s t) bs (f := batchRelease)
    (fun t b _ ht => ht.trans (hrelease t b)) hunwaited
  exact hreleased.trans (.of_lines (forEach_lines bs _ fun t b => by simp))

theorem applyBatch_eq (bs : List BerthNo) (s : State) : applyBatch bs s =
    { s with berths := (applyBatch bs s).berths, lines := (applyBatch bs s).lines, lanes := (applyBatch bs s).lanes } := by
  obtain ⟨hdevice, hcount, hlink, hevents, hpending, hmedia, hann, hchimes, hmix, hcoach, hlow, hboundary, hqueue⟩ :=
    applyBatch_frame bs s
  generalize applyBatch bs s = t at *
  cases s
  cases t
  simp only at *
  subst_vars
  rfl

/-! ## The commit -/

theorem exec_commitDue {s : State} (h : Up s) : exec .commitDue s =
    .next (if (openBoundary s).boundary.commitDue then takeCommit (openBoundary s) else s) := by
  show Host.Outcome.next (whenUp s _) = _
  rw [whenUp_of_up h]

/-- The part with the staged fields carried over and no lane work done yet. -/
def carried (s : State) : State := s.setBerths (s.berths.map (commitBerth s))

theorem berth_carried (s : State) (b : BerthNo) : (carried s).berth b = commitBerth s (s.berth b) := Table.get_map ..

theorem carryOutCommit_eq (s : State) : carryOutCommit s =
    raise .commitDone (((applyBatch (commitBatch s) (carried s)).setCommitPending false).modBoundary fun v =>
      { v with commitDue := false }) := rfl

theorem live_carryOutCommit (s : State) (b : BerthNo) :
    (carryOutCommit s).live b = { (commitBerth s (s.berth b)).live with lane := ((carryOutCommit s).live b).lane } := by
  have hrest : rest ((carryOutCommit s).live b) = rest (commitBerth s (s.berth b)).live := by
    rw [← berth_carried]
    exact rest_live_applyBatch (commitBatch s) (carried s) b
  show { rest ((carryOutCommit s).live b) with lane := ((carryOutCommit s).live b).lane } = _
  rw [hrest]
  rfl

theorem staged_carryOutCommit (s : State) (b : BerthNo) : (carryOutCommit s).staged b = .empty := by
  have hstaged : (carryOutCommit s).staged b = (carried s).staged b := staged_applyBatch (commitBatch s) (carried s) b
  exact hstaged.trans ((congrArg Berth.staged (berth_carried s b)).trans (staged_commitBerth s _))

theorem commitBatch_eq (s : State) : commitBatch s = allBerths.filter fun b => decide (s.presence b = .present ∧
    (((carryOutCommit s).live b).programme ≠ (s.live b).programme ∨ ((carryOutCommit s).live b).picture ≠ (s.live b).picture)) := by
  refine List.filter_congr fun b _ => ?_
  rw [live_carryOutCommit s b]
  rw [Bool.eq_iff_iff, decide_eq_true_iff]
  simp only [routeMoves, Bool.and_eq_true, Bool.or_eq_true, beq_iff_eq, bne_iff_ne]
  rfl

/-- Settles O20: the records are written berth by berth, then the batch of the routes that changed is worked off. -/
theorem commitDueCarriesStagedFields : Obligations.CommitDueCarriesStagedFields := by
  intro s hup
  rw [exec_commitDue hup]
  generalize openBoundary s = o
  refine ⟨fun hdue => by rw [hdue]; rfl, fun hdue => ⟨takeCommit o, by rw [if_pos hdue], ?_⟩⟩
  have hwork := carryOutCommit_eq o
  have htake : takeCommit o = carryOutCommit o := if_pos hdue
  have hlive := live_carryOutCommit o
  have hstaged := staged_carryOutCommit o
  have hcarried : ∀ b, (carried o).berth b =
      { (carryOutCommit o).berth b with live := { (carryOutCommit o).live b with lane := (o.live b).lane } } := fun b => by
    rw [hlive b]
    show (carried o).berth b = Berth.mk _ ((carryOutCommit o).staged b)
    rw [hstaged b, berth_carried, ← staged_commitBerth o (o.berth b)]
    exact congrArg (Berth.mk · _) (congrArg ({ (commitBerth o (o.berth b)).live with lane := · }) (lane_commitBerth o (o.berth b)))
  have hbatch := commitBatch_eq o
  rw [htake]
  have heq := applyBatch_eq (commitBatch o) (carried o)
  have hbare := bare_line_applyBatch (commitBatch o) (carried o)
  have hdrops := drops_applyBatch (commitBatch o) (carried o)
  have hqueues := queuesCut_applyBatch (commitBatch o) (carried o)
  have hunwaited := inTurn_forEach releasedWait_batchUnwait (commitBatch o) (carried o)
  have hreleased := inTurn_forEach releasedLane_batchRelease (commitBatch o) (forEach (commitBatch o) batchUnwait (carried o))
  have hacquired := inTurn_forEach (f := fun t b => acquire b t) (fun t b => acquired_acquire b t) (commitBatch o)
    (forEach (commitBatch o) batchRelease (forEach (commitBatch o) batchUnwait (carried o)))
  refine ⟨?_, fun l => ⟨?_, ?_, ?_⟩, hstaged, fun b hempty => ?_, fun b hheld => ⟨?_, fun n hn => ?_⟩, ?_⟩
  · rw [hwork]
    generalize applyBatch (commitBatch o) (carried o) = u at heq
    rw [heq]
    rfl
  · exact line_eq_of_bare (hbare l)
  · exact hdrops l
  · exact hqueues l
  · rw [hlive b]
    have hsame : commitBerth o (o.berth b) = o.berth b := if_pos hempty
    rw [hsame]
    rfl
  · rw [hlive b, live_commitBerth_of_held (x := o.berth b) hheld, clampTrack_eq]
    rfl
  · rw [hlive b, live_commitBerth_of_held (x := o.berth b) hheld, clampTrack_eq]
    exact hasAttr_carryFields (o.staged b) (o.live b) hn
  · refine ⟨carried o, forEach (commitBatch o) batchUnwait (carried o),
      forEach (commitBatch o) batchRelease (forEach (commitBatch o) batchUnwait (carried o)),
      applyBatch (commitBatch o) (carried o), ⟨rfl, hcarried⟩, ?_, ?_, ?_, rfl, rfl, rfl⟩
    all_goals rw [← hbatch]
    · exact hunwaited
    · exact hreleased
    · exact hacquired

end Sys2Proof.Machine
end

section
/-! PROOFS. A GOOD reply from a PRESENT berth: requests not taken, locked berths, calls (O29). -/

namespace Sys2Proof.Machine

section
variable {s : State} {b : BerthNo}

/-- What the reply has written before its request is looked at. -/
theorem putToggle_sensed (toggle o h : Bool) :
    putToggle b toggle (writeSensed b o h ((s.modLine (lineOf b) fun x => { x with slotOpen := false }).modLinkOf b goodLink)) =
      replied s b { goodLink (s.linkOf b) with takenToggle := toggle }
        { s.live b with attrs := putAttr (putAttr (s.live b).attrs attrOccupied o) attrHeadphone h } := by
  have hslot := (State.modLinkOf_modLinkOf (s.modLine (lineOf b) fun x => { x with slotOpen := false }) b goodLink
    fun r => { r with takenToggle := toggle }).trans
      (modLinkOf_modLine_eq_slotDone s b fun r => { goodLink r with takenToggle := toggle })
  exact congrArg (fun t => writeSensed b o h t) hslot

theorem goodFromPresent_of_untaken {q : Option BerthRequest} {toggle o h : Bool}
    (hq : q = none ∨ toggle = (s.linkOf b).takenToggle ∨
      ∃ r, q = some r ∧ handOnRequest b r (writeSensed b o h
        ((s.modLine (lineOf b) fun x => { x with slotOpen := false }).modLinkOf b goodLink)) =
          writeSensed b o h ((s.modLine (lineOf b) fun x => { x with slotOpen := false }).modLinkOf b goodLink)) :
    goodFromPresent b q toggle o h (s.modLine (lineOf b) fun x => { x with slotOpen := false }) =
      replied s b { goodLink (s.linkOf b) with takenToggle := toggle }
        { s.live b with attrs := putAttr (putAttr (s.live b).attrs attrOccupied o) attrHeadphone h } := by
  rw [← putToggle_sensed]
  have hlink : ((s.modLine (lineOf b) fun x => { x with slotOpen := false }).linkOf b).takenToggle = (s.linkOf b).takenToggle := by
    simp [State.linkOf]
  unfold goodFromPresent
  dsimp only
  rw [hlink]
  cases q with
  | none => rfl
  | some r =>
    dsimp only
    split
    · rfl
    next htoggle =>
      rcases hq with hq | hq | ⟨r', hr, hkept⟩
      · cases hq
      · exact absurd hq htoggle
      · cases hr
        rw [hkept]

theorem goodFromPresent_of_taken {q : BerthRequest} {toggle o h : Bool} (htoggle : toggle ≠ (s.linkOf b).takenToggle) :
    goodFromPresent b (some q) toggle o h (s.modLine (lineOf b) fun x => { x with slotOpen := false }) =
      putToggle b toggle (handOnRequest b q (writeSensed b o h
        ((s.modLine (lineOf b) fun x => { x with slotOpen := false }).modLinkOf b goodLink))) := by
  have hlink : ((s.modLine (lineOf b) fun x => { x with slotOpen := false }).linkOf b).takenToggle = (s.linkOf b).takenToggle := by
    simp [State.linkOf]
  unfold goodFromPresent
  dsimp only
  rw [hlink, if_neg htoggle]

end

theorem takeBerthRequest_of_locked {s : State} {b : BerthNo} (h : hasAttr (s.live b).attrs attrLock = true) (q : BerthRequest) :
    takeBerthRequest b q s = s := if_pos h

theorem takeBerthRequest_unlisted (s : State) (b : BerthNo) : takeBerthRequest b .unlisted s = s := by
  have hsame : (s.modLive b fun _ => s.live b) = s := congrArg s.setBerths (Table.set_get_self s.berths b)
  unfold takeBerthRequest
  dsimp only [applyRequest]
  rw [hsame]
  split
  · rfl
  · simp

theorem exec_goodFromPresent {s : State} {b : BerthNo} {k a f v : Byte} (hslot : SlotOf s (lineOf b) b)
    (hp : s.presence b = .present) (hsum : k + a + f + v = 0) :
    exec (.replySlotComplete (lineOf b) (.sent [k, a, f, v])) s =
      .next (goodFromPresent b (replyRequest k a) (f.getLsbD 0) (f.getLsbD 1) (f.getLsbD 2)
        (s.modLine (lineOf b) fun x => { x with slotOpen := false })) := by
  rw [exec_replySlotComplete_of_slotOf hslot (.inr hp), classify_of_sum hsum]
  exact congrArg Host.Outcome.next (if_pos hp)

theorem replyRequest_unlisted {k : Byte} (a : Byte) (h : 12 ≤ k.toNat) : replyRequest k a = some .unlisted := by
  unfold replyRequest
  obtain ⟨n, hn⟩ : ∃ n, k.toNat = n + 12 := ⟨k.toNat - 12, by omega⟩
  rw [hn]
  rfl

/-- Settles O29: the reply writes link record and indications, then its request may add or drop a call. -/
theorem goodReplyFromPresentBerth : Obligations.GoodReplyFromPresentBerth := by
  intro s l b k a f v hslot hp hsum r' base sent
  obtain rfl := hslot.line
  have hexec : sent = _ := exec_goodFromPresent hslot hp hsum
  have hbase : replied s b { goodLink (s.linkOf b) with takenToggle := f.getLsbD 0 }
      { s.live b with attrs := putAttr (putAttr (s.live b).attrs attrOccupied (f.getLsbD 1)) attrHeadphone (f.getLsbD 2) } =
      base := by
    rw [putSensed_eq]
    rfl
  rw [hexec]
  refine ⟨fun h => ?_, fun hkind hlock => ?_, fun hk htoggle => ⟨fun hcall => ?_, fun hcall => ?_⟩, fun hk htoggle => ?_⟩
  · rw [goodFromPresent_of_untaken, hbase]
    rcases h with h | h | h
    · subst h
      exact .inl rfl
    · exact .inr (.inl h)
    · exact .inr (.inr ⟨.unlisted, replyRequest_unlisted a h, takeBerthRequest_unlisted _ b⟩)
  · rw [goodFromPresent_of_untaken, hbase]
    by_cases h0 : k.toNat = 0
    · refine .inl ?_
      rw [replyRequest, h0]
      rfl
    · obtain ⟨q, hq, howner, -⟩ := exists_request_of_kind a (Nat.one_le_iff_ne_zero.2 h0) hkind
      refine .inr (.inr ⟨q, hq, ?_⟩)
      rw [howner, takeBerthRequest_of_locked]
      unfold writeSensed
      rw [State.live_modLive_same, hasAttr_lock_putSensed]
      exact hlock
  · subst hk
    rw [goodFromPresent_of_untaken, hbase]
    refine .inr (.inr ⟨.call, rfl, ?_⟩)
    exact if_pos (by unfold hasCall; exact hcall)
  · subst hk
    show Host.Outcome.next (goodFromPresent b (some .call) _ _ _ _) = _
    rw [goodFromPresent_of_taken htoggle, ← hbase, ← putToggle_sensed]
    have hnone : ∀ t : State, t.coach = s.coach → ¬ hasCall t b = true := fun t ht => by
      unfold hasCall
      rw [ht]
      exact Bool.eq_false_iff.1 hcall
    show Host.Outcome.next (putToggle b _ (takeCall b _)) = _
    generalize hu : writeSensed b (f.getLsbD 1) (f.getLsbD 2) _ = u
    rw [takeCall, if_neg (hnone u (by rw [← hu]; rfl)), ← hu]
    rfl
  · subst hk
    show Host.Outcome.next (goodFromPresent b (some .callCancel) _ _ _ _) = _
    rw [goodFromPresent_of_taken htoggle, ← hbase, ← putToggle_sensed]
    rfl

end Sys2Proof.Machine
end

section
/-! PROOFS. What a berth that leaves PRESENT leaves behind (R4, R5, R72 to R74, R121). -/

namespace Sys2Proof.Machine

/-- The live record of a berth that leaves PRESENT for `v`, its lane field apart. -/
def leftLive (v : Presence) (r : LiveRecord) : LiveRecord :=
  { r with presence := v, attrs := putAttr (putAttr r.attrs attrOccupied false) attrHeadphone false }

/-- The mix state of a berth that leaves PRESENT. -/
def leftMix (m : MixState) : MixState :=
  { m with floor := none, gate := mute, duck := 0, gateTarget := mute, duckTarget := 0 }

/-! ## The lane work does not look at presence and attributes -/

section
variable (v : Presence) (b : BerthNo) (s : State)

theorem lane_modLive_left (c : BerthNo) : ((s.modLive b (leftLive v)).live c).lane = (s.live c).lane := by
  rw [s.live_modLive]
  split <;> rfl

theorem programme_modLive_left (c : BerthNo) : ((s.modLive b (leftLive v)).live c).programme = (s.live c).programme := by
  rw [s.live_modLive]
  split <;> rfl

theorem setLaneField_modLive_left (c : BerthNo) (w : LaneField) :
    setLaneField c w (s.modLive b (leftLive v)) = (setLaneField c w s).modLive b (leftLive v) :=
  congrArg s.setBerths (Table.modify_comm s.berths b c (f := fun x => { x with live := leftLive v x.live })
    (g := fun x => { x with live := { x.live with lane := w } }) fun _ => rfl)

theorem forEach_setLaneField_modLive_left (w : LaneField) (bs : List BerthNo) :
    forEach bs (fun t c => setLaneField c w t) (s.modLive b (leftLive v)) =
      (forEach bs (fun t c => setLaneField c w t) s).modLive b (leftLive v) := by
  induction bs generalizing s with
  | nil => rfl
  | cons c bs ih =>
    show forEach bs _ (setLaneField c w (s.modLive b (leftLive v))) = _
    rw [setLaneField_modLive_left]
    exact ih (setLaneField c w s)

theorem handOver_modLive_left (l : LineNo) (n : LaneNo) (w : BerthNo) :
    handOver l n w (s.modLive b (leftLive v)) = (handOver l n w s).modLive b (leftLive v) := by
  have hset : ∀ t : State, ∀ m, (t.modLive b (leftLive v)).laneSet m = t.laneSet m := fun _ _ => rfl
  unfold handOver
  simp only [programme_modLive_left, hset]
  split
  · rfl
  · exact forEach_setLaneField_modLive_left v b (setWaits l _ (setLane l n _ s)) _ _

theorem releaseLane_modLive_left (c : BerthNo) (n : LaneNo) :
    releaseLane c n (s.modLive b (leftLive v)) = (releaseLane c n s).modLive b (leftLive v) := by
  have hset : ∀ t : State, ∀ m, (t.modLive b (leftLive v)).laneSet m = t.laneSet m := fun _ _ => rfl
  unfold releaseLane
  simp only [setLaneField_modLive_left, hset]
  split
  · rfl
  · split
    · rfl
    · split
      · rfl
      · exact handOver_modLive_left v b _ _ n _

theorem releaseRoute_modLive_left (c : BerthNo) :
    releaseRoute c (s.modLive b (leftLive v)) = (releaseRoute c s).modLive b (leftLive v) := by
  unfold releaseRoute
  simp only [lane_modLive_left]
  split
  · rfl
  · exact releaseLane_modLive_left v b s c _
  · exact setLaneField_modLive_left v b (setWaits (lineOf c) _ s) c .none

end

theorem releaseRoute_eq (b : BerthNo) (s : State) : releaseRoute b s =
    { s with berths := (releaseRoute b s).berths, lanes := (releaseRoute b s).lanes, lines := (releaseRoute b s).lines } := by
  obtain ⟨hdevice, hcount, hlink, hevents, hpending, hmedia, hann, hchimes, hmix, hcoach, hlow, hboundary, hqueue⟩ :=
    releaseRoute_frame b s
  generalize releaseRoute b s = t at *
  cases s
  cases t
  simp_all

/-! ## Leaving PRESENT -/

/-- The announcements without the berth among the audience of its floor. -/
def unheardAnn (b : BerthNo) (s : State) : Announcer :=
  match (s.mixOf b).floor with
  | none => s.ann
  | some h => { s.ann with
      entries := s.ann.entries.map fun e => if e.handle = h then { e with audience := e.audience - 1 } else e }

theorem dropFloorAudience_eq (b : BerthNo) (s : State) : dropFloorAudience b s = { s with ann := unheardAnn b s } := by
  unfold unheardAnn dropFloorAudience
  cases (s.mixOf b).floor <;> rfl

theorem unheardAnn_congr {s t : State} {b : BerthNo} (hmix : t.mixOf b = s.mixOf b) (hann : t.ann = s.ann) :
    unheardAnn b t = unheardAnn b s := by
  unfold unheardAnn
  rw [hmix, hann]

theorem notify_of_present {s : State} {b : BerthNo} {v : Presence} (hp : s.presence b = .present) (hv : v ≠ .present)
    (hx : v ≠ .excluded) : notify v b s =
      raise .berthPresence { (releaseRoute b s).modLive b (leftLive v) with
        ann := unheardAnn b s, mix := s.mix.modify b leftMix } := by
  have hchanged : ¬ s.presence b = v := fun h => hv (h.symm.trans hp)
  have hlive : ((s.modLive b fun r => { r with presence := v }).modLive b fun r =>
      { r with attrs := putAttr (putAttr r.attrs attrOccupied false) attrHeadphone false }) = s.modLive b (leftLive v) :=
    congrArg s.setBerths (Table.modify_modify s.berths b (fun x => { x with live := { x.live with presence := v } })
      fun x => { x with live := { x.live with
        attrs := putAttr (putAttr x.live.attrs attrOccupied false) attrHeadphone false } })
  obtain ⟨-, -, -, -, -, -, hann, -, hmix, -⟩ := releaseRoute_frame b s
  have hheard : unheardAnn b ((releaseRoute b s).modLive b (leftLive v)) = unheardAnn b s :=
    unheardAnn_congr (congrArg (fun m : Table MixState berthCount => m.get b) hmix) hann
  unfold notify
  dsimp only
  rw [if_neg hchanged, if_pos hp, if_neg hv, if_neg hx, leavesPresent, hlive, releaseRoute_modLive_left]
  unfold mixLeavesPresent
  rw [dropFloorAudience_eq, hheard, ← hmix]
  rfl

/-! ### What has changed, and what is left -/

theorem leftPresent_of {s t : State} {b : BerthNo} {v : Presence} (hlive : t.live b = leftLive v { s.live b with lane := .none })
    (hstaged : t.staged b = s.staged b) (hmix : t.mixOf b = leftMix (s.mixOf b)) : LeftPresent s t b v := by
  refine ⟨?_, fun n hn => ?_, hstaged, hmix⟩
  · rw [hlive]
    rfl
  · rw [hlive]
    show hasAttr (putAttr (putAttr (s.live b).attrs attrOccupied false) attrHeadphone false) n = _
    rw [hasAttr_putAttr _ _ _ _ hn, hasAttr_putAttr _ _ _ _ hn]
    interval_cases n <;> simp [attrOccupied, attrHeadphone]

section
variable {s : State} {b : BerthNo} {v : Presence} (hp : s.presence b = .present) (hv : v ≠ .present) (hx : v ≠ .excluded)
include hp hv hx

theorem notify_eq_of_present : notify v b s = { s with
    berths := (notify v b s).berths, lanes := (notify v b s).lanes, mix := (notify v b s).mix, ann := (notify v b s).ann,
    lines := (notify v b s).lines, events := { s.events with flags := s.events.flags ||| eventMask .berthPresence } } := by
  rw [notify_of_present hp hv hx]
  have heq := releaseRoute_eq b s
  generalize releaseRoute b s = u at heq
  generalize unheardAnn b s = ann
  rw [heq]
  rfl

theorem lanesReleased_notify : LanesReleased s (notify v b s) b := by
  refine ⟨releaseRoute b s, released_releaseRoute b s, ?_⟩
  rw [notify_of_present hp hv hx]
  refine ⟨rfl, rfl, fun c hc => ?_⟩
  exact Table.get_modify_ne _ (Ne.symm hc) _

theorem onlyAudiences_notify : OnlyAudiences s (notify v b s) := by
  rw [notify_of_present hp hv hx]
  show unheardAnn b s = { s.ann with entries := (unheardAnn b s).entries } ∧ (unheardAnn b s).entries.map _ = _
  unfold unheardAnn
  split
  · exact ⟨rfl, rfl⟩
  · refine ⟨rfl, ?_⟩
    rw [List.map_map]
    refine List.map_congr_left fun e _ => ?_
    rw [Function.comp_apply]
    split <;> rfl

theorem berth_notify_of_ne {c : BerthNo} (hc : c ≠ b) : (notify v b s).berth c =
    { s.berth c with live := { s.live c with lane := ((notify v b s).live c).lane } } := by
  have hberth : (notify v b s).berth c = (releaseRoute b s).berth c := by
    rw [notify_of_present hp hv hx]
    exact Table.get_modify_ne _ (Ne.symm hc) _
  have hlive : (notify v b s).live c = (releaseRoute b s).live c := congrArg Berth.live hberth
  have hstaged : (notify v b s).staged c = (releaseRoute b s).staged c := congrArg Berth.staged hberth
  refine berth_eq_of_rest ?_ (hstaged.trans (staged_releaseRoute b s c))
  rw [hlive]
  exact rest_live_releaseRoute b s c

theorem mixOf_notify (c : BerthNo) : (notify v b s).mixOf c = if b = c then leftMix (s.mixOf c) else s.mixOf c := by
  rw [notify_of_present hp hv hx]
  exact Table.get_modify ..

theorem leftPresent_notify (h : RoutesBut (fun _ => False) s) : LeftPresent s (notify v b s) b v := by
  have hberth : (notify v b s).berth b =
      { (releaseRoute b s).berth b with live := leftLive v ((releaseRoute b s).live b) } := by
    rw [notify_of_present hp hv hx]
    exact Table.get_modify_same ..
  have hrest : (releaseRoute b s).live b = { s.live b with lane := .none } := by
    have hlane := lane_releaseRoute (b := b) h
    show { rest ((releaseRoute b s).live b) with lane := ((releaseRoute b s).live b).lane } = _
    rw [hlane, rest_live_releaseRoute]
    rfl
  have hlive : (notify v b s).live b = leftLive v { s.live b with lane := .none } := by
    rw [← hrest]
    exact congrArg Berth.live hberth
  exact leftPresent_of hlive ((congrArg Berth.staged hberth).trans (staged_releaseRoute b s b))
    ((mixOf_notify hp hv hx b).trans (if_pos rfl))

end

end Sys2Proof.Machine
end

section
/-! PROOFS. Lost replies and the drop at a miss count of 16 (O26); collisions, and slots not examined (O27). -/

namespace Sys2Proof.Machine

/-! ## The state that a slot leaves before any notification -/

section
variable {s : State} {b : BerthNo}

theorem linkOf_slotDone (s : State) (b : BerthNo) (r : LinkRecord) : (slotDone s (lineOf b) b r).linkOf b = r := by
  simp [slotDone, State.linkOf, State.line]

theorem routesBut_slotDone (h : LanesHold s) (r : LinkRecord) : RoutesBut (fun _ => False) (slotDone s (lineOf b) b r) := by
  refine h.routes.congr (fun _ => rfl) (fun _ => rfl) (fun l n _ hq => ?_) (fun _ => rfl) fun _ _ => rfl
  show ((s.lines.set (lineOf b) _).get l).queues.get n = []
  rw [Table.get_set]
  split
  next hl => subst hl; exact hq
  · exact hq

/-- Everything that a reply leaves when its berth then leaves PRESENT. -/
theorem left_notify_slotDone (h : LanesHold s) (hp : s.presence b = .present) {v : Presence} (hv : v ≠ .present)
    (hx : v ≠ .excluded) (r : LinkRecord) :
    let o := slotDone s (lineOf b) b r
    let t := notify v b o
    t = { o with berths := t.berths, lanes := t.lanes, mix := t.mix, ann := t.ann, lines := t.lines,
                 events := { s.events with flags := s.events.flags ||| eventMask .berthPresence } } ∧
      LeftPresent s t b v ∧ LanesReleased o t b ∧ OnlyAudiences s t ∧
      (∀ m, t.line m = { o.line m with queues := (t.line m).queues }) ∧
      ∀ c, c ≠ b → t.berth c = { s.berth c with live := { s.live c with lane := (t.live c).lane } } ∧
        t.mixOf c = s.mixOf c := by
  intro o t
  have hpo : o.presence b = .present := hp
  obtain ⟨hlive, hattrs, hstaged, hmix⟩ := leftPresent_notify hpo hv hx (routesBut_slotDone h r)
  exact ⟨notify_eq_of_present hpo hv hx, ⟨hlive, hattrs, hstaged, hmix⟩, lanesReleased_notify hpo hv hx,
    onlyAudiences_notify hpo hv hx, fun m => line_eq_of_bare (bare_line_notify v b o m),
    fun c hc => ⟨berth_notify_of_ne hpo hv hx hc, (mixOf_notify hpo hv hx c).trans (if_neg (Ne.symm hc))⟩⟩

end

/-! ## Lost replies (R36, R40) -/

/-- The three classes of a lost reply, with the link record that each makes. -/
theorem lost_of_signal {signal : SlotSignal} {r r' : LinkRecord}
    (h : (signal = .silent ∧
        r' = { r with missCount := min 16 (r.missCount + 1), collisionRun := 0, silent := min 65535 (r.silent + 1) }) ∨
      (SentNoReply signal ∧
        r' = { r with missCount := min 16 (r.missCount + 1), framingFlag := true, framing := min 65535 (r.framing + 1) }) ∨
      (∃ k a f v : Byte, signal = .sent [k, a, f, v] ∧ k + a + f + v ≠ 0 ∧
        r' = { r with missCount := min 16 (r.missCount + 1), checkFlag := true, check := min 65535 (r.check + 1) })) :
    ∃ o, classify signal = o ∧ lostLink o r = r' ∧ isLost signal = true ∧
      (∀ b t, applyOutcome b o t = applyLost o b t) ∧ r'.missCount = min 16 (r.missCount + 1) := by
  rcases h with ⟨rfl, rfl⟩ | ⟨hsent, rfl⟩ | ⟨k, a, f, v, rfl, hsum, rfl⟩
  · exact ⟨.silent, rfl, rfl, rfl, fun _ _ => rfl, rfl⟩
  · have hclass : classify signal = .framing := by
      cases signal with
      | silent => exact hsent.elim
      | collision => exact hsent.elim
      | undecoded => rfl
      | sent bytes =>
        rcases bytes with _ | ⟨a, _ | ⟨b, _ | ⟨c, _ | ⟨d, _ | ⟨e, rest⟩⟩⟩⟩⟩
        case cons.cons.cons.cons.nil => exact absurd rfl hsent
        all_goals rfl
    exact ⟨.framing, hclass, rfl, by rw [isLost, hclass], fun _ _ => rfl, rfl⟩
  · have hclass : classify (.sent [k, a, f, v]) = .check := by
      have hbad : ¬ byteSum [k, a, f, v] = 0 := fun h0 => hsum (by simpa [byteSum] using h0)
      rw [classify, if_neg hbad]
    exact ⟨.check, hclass, rfl, by rw [isLost, hclass], fun _ _ => rfl, rfl⟩

section
variable {s : State} {l : LineNo} {b : BerthNo} (hslot : SlotOf s l b)
include hslot

theorem exec_berthDropped (hp : s.presence b = .absent ∨ s.presence b = .present) {signal : SlotSignal}
    (hlost : isLost signal = true) : exec (.berthDropped l signal) s =
      if s.presence b = .present ∧ 15 ≤ (s.linkOf b).missCount then exec (.replySlotComplete l signal) s else .next s := by
  have hdue : dropDue s l = true ↔ s.presence b = .present ∧ 15 ≤ (s.linkOf b).missCount := by
    rw [dropDue, slotBerth_of_slotOf hslot, slotExamined_of_slotOf hslot hp, hslot.opened]
    simp [missLimit]
  have hup := hslot.up
  show Host.Outcome.next (whenUp s _) = _
  rw [whenUp_of_up hup, hlost, Bool.and_true]
  split
  next h => rw [if_pos (hdue.1 h)]; exact (exec_replySlotComplete hup l signal).symm
  next h => rw [if_neg (fun hc => h (hdue.2 hc))]

end

/-- Settles O26: the lost reply is counted, and at a miss count of 16 a PRESENT berth is notified ABSENT. -/
theorem lostRepliesRaiseMissCount : Obligations.LostRepliesRaiseMissCount := by
  intro s l b signal hslot hlanes hp r' r hsignal
  obtain ⟨o, hclass, hlink, hlost, happly, hmiss⟩ := lost_of_signal hsignal
  obtain rfl := hslot.line
  have hdone : (s.modLine (lineOf b) fun x => { x with slotOpen := false }).modLinkOf b (lostLink o) =
      slotDone s (lineOf b) b r' := by
    rw [modLinkOf_modLine_eq_slotDone]
    exact congrArg _ hlink
  have hexec : exec (.replySlotComplete (lineOf b) signal) s = .next (if s.presence b = .present ∧ 15 ≤ r.missCount then
      notify .absent b (slotDone s (lineOf b) b r') else slotDone s (lineOf b) b r') := by
    rw [exec_replySlotComplete_of_slotOf hslot hp, hclass, happly, applyLost, hdone, linkOf_slotDone, hmiss]
    have hcount : min 16 (r.missCount + 1) = missLimit ↔ 15 ≤ r.missCount := by unfold missLimit; omega
    simp only [hcount]
    rfl
  have hdropped := exec_berthDropped hslot hp hlost
  refine ⟨fun hkeeps => ?_, fun hpresent hrun => ?_⟩
  · have hnot : ¬ (s.presence b = .present ∧ 15 ≤ r.missCount) := fun ⟨hpresent, hrun⟩ => by
      rcases hkeeps with h | h
      · rw [h] at hpresent; cases hpresent
      · omega
    rw [hdropped, hexec, if_neg hnot, if_neg hnot]
    exact ⟨rfl, rfl⟩
  · rw [hdropped, if_pos ⟨hpresent, hrun⟩, hexec, if_pos ⟨hpresent, hrun⟩]
    exact ⟨_, rfl, rfl, left_notify_slotDone hlanes hpresent (by decide) (by decide) r'⟩

/-! ## Collisions (R35, R41) -/

section
variable {s : State} {l : LineNo} {b : BerthNo} (hslot : SlotOf s l b) (hp : s.presence b = .absent ∨ s.presence b = .present)
include hslot hp

theorem exec_berthConflict : exec (.berthConflict l) s =
    if 2 ≤ (s.linkOf b).collisionRun then exec (.replySlotComplete l .collision) s else .next s := by
  have hdue : conflictDue s l = true ↔ 2 ≤ (s.linkOf b).collisionRun := by
    rw [conflictDue, slotBerth_of_slotOf hslot, slotExamined_of_slotOf hslot hp, hslot.opened]
    simp [collisionLimit]
  have hup := hslot.up
  show Host.Outcome.next (whenUp s _) = _
  rw [whenUp_of_up hup]
  split
  next h => rw [if_pos (hdue.1 h)]; exact (exec_replySlotComplete hup l .collision).symm
  next h => rw [if_neg (fun hc => h (hdue.2 hc))]

end

theorem notify_conflict_of_absent {s : State} {b : BerthNo} (h : s.presence b = .absent) : notify .conflict b s =
    raise .berthPresence (s.modLive b fun r => { r with presence := .conflict }) := by
  simp [notify, h]

theorem notExamined_of_conflict {s : State} {l : LineNo} (hup : Up s) (hopen : (s.line l).slotOpen = true)
    (h : ∀ b, SlotOf s l b → s.presence b = .conflict) : slotExamined s l = false := by
  by_contra hexamined
  simp only [Bool.not_eq_false, slotExamined, Bool.and_eq_true, Bool.or_eq_true, decide_eq_true_iff, beq_iff_eq] at hexamined
  obtain ⟨hfitted, hpresence⟩ := hexamined
  have hslot : slotOf (slotBerth s l) = ⟨slotCalled s, Nat.mod_lt _ (by decide)⟩ := slotOf_berthAt ..
  have hconflict := h (slotBerth s l) ⟨hup, hopen, lineOf_berthAt .., congrArg Fin.val hslot,
    lt_of_eq_of_lt (congrArg Fin.val hslot) hfitted⟩
  rcases hpresence with hpresence | hpresence <;> rw [hconflict] at hpresence <;> cases hpresence

/-- Settles O27: a run of 3 collisions notifies CONFLICT; a slot of a CONFLICT berth or beyond the fitted count just closes. -/
theorem collisionsAndSlotsNotExamined : Obligations.CollisionsAndSlotsNotExamined := by
  refine ⟨?_, fun s l signal hup hopen hconflict => ?_, fun s l signal hup hclosed => ?_⟩
  · intro s l b hslot hlanes hp r'
    obtain rfl := hslot.line
    have hexec : exec (.replySlotComplete (lineOf b) .collision) s = .next (if 2 ≤ (s.linkOf b).collisionRun then
        notify .conflict b (slotDone s (lineOf b) b r') else slotDone s (lineOf b) b r') := by
      rw [exec_replySlotComplete_of_slotOf hslot hp]
      show Host.Outcome.next (applyCollision b _) = _
      rw [applyCollision, modLinkOf_modLine_eq_slotDone, linkOf_slotDone]
      have hrun : countTo collisionLimit (s.linkOf b).collisionRun = collisionLimit ↔ 2 ≤ (s.linkOf b).collisionRun := by
        unfold countTo collisionLimit
        omega
      simp only [hrun]
      rfl
    rw [exec_berthConflict hslot hp]
    refine ⟨fun hrun => ?_, fun hrun => ?_⟩
    · rw [if_neg (Nat.not_le.2 hrun), hexec, if_neg (Nat.not_le.2 hrun)]
      exact ⟨rfl, rfl⟩
    · rw [if_pos hrun, hexec, if_pos hrun]
      rcases hp with habsent | hpresent
      · have hnotice := notify_conflict_of_absent (s := slotDone s (lineOf b) b r') (b := b) habsent
        have hothers : ∀ c, c ≠ b → (notify .conflict b (slotDone s (lineOf b) b r')).berth c = s.berth c := fun c hc => by
          rw [hnotice]
          exact Table.get_modify_ne _ (Ne.symm hc) _
        refine ⟨_, rfl, rfl, ?_, fun hpresent => ?_, fun _ => ?_, ?_, fun m => ?_, fun c hc => ⟨?_, ?_⟩⟩
        · rw [hnotice]; rfl
        · rw [habsent] at hpresent; cases hpresent
        · rw [hnotice]; rfl
        · rw [hnotice]; exact ⟨rfl, rfl⟩
        · rw [hnotice]; rfl
        · have hlive := congrArg Berth.live (hothers c hc)
          rw [hothers c hc]
          exact congrArg (fun v => { s.berth c with live := { s.live c with lane := v } })
            (congrArg LiveRecord.lane hlive).symm
        · rw [hnotice]; rfl
      · obtain ⟨heq, hleft, hreleased, hann, hlines, hothers⟩ :=
          left_notify_slotDone hlanes hpresent (v := .conflict) (by decide) (by decide) r'
        refine ⟨_, rfl, rfl, heq, fun _ => ⟨hleft, hreleased⟩, fun habsent => ?_, hann, hlines, hothers⟩
        rw [hpresent] at habsent
        cases habsent
  · rw [exec_replySlotComplete hup, completeSlot, if_pos hopen]
    dsimp only
    rw [if_neg (by rw [notExamined_of_conflict hup hopen hconflict]; exact Bool.false_ne_true)]
    rfl
  · rw [exec_replySlotComplete hup, completeSlot_of_closed hclosed]
    refine ⟨rfl, ?_, ?_⟩
    · show Host.Outcome.next (whenUp s _) = _
      rw [whenUp_of_up hup, dropDue, hclosed]
      rfl
    · show Host.Outcome.next (whenUp s _) = _
      rw [whenUp_of_up hup, conflictDue, hclosed]
      rfl

end Sys2Proof.Machine
end

section
/-! PROOFS. LINE STOP and a drive conflict (O24). -/

namespace Sys2Proof.Machine

/-! ## The route of a berth lies on its own line -/

/-- One line with its lanes. -/
def lineParts (l : LineNo) (s : State) : Line × LaneSet := (s.line l, s.laneSet l)

section
variable {l m : LineNo} (hml : m ≠ l) (s : State)
include hml

theorem lineParts_setLane (n : LaneNo) (v : Lane) : lineParts m (setLane l n v s) = lineParts m s := by
  rw [lineParts, setLane, s.laneSet_modLaneSet, if_neg hml.symm]
  rfl

theorem lineParts_setWaits (ws : List BerthNo) : lineParts m (setWaits l ws s) = lineParts m s := by
  rw [lineParts, setWaits, s.laneSet_modLaneSet, if_neg hml.symm]
  rfl

theorem lineParts_freeTheLane (n : LaneNo) : lineParts m (freeTheLane l n s) = lineParts m s := by
  have hline : (freeTheLane l n s).line m = s.line m := by
    rw [freeTheLane, State.line_modLine, if_neg hml.symm]
    rfl
  rw [lineParts, hline]
  exact lineParts_setLane hml s n .free

theorem lineParts_handOver (n : LaneNo) (w : BerthNo) : lineParts m (handOver l n w s) = lineParts m s := by
  unfold handOver
  split
  · exact lineParts_freeTheLane hml s n
  · refine (forEach_keeps (lineParts m) (f := fun t b => setLaneField b (.lane n) t) (fun _ _ => rfl) _ _).trans ?_
    exact (lineParts_setWaits hml _ _).trans (lineParts_setLane hml s n _)

end

theorem lineParts_releaseRoute {b : BerthNo} {m : LineNo} (hm : m ≠ lineOf b) (s : State) :
    lineParts m (releaseRoute b s) = lineParts m s := by
  have hfield : ∀ t : State, lineParts m (setLaneField b .none t) = lineParts m t := fun _ => rfl
  unfold releaseRoute
  split
  · rfl
  · unfold releaseLane
    dsimp only
    split
    · rfl
    · split
      · exact (lineParts_setLane hm _ _ _).trans (hfield s)
      · split
        · exact (lineParts_freeTheLane hm _ _).trans (hfield s)
        · exact (lineParts_handOver hm _ _ _).trans (hfield s)
  · exact (hfield _).trans (lineParts_setWaits hm s _)

/-- A hand-over reaches berths of the line alone. -/
theorem lane_releaseRoute_of_other {B : BerthNo → Prop} {s : State} (h : RoutesBut B s) {b c : BerthNo}
    (hc : lineOf c ≠ lineOf b) : ((releaseRoute b s).live c).lane = (s.live c).lane := by
  have hcb : c ≠ b := fun hcb => hc (congrArg lineOf hcb)
  unfold releaseRoute
  split
  · rfl
  · rw [lane_releaseLane, if_neg hcb]
    exact fun hmem => hc (h.ofLine _ c hmem).1
  · exact (lane_releaseWait b s c).trans (if_neg hcb)

/-! ## One berth dropped -/

/-- What dropping its line does to one berth. -/
def dropBerth (s : State) (b : BerthNo) : State :=
  if s.presence b = .present ∨ s.presence b = .conflict then notify .absent b s else s

theorem dropLine_eq (l : LineNo) (s : State) : dropLine l s = forEach (berthsOf l) dropBerth s := rfl

/-- The live record apart from its lane field, the staged record and the mix state of a berth. -/
def berthParts (b : BerthNo) (s : State) : LiveRecord × StagedRecord × MixState := (rest (s.live b), s.staged b, s.mixOf b)

section
variable {s : State} {b : BerthNo}

theorem dropBerth_of_present (h : s.presence b = .present) : dropBerth s b = notify .absent b s := if_pos (.inl h)

theorem dropBerth_of_conflict (h : s.presence b = .conflict) : dropBerth s b =
    raise .berthPresence (s.modLive b fun r => { r with presence := .absent }) :=
  (if_pos (.inr h)).trans (notify_absent_of_conflict h)

theorem dropBerth_of_quiet (h : ¬ (s.presence b = .present ∨ s.presence b = .conflict)) : dropBerth s b = s := if_neg h

/-- The three cases of a berth whose line is dropped. -/
theorem dropBerth_cases (P : State → Prop) (hpresent : s.presence b = .present → P (notify .absent b s))
    (hconflict : s.presence b = .conflict → P (raise .berthPresence (s.modLive b fun r => { r with presence := .absent })))
    (hquiet : ¬ (s.presence b = .present ∨ s.presence b = .conflict) → P s) : P (dropBerth s b) := by
  by_cases hp : s.presence b = .present
  · rw [dropBerth_of_present hp]; exact hpresent hp
  · by_cases hc : s.presence b = .conflict
    · rw [dropBerth_of_conflict hc]; exact hconflict hc
    · rw [dropBerth_of_quiet (not_or.2 ⟨hp, hc⟩)]; exact hquiet (not_or.2 ⟨hp, hc⟩)

theorem berthParts_dropBerth_of_ne {c : BerthNo} (hc : c ≠ b) : berthParts c (dropBerth s b) = berthParts c s := by
  refine dropBerth_cases (fun t => berthParts c t = berthParts c s) (fun hp => ?_) (fun _ => ?_) fun _ => rfl
  · have hberth := berth_notify_of_ne hp (v := .absent) (by decide) (by decide) hc
    have hmix := (mixOf_notify hp (v := .absent) (by decide) (by decide) c).trans (if_neg (Ne.symm hc))
    have hlive := congrArg (fun x : Berth => rest x.live) hberth
    have hstaged := congrArg Berth.staged hberth
    exact congrArg₂ Prod.mk hlive (congrArg₂ Prod.mk hstaged hmix)
  · have hberth : ((raise .berthPresence (s.modLive b fun r => { r with presence := .absent })).berth c) = s.berth c :=
      Table.get_modify_ne _ (Ne.symm hc) _
    exact congrArg₂ Prod.mk (congrArg (fun x : Berth => rest x.live) hberth)
      (congrArg₂ Prod.mk (congrArg Berth.staged hberth) rfl)

/-- What the drop makes of the parts of the berth itself. -/
def droppedParts (x : LiveRecord × StagedRecord × MixState) : LiveRecord × StagedRecord × MixState :=
  if x.1.presence = .present then (leftLive .absent x.1, x.2.1, leftMix x.2.2)
  else if x.1.presence = .conflict then ({ x.1 with presence := .absent }, x.2)
  else x

theorem berthParts_dropBerth_self (s : State) (b : BerthNo) :
    berthParts b (dropBerth s b) = droppedParts (berthParts b s) := by
  have hread : (berthParts b s).1.presence = s.presence b := rfl
  rw [droppedParts, hread]
  refine dropBerth_cases (fun t => berthParts b t = _) (fun hp => ?_) (fun hc => ?_) fun hnot => ?_
  · rw [if_pos hp, notify_of_present hp (by decide) (by decide)]
    have hberth : ((releaseRoute b s).modLive b (leftLive .absent)).berth b =
        { (releaseRoute b s).berth b with live := leftLive .absent ((releaseRoute b s).live b) } := Table.get_modify_same ..
    have hlive : rest (leftLive .absent ((releaseRoute b s).live b)) = leftLive .absent (rest (s.live b)) :=
      congrArg (leftLive .absent) (rest_live_releaseRoute b s b)
    exact congrArg₂ Prod.mk ((congrArg (fun x : Berth => rest x.live) hberth).trans hlive)
      (congrArg₂ Prod.mk ((congrArg Berth.staged hberth).trans (staged_releaseRoute b s b)) (Table.get_modify_same ..))
  · rw [if_neg (by rw [hc]; decide), if_pos hc]
    have hberth : (raise .berthPresence (s.modLive b fun r => { r with presence := .absent })).berth b =
        { s.berth b with live := { s.live b with presence := .absent } } := Table.get_modify_same ..
    have hstaged : (raise .berthPresence (s.modLive b fun r => { r with presence := .absent })).staged b = s.staged b :=
      s.staged_modLive b b fun r => { r with presence := .absent }
    exact congrArg₂ Prod.mk (congrArg (fun x : Berth => rest x.live) hberth) (congrArg₂ Prod.mk hstaged rfl)
  · obtain ⟨hp, hc⟩ := not_or.1 hnot
    rw [if_neg hp, if_neg hc]

theorem lineParts_dropBerth {m : LineNo} (hm : m ≠ lineOf b) : lineParts m (dropBerth s b) = lineParts m s := by
  refine dropBerth_cases (fun t => lineParts m t = lineParts m s) (fun hp => ?_) (fun _ => rfl) fun _ => rfl
  rw [notify_of_present hp (by decide) (by decide)]
  exact lineParts_releaseRoute hm s

theorem drops_dropBerth (m : LineNo) : ((dropBerth s b).laneSet m).drops = (s.laneSet m).drops := by
  refine dropBerth_cases (fun t => (t.laneSet m).drops = (s.laneSet m).drops) (fun hp => ?_) (fun _ => rfl) fun _ => rfl
  rw [notify_of_present hp (by decide) (by decide)]
  exact drops_releaseRoute b s m

theorem lane_dropBerth_of_other (h : RoutesBut (fun _ => False) s) {c : BerthNo} (hc : lineOf c ≠ lineOf b) :
    ((dropBerth s b).live c).lane = (s.live c).lane := by
  have hcb : c ≠ b := fun hcb => hc (congrArg lineOf hcb)
  refine dropBerth_cases (fun t => (t.live c).lane = (s.live c).lane) (fun hp => ?_) (fun _ => ?_) fun _ => rfl
  · rw [notify_of_present hp (by decide) (by decide)]
    refine Eq.trans ?_ (lane_releaseRoute_of_other h hc)
    exact lane_modLive_left .absent b (releaseRoute b s) c
  · have hlive : (s.modLive b fun r => { r with presence := .absent }).live c = s.live c := by
      rw [s.live_modLive, if_neg (Ne.symm hcb)]
    exact congrArg LiveRecord.lane hlive

theorem onlyAudiences_dropBerth : OnlyAudiences s (dropBerth s b) :=
  dropBerth_cases (OnlyAudiences s) (fun hp => onlyAudiences_notify hp (by decide) (by decide)) (fun _ => ⟨rfl, rfl⟩)
    fun _ => ⟨rfl, rfl⟩

theorem dropBerth_frame : dropBerth s b = { s with
    lines := (dropBerth s b).lines, lanes := (dropBerth s b).lanes, berths := (dropBerth s b).berths,
    mix := (dropBerth s b).mix, ann := (dropBerth s b).ann,
    events := { s.events with flags := (dropBerth s b).events.flags } } := by
  refine dropBerth_cases (fun t => t = { s with
    lines := t.lines, lanes := t.lanes, berths := t.berths, mix := t.mix, ann := t.ann,
    events := { s.events with flags := t.events.flags } }) (fun hp => ?_) (fun _ => rfl) fun _ => rfl
  have heq := notify_eq_of_present hp (v := .absent) (by decide) (by decide)
  generalize notify .absent b s = t at heq
  rw [heq]

theorem flag_dropBerth : (dropBerth s b).flag .berthPresence =
    (s.flag .berthPresence || (s.presence b == .present || s.presence b == .conflict)) := by
  refine dropBerth_cases (fun t => t.flag .berthPresence = _) (fun hp => ?_) (fun hc => ?_) fun hnot => ?_
  · rw [notify_of_present hp (by decide) (by decide), flag_raise, hp]
    simp
  · rw [flag_raise, hc]
    simp
  · obtain ⟨hp, hc⟩ := not_or.1 hnot
    rw [beq_eq_false_iff_ne.2 hp, beq_eq_false_iff_ne.2 hc]
    simp

end

theorem OnlyAudiences.trans {s t u : State} (h : OnlyAudiences s t) (k : OnlyAudiences t u) : OnlyAudiences s u := by
  obtain ⟨hann, hentries⟩ := h
  obtain ⟨kann, kentries⟩ := k
  refine ⟨?_, kentries.trans hentries⟩
  rw [hann] at kann
  exact kann

/-! ## A line without PRESENT berths -/

section
variable {s : State} (h : LanesHold s) {l : LineNo} (hquiet : ∀ b, lineOf b = l → s.presence b ≠ .present)
include h hquiet

theorem lanes_free_of_quiet (n : LaneNo) : (s.laneSet l).lanes.get n = .free := by
  have hlane := h.lanes l n
  unfold LaneRight at hlane
  split at hlane
  · assumption
  next p c _ =>
    obtain ⟨hpos, hcount, -⟩ := hlane
    obtain ⟨b, hb, hheld⟩ := List.countP_pos_iff.1 (Nat.lt_of_lt_of_le Nat.zero_lt_one (hcount ▸ hpos))
    rw [decide_eq_true_iff, lane_of_not_present h (hquiet b ((mem_berthsOf l b).1 hb))] at hheld
    cases hheld

theorem waits_of_quiet : (s.laneSet l).waits = [] := by
  refine List.eq_nil_iff_forall_not_mem.2 fun b hb => ?_
  obtain ⟨hline, hwaiting⟩ := (h.waits l).ofLine b hb
  rw [lane_of_not_present h (hquiet b hline)] at hwaiting
  cases hwaiting

theorem queues_of_quiet : (s.line l).queues = .fill laneCount [] := by
  refine Table.ext_get fun n => ?_
  have hlane := h.lanes l n
  rw [LaneRight, lanes_free_of_quiet h hquiet n] at hlane
  rw [Table.get_fill]
  exact hlane

end

/-! ## The whole line dropped -/

theorem flag_dropBerths {bs : List BerthNo} (hnodup : bs.Nodup) (s : State) :
    (forEach bs dropBerth s).flag .berthPresence =
      (s.flag .berthPresence || bs.any fun b => s.presence b == .present || s.presence b == .conflict) := by
  induction bs generalizing s with
  | nil => exact (Bool.or_false _).symm
  | cons b bs ih =>
    obtain ⟨hb, hnodup⟩ := List.nodup_cons.1 hnodup
    have hpresence : ∀ c ∈ bs, (dropBerth s b).presence c = s.presence c := fun c hc => by
      have hcb : c ≠ b := fun hcb => hb (hcb ▸ hc)
      exact presence_of_rest (congrArg Prod.fst (berthParts_dropBerth_of_ne hcb))
    refine (ih hnodup (dropBerth s b)).trans ?_
    rw [flag_dropBerth, List.any_cons, Bool.or_assoc]
    congr 2
    rw [Bool.eq_iff_iff, List.any_eq_true, List.any_eq_true]
    exact exists_congr fun c => and_congr_right fun hc => by rw [hpresence c hc]

section
variable (l : LineNo) (s : State)

theorem berthParts_dropLine {b : BerthNo} (hb : lineOf b = l) : berthParts b (dropLine l s) = droppedParts (berthParts b s) :=
  (forEach_own_turn berthParts (f := dropBerth)
    (fun t u c htu => by rw [berthParts_dropBerth_self, berthParts_dropBerth_self, htu])
    (fun t c d hcd => berthParts_dropBerth_of_ne (Ne.symm hcd)) (nodup_berthsOf l) s ((mem_berthsOf l b).2 hb)).trans
      (berthParts_dropBerth_self s b)

theorem lineParts_dropLine {m : LineNo} (hm : m ≠ l) : lineParts m (dropLine l s) = lineParts m s := by
  refine forEach_invariant (fun t => lineParts m t = lineParts m s) (berthsOf l) (f := dropBerth)
    (fun t b hb ht => (lineParts_dropBerth ?_).trans ht) rfl
  rw [(mem_berthsOf l b).1 hb]
  exact hm

/-- The berths of the other lines stay. -/
theorem berth_dropLine_of_other (h : RoutesBut (fun _ => False) s) {b : BerthNo} (hb : lineOf b ≠ l) :
    berthParts b (dropLine l s) = berthParts b s ∧ ((dropLine l s).live b).lane = (s.live b).lane := by
  have hstep := forEach_invariant (fun t => RoutesBut (fun _ => False) t ∧ berthParts b t = berthParts b s ∧
    (t.live b).lane = (s.live b).lane) (berthsOf l) (f := dropBerth) (s := s) (fun t c hc ht => ?_) ⟨h, rfl, rfl⟩
  · exact hstep.2
  · obtain ⟨hr, hparts, hlane⟩ := ht
    have hbc : lineOf b ≠ lineOf c := fun h => hb (h.trans ((mem_berthsOf l c).1 hc))
    refine ⟨?_, (berthParts_dropBerth_of_ne (fun h => hbc (congrArg lineOf h))).trans hparts,
      (lane_dropBerth_of_other hr hbc).trans hlane⟩
    exact dropBerth_cases (RoutesBut (fun _ => False)) (fun _ => routesBut_notify hr _)
      (fun hc => notify_absent_of_conflict hc ▸ routesBut_notify hr _) fun _ => hr

theorem drops_dropLine (m : LineNo) : ((dropLine l s).laneSet m).drops = (s.laneSet m).drops :=
  forEach_keeps (fun t => (t.laneSet m).drops) (f := dropBerth) (fun _ _ => drops_dropBerth m) (berthsOf l) s

theorem onlyAudiences_dropLine : OnlyAudiences s (dropLine l s) :=
  forEach_invariant (OnlyAudiences s) (berthsOf l) (f := dropBerth) (fun _ _ _ ht => ht.trans onlyAudiences_dropBerth)
    ⟨rfl, rfl⟩

theorem flag_dropLine : (dropLine l s).flag .berthPresence = (s.flag .berthPresence ||
    (berthsOf l).any fun b => s.presence b == .present || s.presence b == .conflict) :=
  flag_dropBerths (nodup_berthsOf l) s

theorem dropLine_frame_eq : dropLine l s = { s with
    lines := (dropLine l s).lines, lanes := (dropLine l s).lanes, berths := (dropLine l s).berths,
    mix := (dropLine l s).mix, ann := (dropLine l s).ann,
    events := { s.events with flags := (dropLine l s).events.flags } } := by
  rw [dropLine_eq]
  refine forEach_invariant (fun t => t = { s with
    lines := t.lines, lanes := t.lanes, berths := t.berths, mix := t.mix, ann := t.ann,
    events := { s.events with flags := t.events.flags } }) (berthsOf l) (f := dropBerth) (fun t b _ ht => ?_) rfl
  have hstep := dropBerth_frame (s := t) (b := b)
  generalize dropBerth t b = u at hstep
  rw [ht] at hstep
  exact hstep

end

/-- A berth from its parts and its lane field. -/
theorem berth_eq_of_parts {s t : State} {b : BerthNo} (hparts : berthParts b t = berthParts b s)
    (hlane : (t.live b).lane = (s.live b).lane) : t.berth b = s.berth b ∧ t.mixOf b = s.mixOf b := by
  have hrest : rest (t.live b) = rest (s.live b) := congrArg Prod.fst hparts
  have hstaged : t.staged b = s.staged b := congrArg (fun x => x.2.1) hparts
  refine ⟨?_, congrArg (fun x => x.2.2) hparts⟩
  rw [berth_eq_of_rest hrest hstaged, hlane]
  rfl

/-- A line that leaves RUNNING or FAULTED, with its berths dropped. -/
theorem lineLeft_dropLine {s : State} (h : LanesHold s) {l : LineNo} {f : Line → Line} {now : LineState} {faults : Nat}
    (hf : f (s.line l) = { s.line l with state := now, faultCount := faults, frame := none, slotOpen := false, frameDue := false })
    (hconfig : s.device = .config → now = .off) (hnow : now ≠ .running) :
    LineLeft s (dropLine l (s.modLine l f)) l now faults := by
  have hlanes : LanesHold (dropLine l (s.modLine l f)) :=
    lanesHold_dropLine h (by rw [hf]; exact hconfig) (by rw [hf]) (by rw [hf]) (by rw [hf]) (by rw [hf])
  have hroutes : RoutesBut (fun _ => False) (s.modLine l f) := by
    refine h.routes.congr (fun _ => rfl) (fun _ => rfl) (fun m n _ hq => ?_) (fun _ => rfl) fun _ _ => rfl
    rw [s.line_modLine]
    split
    next hlm => subst hlm; rw [hf]; exact hq
    · exact hq
  have hbare : bare ((dropLine l (s.modLine l f)).line l) = bare (f (s.line l)) := by
    rw [bare_line_dropLine, s.line_modLine_same]
  have hquiet : ∀ b, lineOf b = l → (dropLine l (s.modLine l f)).presence b ≠ .present := fun b hb => by
    refine (hlanes.quietLine b ?_).1
    rw [hb, state_of_bare hbare, hf]
    exact hnow
  have hown : ∀ b, lineOf b = l → berthParts b (dropLine l (s.modLine l f)) = droppedParts (berthParts b s) :=
    fun b hb => berthParts_dropLine l (s.modLine l f) hb
  have hlineOther : ∀ m, m ≠ l → lineParts m (dropLine l (s.modLine l f)) = lineParts m s := fun m hm => by
    rw [lineParts_dropLine l _ hm, lineParts, s.line_modLine, if_neg hm.symm]
    rfl
  have hberthOther : ∀ b, lineOf b ≠ l → _ := fun b hb => berth_dropLine_of_other l (s.modLine l f) hroutes hb
  have hdrops := drops_dropLine l (s.modLine l f) l
  have hflag := flag_dropLine l (s.modLine l f)
  have hann := onlyAudiences_dropLine l (s.modLine l f)
  generalize dropLine l (s.modLine l f) = t at hlanes hbare hquiet hown hlineOther hberthOther hdrops hflag hann ⊢
  have hlane : ∀ b, lineOf b = l → (t.live b).lane = .none := fun b hb => lane_of_not_present hlanes (hquiet b hb)
  exact {
    line := by rw [line_eq_of_bare hbare, queues_of_quiet hlanes hquiet, hf]
    lanes := by
      have hfree : (t.laneSet l).lanes = .fill laneCount .free :=
        Table.ext_get fun n => (lanes_free_of_quiet hlanes hquiet n).trans (Table.get_fill _ n).symm
      show LaneSet.mk (t.laneSet l).lanes (t.laneSet l).drops (t.laneSet l).waits = _
      rw [hfree, hdrops, waits_of_quiet hlanes hquiet]
      rfl
    otherLines := fun m hm => ⟨congrArg Prod.fst (hlineOther m hm), congrArg Prod.snd (hlineOther m hm)⟩
    left := fun b hb hp => by
      have hparts := (hown b hb).trans (if_pos hp)
      have hlive : t.live b = leftLive .absent { s.live b with lane := .none } := by
        have hrest : rest (t.live b) = leftLive .absent (rest (s.live b)) := congrArg Prod.fst hparts
        show { rest (t.live b) with lane := (t.live b).lane } = _
        rw [hrest, hlane b hb]
        rfl
      exact leftPresent_of hlive (congrArg (fun x => x.2.1) hparts) (congrArg (fun x => x.2.2) hparts)
    conflict := fun b hb hc => by
      have hnot : s.presence b ≠ .present := by rw [hc]; decide
      have hparts := (hown b hb).trans ((if_neg hnot).trans (if_pos hc))
      have hrest : rest (t.live b) = { rest (s.live b) with presence := .absent } := congrArg Prod.fst hparts
      refine ⟨?_, congrArg (fun x => x.2.2) hparts⟩
      show Berth.mk { rest (t.live b) with lane := (t.live b).lane } (t.staged b) = _
      rw [hrest, hlane b hb, ← lane_of_not_present h hnot, show t.staged b = s.staged b from congrArg (fun x => x.2.1) hparts]
      rfl
    others := fun b hb => by
      by_cases hbl : lineOf b = l
      · have hquiet' : s.presence b ≠ .present ∧ s.presence b ≠ .conflict := by
          rcases hb with hb | hb | hb
          · exact absurd hbl hb
          · rw [hb]; decide
          · rw [hb]; decide
        exact berth_eq_of_parts ((hown b hbl).trans ((if_neg hquiet'.1).trans (if_neg hquiet'.2)))
          ((hlane b hbl).trans (lane_of_not_present h hquiet'.1).symm)
      · obtain ⟨hparts, hfield⟩ := hberthOther b hbl
        exact berth_eq_of_parts hparts hfield
    presenceEvent := hflag
    announcements := hann }

theorem lineStop_of_running {s : State} (hrun : s.device = .run) {n : Byte} {l : LineNo} (hl : n.toNat = l.val)
    (hline : (s.line l).state ≠ .off) : lineStop n s = ⟨.done, [], dropLine l (s.modLine l (quietLine .off))⟩ := by
  have hnot : s.device ≠ .config := by rw [hrun]; decide
  simp only [lineStop, if_neg hnot, carriedFin_of_eq hl, if_neg hline]

/-- A line in which a drive conflict was seen. -/
def faultedLine (x : Line) : Line := { quietLine .faulted x with faultCount := countTo byteMax x.faultCount }

theorem driveConflict_of_running {s : State} {l : LineNo} (hopen : (s.line l).slotOpen = true)
    (hrunning : (s.line l).state = .running) :
    driveConflict l s = raise .lineFault (dropLine l (s.modLine l faultedLine)) := by
  unfold driveConflict
  rw [if_pos (by rw [hopen, hrunning]; rfl)]
  rfl

/-- A line's change, and its berths dropped, as one change of the whole state. -/
theorem dropLine_modLine_eq (s : State) (l : LineNo) (f : Line → Line) : dropLine l (s.modLine l f) = { s with
    lines := (dropLine l (s.modLine l f)).lines, lanes := (dropLine l (s.modLine l f)).lanes,
    berths := (dropLine l (s.modLine l f)).berths, mix := (dropLine l (s.modLine l f)).mix,
    ann := (dropLine l (s.modLine l f)).ann,
    events := { s.events with flags := (dropLine l (s.modLine l f)).events.flags } } :=
  dropLine_frame_eq l (s.modLine l f)

/-- Settles O24: both drop the berths of the line, once it has left RUNNING. -/
theorem linesStopAndFault : Obligations.LinesStopAndFault := by
  refine ⟨fun s line hready hlanes => ⟨fun hconfig => ?_, fun hrun hline => ?_, fun l hl hrun => ⟨fun hoff => ?_, fun hon => ?_⟩⟩,
    fun s l hup hlanes => ⟨fun hclosed => ?_, fun hopen hrunning => ?_⟩⟩
  · rw [exec_lineStop_of_ready hready, lineStop, if_pos hconfig]
    rfl
  · have hnot : s.device ≠ .config := by rw [hrun]; decide
    rw [exec_lineStop_of_ready hready]
    simp only [lineStop, if_neg hnot, carriedFin_of_le hline]
    rfl
  · have hnot : s.device ≠ .config := by rw [hrun]; decide
    rw [exec_lineStop_of_ready hready]
    simp only [lineStop, if_neg hnot, carriedFin_of_eq hl, if_pos hoff]
  · have hleft := lineLeft_dropLine hlanes (l := l) (f := quietLine .off) (now := .off) (faults := (s.line l).faultCount) rfl
      (fun _ => rfl) (by decide)
    have hraises := raises_dropLine l (s.modLine l (quietLine .off))
    have heq := dropLine_modLine_eq s l (quietLine .off)
    rw [exec_lineStop_of_ready hready, lineStop_of_running hrun hl hon]
    generalize dropLine l _ = t at hleft hraises heq
    exact ⟨t, rfl, heq, hleft, fun e he => hraises.others e (by simpa using he)⟩
  · show Host.Outcome.next (whenUp s _) = _
    rw [whenUp_of_up hup, driveConflict, if_neg (by rw [hclosed]; exact Bool.false_ne_true)]
  · have hnotConfig : s.device ≠ .config := fun hconfig => by
      have hoff := hlanes.configOff hconfig l
      rw [hrunning] at hoff
      cases hoff
    have hleft := lineLeft_dropLine hlanes (l := l) (f := faultedLine) (now := .faulted)
      (faults := min 255 ((s.line l).faultCount + 1)) rfl (fun hc => absurd hc hnotConfig) (by decide)
    have hraises := raises_dropLine l (s.modLine l faultedLine)
    have heq := dropLine_modLine_eq s l faultedLine
    refine ⟨raise .lineFault (dropLine l (s.modLine l faultedLine)), ?_, ?_, ?_, ?_, fun e hp hf => ?_⟩
    · show Host.Outcome.next (whenUp s _) = _
      rw [whenUp_of_up hup, driveConflict_of_running hopen hrunning]
    all_goals generalize dropLine l _ = t at hleft hraises heq
    · rw [heq]
      rfl
    · obtain ⟨hline, hset, hother, hpresent, hinconflict, hrest, hevent, hann⟩ := hleft
      exact ⟨hline, hset, hother, fun b hb hp => let ⟨ha, hb, hc, hd⟩ := hpresent b hb hp; ⟨ha, hb, hc, hd⟩,
        hinconflict, hrest, by rw [flag_raise, hevent]; simp, hann⟩
    · rw [flag_raise, decide_eq_true rfl, Bool.or_true]
    · rw [flag_raise, decide_eq_false (Ne.symm hf), Bool.or_false]
      exact hraises.others e (by simpa using hp)

end Sys2Proof.Machine
end

section
/-! PROOFS. Bytes and frames received on CTL_RX (O58). -/

namespace Sys2Proof.Machine

/-! ## One byte (R165 to R167) -/

theorem byteSum_eq_sum (bs : List Byte) : byteSum bs = bs.sum := by
  unfold byteSum
  rw [List.sum_eq_foldl]

section
variable {s : State} {x : RxByte}

theorem receiveByte_of_start (h : s.link.receive = .hunt) :
    receiveByte s ⟨0xA5, true⟩ = s.modLink fun k => { k with receive := .length, age := 0 } := by
  simp only [receiveByte, h]
  rfl

theorem receiveByte_of_other (h : s.link.receive = .hunt) (hx : x ≠ ⟨0xA5, true⟩) : receiveByte s x = s := by
  have hnot : ¬ (x.stopGood && x.data == startByte) = true := fun hstart => by
    rw [Bool.and_eq_true, beq_iff_eq] at hstart
    obtain ⟨hgood, hdata⟩ := hstart
    exact hx (by cases x; simp only at hgood hdata; subst hgood; subst hdata; rfl)
  simp only [receiveByte, h, if_neg hnot]

theorem receiveByte_of_badStop (h : s.link.receive ≠ .hunt) (hx : x.stopGood = false) :
    receiveByte s x = discardFrame countStopBit s := by
  unfold receiveByte
  split
  · contradiction
  all_goals exact if_pos (by rw [hx]; rfl)

theorem receiveByte_of_length (h : s.link.receive = .length) (hx : x.stopGood = true) : receiveByte s x =
    if x.data.toNat = 0 ∨ 65 < x.data.toNat then discardFrame countBadLength s
    else s.modLink fun k => { k with receive := .counted x.data.toNat [] } := by
  simp only [receiveByte, h]
  exact if_neg (by rw [hx]; exact Bool.false_ne_true)

theorem receiveByte_of_counted {n : Nat} {kept : List Byte} (h : s.link.receive = .counted n kept) (hx : x.stopGood = true) :
    receiveByte s x = s.modLink fun k => { k with
      receive := if kept.length + 1 < n then .counted n (kept ++ [x.data]) else .check n (kept ++ [x.data]) } := by
  simp only [receiveByte, h]
  rw [if_neg (by rw [hx]; exact Bool.false_ne_true)]
  by_cases hlast : n ≤ kept.length + 1
  · rw [if_pos hlast, if_neg (Nat.not_lt.2 hlast)]
  · rw [if_neg hlast, if_pos (Nat.not_le.1 hlast)]

theorem receiveByte_of_check {n : Nat} {kept : List Byte} (h : s.link.receive = .check n kept) (hx : x.stopGood = true) :
    receiveByte s x = completeFrame ⟨kept, decide ((BitVec.ofNat 8 n :: kept ++ [x.data]).sum = 0)⟩
      (s.modLink fun k => { k with receive := .hunt }) := by
  have hsum : checkIsGood n kept x.data = decide ((BitVec.ofNat 8 n :: kept ++ [x.data]).sum = 0) := by
    unfold checkIsGood
    rw [byteSum_eq_sum]
    rfl
  simp only [receiveByte, h]
  rw [if_neg (by rw [hx]; exact Bool.false_ne_true), hsum]

end

/-! ## A whole record (R168, R171) -/

section
variable {s : State} (r : Record)

theorem completeFrame_of_busy (hroom : s.link.buffer.length < 4) (hbusy : s.link.tx ≠ .free) :
    completeFrame r s = s.modLink fun k => { k with buffer := k.buffer ++ [r] } := by
  have hroom : s.link.buffer.length < requestDepth := hroom
  unfold completeFrame
  rw [if_pos hroom]
  unfold takeOldest
  split
  next hfree _ => exact absurd hfree hbusy
  · rfl

theorem completeFrame_of_full (hfull : 4 ≤ s.link.buffer.length) (hsending : ∀ r, s.link.tx ≠ .sending r true) :
    completeFrame r s = raise .linkError (s.modLink fun k => { k with overrun := min 65535 (k.overrun + 1) }) := by
  have hnot : ¬ sendsRestart s.link.tx = true := by
    unfold sendsRestart
    split
    next r' h => exact absurd h (hsending r')
    · exact Bool.false_ne_true
  have hfull : ¬ s.link.buffer.length < requestDepth := Nat.not_lt.2 hfull
  unfold completeFrame
  rw [if_neg hfull, if_neg hnot]
  rfl

theorem completeFrame_of_restarting (hfull : 4 ≤ s.link.buffer.length) {r' : Reply} (h : s.link.tx = .sending r' true) :
    completeFrame r s = s := by
  have hfull : ¬ s.link.buffer.length < requestDepth := Nat.not_lt.2 hfull
  unfold completeFrame
  rw [if_neg hfull, h]
  exact if_pos rfl

end

/-! ## A frame: its bytes one after the other (R165) -/

theorem resetLow_completeFrame (r : Record) (s : State) : (completeFrame r s).resetLow = s.resetLow := by
  unfold completeFrame
  split
  · unfold takeOldest
    split
    · exact (link_takeRecord _ _).2.2
    · rfl
  · split <;> rfl

theorem resetLow_receiveByte (s : State) (x : RxByte) : (receiveByte s x).resetLow = s.resetLow := by
  unfold receiveByte
  split
  · split <;> rfl
  · split
    · rfl
    · split <;> rfl
  · split
    · rfl
    · split <;> rfl
  · split
    · rfl
    · exact resetLow_completeFrame _ _

theorem received_forEach (bytes : List RxByte) (s : State) :
    Received bytes s (whenUp s fun s => forEach bytes receiveByte s) := by
  induction bytes generalizing s with
  | nil =>
    show whenUp s (fun s => s) = s
    unfold whenUp
    split <;> rfl
  | cons x rest ih =>
    by_cases hlow : s.resetLow = true
    · have hkeeps : ∀ f, whenUp s f = s := fun f => if_pos hlow
      have hrest := ih s
      rw [hkeeps] at hrest ⊢
      exact ⟨s, congrArg Host.Outcome.next (hkeeps _), hrest⟩
    · have hup : Up s := Bool.eq_false_iff.2 hlow
      have hrest := ih (receiveByte s x)
      rw [whenUp_of_up ((resetLow_receiveByte s x).trans hup)] at hrest
      rw [whenUp_of_up hup]
      exact ⟨receiveByte s x, congrArg Host.Outcome.next (whenUp_of_up hup _), hrest⟩

theorem forEach_counted {rest : List Byte} (hrest : rest ≠ []) {n : Nat} {kept : List Byte} {s : State}
    (h : s.link.receive = .counted n kept) (hlength : kept.length + rest.length = n) :
    forEach (rest.map fun d => ⟨d, true⟩) receiveByte s = s.modLink fun k => { k with receive := .check n (kept ++ rest) } := by
  induction rest generalizing kept s with
  | nil => exact absurd rfl hrest
  | cons d rest ih =>
    show forEach (rest.map fun d => ⟨d, true⟩) receiveByte (receiveByte s ⟨d, true⟩) = _
    rw [List.length_cons] at hlength
    rw [receiveByte_of_counted h rfl]
    cases rest with
    | nil =>
      rw [if_neg (by simp only [List.length_nil] at hlength; omega)]
      rfl
    | cons e rest =>
      rw [List.length_cons] at hlength
      have hnext : (kept ++ [d]).length + (e :: rest).length = n := by
        simp only [List.length_append, List.length_cons, List.length_nil]
        omega
      rw [if_pos (by omega), ih (by simp) (kept := kept ++ [d]) rfl hnext, List.append_assoc]
      rfl

/-- A whole frame completes the record of its counted bytes. -/
theorem forEach_frameOf {s : State} (h : s.link.receive = .hunt) {counted : List Byte} (check : Byte) (hmin : 1 ≤ counted.length)
    (hmax : counted.length ≤ 65) : forEach (frameOf counted check) receiveByte s =
      completeFrame ⟨counted, decide (frameSum counted check = 0)⟩ { s with link := { s.link with age := 0 } } := by
  have hlength : (BitVec.ofNat 8 counted.length).toNat = counted.length := by
    rw [BitVec.toNat_ofNat]
    exact Nat.mod_eq_of_lt (by omega)
  have hframe : frameOf counted check = ⟨0xA5, true⟩ :: ⟨BitVec.ofNat 8 counted.length, true⟩ ::
      (counted.map fun d => ⟨d, true⟩) ++ [⟨check, true⟩] := by
    simp [frameOf]
  have hstart : receiveByte s ⟨0xA5, true⟩ = s.modLink fun k => { k with receive := .length, age := 0 } := receiveByte_of_start h
  have hsecond : receiveByte (s.modLink fun k => { k with receive := .length, age := 0 }) ⟨BitVec.ofNat 8 counted.length, true⟩ =
      s.modLink fun k => { k with receive := .counted counted.length [], age := 0 } := by
    rw [receiveByte_of_length rfl rfl]
    dsimp only
    rw [hlength, if_neg (by omega)]
    rfl
  have hbody : forEach (counted.map fun d => ⟨d, true⟩) receiveByte
      (s.modLink fun k => { k with receive := .counted counted.length [], age := 0 }) =
        s.modLink fun k => { k with receive := .check counted.length counted, age := 0 } := by
    rw [forEach_counted (by rintro rfl; simp at hmin) (kept := []) rfl (by simp)]
    rfl
  have hhunt : (s.modLink fun k => { k with receive := .hunt, age := 0 }) = { s with link := { s.link with age := 0 } } := by
    rw [← h]
    rfl
  have hsplit : ∀ t, forEach (frameOf counted check) receiveByte t = receiveByte (forEach (counted.map fun d => ⟨d, true⟩) receiveByte
      (receiveByte (receiveByte t ⟨0xA5, true⟩) ⟨BitVec.ofNat 8 counted.length, true⟩)) ⟨check, true⟩ := fun t => by
    rw [hframe]
    simp only [forEach, List.foldl_append, List.cons_append, List.foldl_cons, List.foldl_nil]
  rw [hsplit, hstart, hsecond, hbody, receiveByte_of_check rfl rfl, ← hhunt]
  rfl

/-! ## The frame age (R167) -/

theorem ageStep_of_hunt {s : State} (h : s.link.receive = .hunt) : ageStep s = s := by
  unfold ageStep
  rw [h]

theorem ageStep_of_frame {s : State} (h : s.link.receive ≠ .hunt) : ageStep s =
    if 19 ≤ s.link.age then
      linkErrorWith s { s.link with receive := .hunt, age := s.link.age + 1, timeout := min 65535 (s.link.timeout + 1) }
    else { s with link := { s.link with age := s.link.age + 1 } } := by
  have hlimit : (frameAgeLimit ≤ s.link.age + 1) = (19 ≤ s.link.age) := by
    unfold frameAgeLimit
    exact propext ⟨fun h => by omega, fun h => by omega⟩
  unfold ageStep
  split
  · contradiction
  · simp only [hlimit]
    split <;> rfl

theorem takeAge_of_due {s : State} (h : s.boundary.ageDue = true) :
    takeAge s = ageStep (s.modBoundary fun v => { v with ageDue := false }) := if_pos h

theorem flag_linkErrorWith (s : State) (k : ControlLink) : (linkErrorWith s k).flag .linkError = true :=
  (flag_raise { s with link := k } .linkError .linkError).trans (by simp)

theorem timeoutCause_iff {s : State} :
    timeoutCause s = true ↔ s.boundary.ageDue = true ∧ s.link.receive ≠ .hunt ∧ 19 ≤ s.link.age := by
  rw [timeoutCause, Bool.and_eq_true, Bool.and_eq_true, decide_eq_true_eq, bne_iff_ne, and_assoc]
  unfold frameAgeLimit
  exact Iff.and Iff.rfl (Iff.and Iff.rfl ⟨fun h => by omega, fun h => by omega⟩)

theorem exec_frameTimeout {s : State} (h : Up s) :
    exec .frameTimeout s = .next (if timeoutCause (openBoundary s) then takeAge (openBoundary s) else s) := by
  show Host.Outcome.next (whenUp s _) = _
  rw [whenUp_of_up h]

theorem ageDue_takeCommit (s : State) : (takeCommit s).boundary.ageDue = s.boundary.ageDue := by
  unfold takeCommit carryOutCommit
  split
  · show (applyBatch _ _).boundary.ageDue = _
    rw [(applyBatch_frame _ _).2.2.2.2.2.2.2.2.2.2.2.1]
    rfl
  · rfl

theorem ageDue_begun {s : State} (h : s.boundary.opened = false) : (takeCommit (openBoundary s)).boundary.ageDue = true := by
  rw [ageDue_takeCommit, openBoundary_of_closed h]
  rfl

theorem link_begun {s : State} (h : s.boundary.opened = false) : (takeCommit (openBoundary s)).link = s.link := by
  rw [(takeCommit_frame _).2.2.1, openBoundary_of_closed h]
  exact (completeOpenSlots_frame s).2.2.1

theorem link_afterMixes (micD micC : Block) (first : List BerthNo) (s : State) :
    (afterMixes micD micC first s).link = (takeAge (takeCommit (openBoundary s))).link := by
  simp [afterMixes, afterAdvances]

theorem flag_linkError_afterMixes (micD micC : Block) (first : List BerthNo) {s : State}
    (h : (takeAge (takeCommit (openBoundary s))).flag .linkError = true) :
    (afterMixes micD micC first s).flag .linkError = true := by
  have htracks := (raises_takeTracks _).grown .linkError h
  have hvoices := (raises_takeVoices _).grown .linkError htracks
  have hentries := (raises_takeEntries _).grown .linkError hvoices
  exact (raises_takeBerths micD micC first _).grown .linkError hentries

/-- Settles O58: a byte by the receive state that it finds, a frame as its bytes, the frame age as one stage of a block start. -/
theorem bytesFormRecords : Obligations.BytesFormRecords := by
  refine ⟨fun s x hup => ?_, fun s bytes => ⟨_, rfl, received_forEach bytes s⟩, fun s counted check hup hhunt hmin hmax => ?_,
    fun s hup => ?_, fun s micD micC first hup hclosed => ?_⟩
  · have hexec : ∀ t, receiveByte s x = t → exec (.ctlRxByte x) s = .next t := fun t ht => by
      show Host.Outcome.next (whenUp s _) = _
      rw [whenUp_of_up hup, ht]
    refine ⟨fun h hx => hexec _ ?_, fun h hx => hexec _ (receiveByte_of_other h hx), fun h hx => hexec _ ?_,
      fun h hx hmin hmax => hexec _ ?_, fun h hx hbad => hexec _ ?_, fun n kept h hx => hexec _ ?_,
      fun n kept h hx => ⟨fun hroom hbusy => hexec _ ?_, fun hfull hsending => hexec _ ?_, fun hfull r hsending => hexec _ ?_⟩⟩
    · subst hx
      exact receiveByte_of_start h
    · exact receiveByte_of_badStop h hx
    · rw [receiveByte_of_length h hx, if_neg (by omega)]
      rfl
    · rw [receiveByte_of_length h hx, if_pos hbad]
      rfl
    · exact receiveByte_of_counted h hx
    · rw [receiveByte_of_check h hx]
      exact completeFrame_of_busy _ (s := { s with link := { s.link with receive := .hunt } }) hroom hbusy
    · rw [receiveByte_of_check h hx]
      exact completeFrame_of_full _ (s := { s with link := { s.link with receive := .hunt } }) hfull hsending
    · rw [receiveByte_of_check h hx]
      exact completeFrame_of_restarting _ (s := { s with link := { s.link with receive := .hunt } }) hfull hsending
  · have hexec : exec (.controlFrameReceived (frameOf counted check)) s = .next
        (completeFrame ⟨counted, decide (frameSum counted check = 0)⟩ { s with link := { s.link with age := 0 } }) := by
      show Host.Outcome.next (whenUp s _) = _
      rw [whenUp_of_up hup, forEach_frameOf hhunt check hmin hmax]
    refine ⟨fun hroom hbusy => hexec.trans ?_, fun hfull hsending => hexec.trans ?_, fun hfull r hsending => hexec.trans ?_⟩
    · exact congrArg Host.Outcome.next (completeFrame_of_busy _ (s := { s with link := { s.link with age := 0 } }) hroom hbusy)
    · exact congrArg Host.Outcome.next
        (completeFrame_of_full _ (s := { s with link := { s.link with age := 0 } }) hfull hsending)
    · exact congrArg Host.Outcome.next
        (completeFrame_of_restarting _ (s := { s with link := { s.link with age := 0 } }) hfull hsending)
  · rw [exec_frameTimeout hup]
    refine ⟨fun hnot => ?_, fun hexpires => ?_⟩
    · rw [if_neg fun hcause => hnot (timeoutCause_iff.1 hcause)]
    · rw [if_pos (timeoutCause_iff.2 hexpires)]
      obtain ⟨hdue, hframe, hage⟩ := hexpires
      rw [takeAge_of_due hdue, ageStep_of_frame (s := State.modBoundary _ _) hframe]
      exact congrArg Host.Outcome.next (if_pos hage)
  · have hlink : (closeBoundary (takeFrames (afterMixes micD micC first s))).link =
        (takeAge (takeCommit (openBoundary s))).link := by
      rw [← link_afterMixes micD micC first s]
      simp
    have hevents : (closeBoundary (takeFrames (afterMixes micD micC first s))).events = (afterMixes micD micC first s).events := by
      simp
    have hflag := flag_linkError_afterMixes micD micC first (s := s)
    have hbegun := link_begun hclosed
    rw [takeAge_of_due (ageDue_begun hclosed)] at hlink hflag
    refine ⟨_, exec_blockStart hup micD micC first, ?_⟩
    rw [hlink, State.flag, hevents]
    have haged : ((takeCommit (openBoundary s)).modBoundary fun v => { v with ageDue := false }).link = s.link := hbegun
    generalize (takeCommit (openBoundary s)).modBoundary _ = o at haged hflag ⊢
    rw [← haged]
    refine ⟨fun h => by rw [ageStep_of_hunt h], fun h hage => ?_, fun h hage => ?_⟩
    · rw [ageStep_of_frame h, if_neg (Nat.not_le.2 hage)]
    · rw [ageStep_of_frame h, if_pos hage] at hflag ⊢
      exact ⟨hflag (flag_linkErrorWith _ _), rfl⟩

end Sys2Proof.Machine
end

section
/-! PROOFS. Requests as the frames of their records (O59), and the refusals of the Control Link (O60). -/

namespace Sys2Proof.Machine

/-! ## A record completed with the transmitter FREE -/

theorem takeOldest_of_free {s : State} {r : Record} {rest : List Record} (hfree : s.link.tx = .free)
    (hbuffer : s.link.buffer = r :: rest) : takeOldest s = takeRecord r (s.modLink fun k => { k with buffer := rest }) := by
  unfold takeOldest
  rw [hfree, hbuffer]

theorem completeFrame_of_ready {s : State} (r : Record) (hfree : s.link.tx = .free) (hbuffer : s.link.buffer = []) :
    completeFrame r s = takeRecord r s := by
  have hroom : s.link.buffer.length < requestDepth := by rw [hbuffer]; decide
  have hqueued : (s.modLink fun k => { k with buffer := k.buffer ++ [r] }).link.buffer = [r] :=
    (congrArg (· ++ [r]) hbuffer).trans rfl
  have hemptied : ((s.modLink fun k => { k with buffer := k.buffer ++ [r] }).modLink fun k => { k with buffer := [] }) = s := by
    rw [← hbuffer]
    rfl
  unfold completeFrame
  rw [if_pos hroom]
  exact (takeOldest_of_free (s := { s with link := { s.link with buffer := s.link.buffer ++ [r] } }) hfree hqueued).trans
    (congrArg (takeRecord r) hemptied)

theorem exec_frameOf_of_ready {s : State} (hready : Ready s) (hhunt : s.link.receive = .hunt) (hbuffer : s.link.buffer = [])
    {counted : List Byte} (check : Byte) (hmin : 1 ≤ counted.length) (hmax : counted.length ≤ 65) :
    exec (.controlFrameReceived (frameOf counted check)) s = .next
      (takeRecord ⟨counted, decide (frameSum counted check = 0)⟩ { s with link := { s.link with age := 0 } }) := by
  obtain ⟨hup, hfree⟩ := hready
  show Host.Outcome.next (whenUp s _) = _
  rw [whenUp_of_up hup, forEach_frameOf hhunt check hmin hmax,
    completeFrame_of_ready _ (s := { s with link := { s.link with age := 0 } }) hfree hbuffer]

theorem takeRecord_of_passed {r : Record} {kind : Byte} {work : State → Answer} (h : takenAs r = .passed kind work) (s : State) :
    takeRecord r s = startReply kind (work s) := by
  unfold takeRecord
  rw [h]

theorem takeRecord_of_refused {r : Record} {kind : Byte} {st : Status} (h : takenAs r = .refused kind st) (s : State) :
    takeRecord r s = linkRefusal kind st s := by
  unfold takeRecord
  rw [h]

/-! ## The tests of a taken record (R169) -/

theorem takenAs_of_owner {kind : Byte} {body : List Byte} {work : State → Answer} (hzero : kind.toNat ≠ 0)
    (hlast : kind.toNat ≤ 0x21) (h : ownerOf kind.toNat body = some work) : takenAs ⟨kind :: body, true⟩ = .passed kind work := by
  show (if kind.toNat = 0 ∨ 0x21 < kind.toNat then _ else _) = _
  rw [if_neg (by omega), h]

theorem takenAs_of_unowned {kind : Byte} {body : List Byte} (hzero : kind.toNat ≠ 0)
    (hlast : kind.toNat ≤ 0x21) (h : ownerOf kind.toNat body = none) : takenAs ⟨kind :: body, true⟩ = .refused kind .length := by
  show (if kind.toNat = 0 ∨ 0x21 < kind.toNat then _ else _) = _
  rw [if_neg (by omega), h]

theorem takenAs_of_unknown {kind : Byte} (h : kind.toNat = 0 ∨ 0x21 < kind.toNat) (body : List Byte) :
    takenAs ⟨kind :: body, true⟩ = .refused kind .unknownKind := if_pos h

/-! ## Bodies read back: halves, optional fields, announcement fields, notes -/

theorem halfOf_halfBytes (v : Half) : halfOf (v.extractLsb' 8 8) (v.extractLsb' 0 8) = v := by
  apply BitVec.eq_of_toNat_eq
  have hlt := v.isLt
  rw [toNat_halfOf, BitVec.extractLsb'_toNat, BitVec.extractLsb'_toNat, Nat.shiftRight_eq_div_pow, Nat.shiftRight_zero]
  omega

/-- The mask of the optional fields, an undefined bit set or not. -/
def fieldMask (fields : List (Option Byte)) (undefinedBit : Bool) : Half :=
  fields.zipIdx.foldl (fun (m : Half) x => if x.1.isSome then m ||| BitVec.twoPow 16 x.2 else m)
    (if undefinedBit then 0x8000 else 0)

theorem optionalBytes_eq (fields : List (Option Byte)) (u : Bool) : optionalBytes fields u =
    (fieldMask fields u).extractLsb' 8 8 :: (fieldMask fields u).extractLsb' 0 8 :: fields.filterMap fun v => v := rfl

theorem getLsbD_foldl_mask (fields : List (Option Byte)) (i : Nat) (m : Half) {k : Nat} (hk : k < 16) :
    ((fields.zipIdx i).foldl (fun (m : Half) x => if x.1.isSome then m ||| BitVec.twoPow 16 x.2 else m) m).getLsbD k =
      (m.getLsbD k || (decide (i ≤ k) && (fields.getD (k - i) none).isSome)) := by
  induction fields generalizing i m with
  | nil => simp
  | cons x fields ih =>
    rw [List.zipIdx_cons, List.foldl_cons, ih]
    rcases Nat.lt_trichotomy k i with hlt | rfl | hgt
    · have hother : (if x.isSome then m ||| BitVec.twoPow 16 i else m).getLsbD k = m.getLsbD k := by
        split
        · rw [BitVec.getLsbD_or, BitVec.getLsbD_twoPow, decide_eq_false (by omega : ¬ i = k), Bool.and_false, Bool.or_false]
        · rfl
      rw [hother, decide_eq_false (by omega : ¬ i + 1 ≤ k), decide_eq_false (by omega : ¬ i ≤ k)]
      rfl
    · rw [decide_eq_false (by omega : ¬ k + 1 ≤ k), decide_eq_true (Nat.le_refl k), Nat.sub_self]
      cases x with
      | none => simp
      | some b => simp [hk]
    · have hother : (if x.isSome then m ||| BitVec.twoPow 16 i else m).getLsbD k = m.getLsbD k := by
        split
        · rw [BitVec.getLsbD_or, BitVec.getLsbD_twoPow, decide_eq_false (by omega : ¬ i = k), Bool.and_false, Bool.or_false]
        · rfl
      obtain ⟨j, hj⟩ : ∃ j, k - i = j + 1 := ⟨k - i - 1, by omega⟩
      rw [hother, decide_eq_true (by omega : i + 1 ≤ k), decide_eq_true (by omega : i ≤ k), hj, List.getD_cons_succ,
        show k - (i + 1) = j by omega]

theorem getLsbD_fieldMask (fields : List (Option Byte)) (u : Bool) {k : Nat} (hk : k < 16) : (fieldMask fields u).getLsbD k =
    ((u && decide (k = 15)) || (fields.getD k none).isSome) := by
  have hundefined : (if u then 0x8000 else 0 : Half).getLsbD k = (u && decide (k = 15)) := by
    cases u
    · simp
    · interval_cases k <;> rfl
  unfold fieldMask
  rw [getLsbD_foldl_mask fields 0 _ hk, hundefined, Nat.sub_zero, decide_eq_true (Nat.zero_le k), Bool.true_and]

/-- Fields written out by their mask are read back. -/
theorem readFields_of_mask {mask : Half} (fields : List (Option Byte)) (i : Nat)
    (h : ∀ k < fields.length, mask.getLsbD (i + k) = (fields.getD k none).isSome) :
    readFields mask fields.length i (fields.filterMap fun v => v) = some fields := by
  induction fields generalizing i with
  | nil => rfl
  | cons x fields ih =>
    have hfirst : mask.getLsbD i = x.isSome := h 0 (by simp)
    have hrest := ih (i + 1) fun k hk => by
      have := h (k + 1) (by simpa using hk)
      rwa [List.getD_cons_succ, show i + (k + 1) = i + 1 + k by omega] at this
    show readFields mask (fields.length + 1) i _ = _
    unfold readFields
    cases x with
    | none => rw [hfirst, List.filterMap_cons_none rfl, hrest]; rfl
    | some b =>
      have hcons : ((some b :: fields).filterMap fun v => v) = b :: fields.filterMap fun v => v := rfl
      rw [hfirst, hcons]
      exact (if_pos rfl).trans (congrArg (Option.map (some b :: ·)) hrest)

theorem readFields_fieldMask (fields : List (Option Byte)) (u : Bool) (hlength : fields.length ≤ 15) :
    readFields (fieldMask fields u) fields.length 0 (fields.filterMap fun v => v) = some fields := by
  refine readFields_of_mask fields 0 fun k hk => ?_
  rw [Nat.zero_add, getLsbD_fieldMask fields u (by omega), decide_eq_false (by omega : ¬ k = 15), Bool.and_false, Bool.false_or]

theorem undefinedField_fieldMask (fields : List (Option Byte)) (u : Bool) (hlength : fields.length ≤ 15) :
    undefinedField (fieldMask fields u) fields.length = u := by
  unfold undefinedField
  cases u with
  | true =>
    have hbit : (fieldMask fields true).toNat.testBit 15 = true := by
      have := getLsbD_fieldMask fields true (k := 15) (by decide)
      rw [decide_eq_true rfl] at this
      exact this
    have hlarge := Nat.ge_two_pow_of_testBit hbit
    have hpow : 2 ^ fields.length ≤ 2 ^ 15 := Nat.pow_le_pow_right (by decide) hlength
    exact decide_eq_true (hpow.trans hlarge)
  | false =>
    refine decide_eq_false (Nat.not_le.2 (Nat.lt_pow_two_of_testBit _ fun k hk => ?_))
    by_cases hlt : k < 16
    · have := getLsbD_fieldMask fields false hlt
      rw [Bool.false_and, Bool.false_or, List.getD_eq_default _ _ hk] at this
      exact this
    · exact BitVec.getLsbD_of_ge _ k (Nat.not_lt.1 hlt)

theorem readAnnounce_append (x : AnnounceBody) (rest : List Byte) : readAnnounce (announceBytes x ++ rest) = some (x, rest) := by
  show some ((⟨_, _, _, _, _, _, _, _, _, _, halfOf _ _, halfOf _ _, halfOf _ _⟩ : AnnounceBody), rest) = _
  rw [halfOf_halfBytes, halfOf_halfBytes, halfOf_halfBytes]

theorem readNotes_flatMap (notes : List NoteBody) : readNotes (notes.flatMap noteBodyBytes) = some notes := by
  induction notes with
  | nil => rfl
  | cons n notes ih =>
    show (readNotes (notes.flatMap noteBodyBytes)).map _ = _
    rw [ih, Option.map_some, halfOf_halfBytes]

theorem length_flatMap_notes (notes : List NoteBody) : (notes.flatMap noteBodyBytes).length = 6 * notes.length := by
  induction notes with
  | nil => rfl
  | cons n notes ih =>
    rw [List.flatMap_cons, List.length_append, ih, List.length_cons]
    show 6 + _ = _
    omega

theorem length_optionalBytes (fields : List (Option Byte)) (u : Bool) : (optionalBytes fields u).length ≤ 2 + fields.length := by
  rw [optionalBytes_eq, List.length_cons, List.length_cons]
  have hle : (fields.filterMap fun v => v).length ≤ fields.length := List.length_filterMap_le ..
  exact (Nat.add_le_add_right hle 2).trans (Nat.le_of_eq (Nat.add_comm ..))

/-! ## Every request's record is that request (12.2.1) -/

theorem readStage_fieldMask (x : StageBody) :
    let fields := [x.programme, x.track, x.picture, x.volume, x.zone, x.language, x.dnd, x.lock, x.tag0, x.tag1, x.tag2, x.tag3]
    readStage ((fieldMask fields x.undefinedBit).extractLsb' 8 8) ((fieldMask fields x.undefinedBit).extractLsb' 0 8)
      (fields.filterMap fun v => v) = some x := by
  intro fields
  have hfields : readFields (fieldMask fields x.undefinedBit) 12 0 (fields.filterMap fun v => v) = some fields :=
    readFields_fieldMask fields x.undefinedBit (Nat.le_of_ble_eq_true rfl)
  have hbit : undefinedField (fieldMask fields x.undefinedBit) 12 = x.undefinedBit :=
    undefinedField_fieldMask fields x.undefinedBit (Nat.le_of_ble_eq_true rfl)
  unfold readStage
  rw [halfOf_halfBytes, hfields]
  show some (StageBody.mk _ _ _ _ _ _ _ _ _ _ _ _ _) = _
  rw [hbit]

theorem readTrim_fieldMask (x : TrimBody) :
    let fields := [x.trim0, x.trim1, x.stillCard]
    readTrim ((fieldMask fields x.undefinedBit).extractLsb' 8 8) ((fieldMask fields x.undefinedBit).extractLsb' 0 8)
      (fields.filterMap fun v => v) = some x := by
  intro fields
  have hfields : readFields (fieldMask fields x.undefinedBit) 3 0 (fields.filterMap fun v => v) = some fields :=
    readFields_fieldMask fields x.undefinedBit (Nat.le_of_ble_eq_true rfl)
  have hbit : undefinedField (fieldMask fields x.undefinedBit) 3 = x.undefinedBit :=
    undefinedField_fieldMask fields x.undefinedBit (Nat.le_of_ble_eq_true rfl)
  unfold readTrim
  rw [halfOf_halfBytes, hfields]
  show some (TrimBody.mk _ _ _ _) = _
  rw [hbit]

theorem readCoach_fieldMask (x : CoachBody) :
    let fields := [x.quiet, x.limit, x.alarmCard, x.busyCard]
    readCoach ((fieldMask fields x.undefinedBit).extractLsb' 8 8) ((fieldMask fields x.undefinedBit).extractLsb' 0 8)
      (fields.filterMap fun v => v) = some x := by
  intro fields
  have hfields : readFields (fieldMask fields x.undefinedBit) 4 0 (fields.filterMap fun v => v) = some fields :=
    readFields_fieldMask fields x.undefinedBit (Nat.le_of_ble_eq_true rfl)
  have hbit : undefinedField (fieldMask fields x.undefinedBit) 4 = x.undefinedBit :=
    undefinedField_fieldMask fields x.undefinedBit (Nat.le_of_ble_eq_true rfl)
  unfold readCoach
  rw [halfOf_halfBytes, hfields]
  show some (CoachBody.mk _ _ _ _ _) = _
  rw [hbit]

/-- A record that is carried out as the command `c`. -/
structure StandsFor (counted : List Byte) (c : Instr) (kind : Byte) (work : State → Answer) : Prop where
  length : 1 ≤ counted.length ∧ counted.length ≤ 65
  taken : takenAs ⟨counted, true⟩ = .passed kind work
  command : ∀ s, exec c s = .next (takeRequest kind work s)

theorem standsFor_berthStage (b : Byte) (x : StageBody) : StandsFor (0x02 :: b :: optionalBytes [x.programme, x.track, x.picture,
    x.volume, x.zone, x.language, x.dnd, x.lock, x.tag0, x.tag1, x.tag2, x.tag3] x.undefinedBit) (.berthStage b x) 0x02
      (berthStage b x) where
  length := ⟨by simp, by
    have := length_optionalBytes [x.programme, x.track, x.picture, x.volume, x.zone, x.language, x.dnd, x.lock, x.tag0, x.tag1,
      x.tag2, x.tag3] x.undefinedBit
    simp only [List.length_cons, List.length_nil] at this ⊢
    omega⟩
  taken := takenAs_of_owner (by decide) (by decide) (by
    rw [optionalBytes_eq]
    refine (ownerOf_berthStage _).trans ?_
    dsimp only
    rw [readStage_fieldMask]
    rfl)
  command _ := rfl

theorem standsFor_programmeTrim (p : Byte) (x : TrimBody) :
    StandsFor (0x0D :: p :: optionalBytes [x.trim0, x.trim1, x.stillCard] x.undefinedBit) (.programmeTrim p x) 0x0D
      (programmeTrim p x) where
  length := ⟨by simp, by
    have := length_optionalBytes [x.trim0, x.trim1, x.stillCard] x.undefinedBit
    simp only [List.length_cons, List.length_nil] at this ⊢
    omega⟩
  taken := takenAs_of_owner (by decide) (by decide) (by
    rw [optionalBytes_eq]
    refine (ownerOf_programmeTrim _).trans ?_
    dsimp only
    rw [readTrim_fieldMask]
    rfl)
  command _ := rfl

theorem standsFor_coachSet (x : CoachBody) :
    StandsFor (0x18 :: optionalBytes [x.quiet, x.limit, x.alarmCard, x.busyCard] x.undefinedBit) (.coachSet x) 0x18
      (coachSet x) where
  length := ⟨by simp, by
    have := length_optionalBytes [x.quiet, x.limit, x.alarmCard, x.busyCard] x.undefinedBit
    simp only [List.length_cons, List.length_nil] at this ⊢
    omega⟩
  taken := takenAs_of_owner (by decide) (by decide) (by
    rw [optionalBytes_eq]
    refine (ownerOf_coachSet _).trans ?_
    dsimp only
    rw [readCoach_fieldMask]
    rfl)
  command _ := rfl

theorem standsFor_announce (x : AnnounceBody) (deadline : Half) :
    StandsFor (0x10 :: announceBytes x ++ halfBytes deadline) (.announce x deadline) 0x10 (announce x deadline) where
  length := ⟨by simp, Nat.le_of_ble_eq_true rfl⟩
  taken := takenAs_of_owner (by decide) (by decide) (by
    refine (ownerOf_announce _).trans ?_
    rw [List.append_eq, readAnnounce_append]
    show some (announce x (halfOf _ _)) = _
    rw [halfOf_halfBytes])
  command _ := rfl

theorem standsFor_pttProfileSet (m : Byte) (x : AnnounceBody) :
    StandsFor (0x12 :: m :: announceBytes x) (.pttProfileSet m x) 0x12 (pttProfileSet m x) where
  length := ⟨by simp, Nat.le_of_ble_eq_true rfl⟩
  taken := takenAs_of_owner (by decide) (by decide) (by
    refine (ownerOf_pttProfileSet _).trans ?_
    have hread := readAnnounce_append x []
    rw [List.append_nil] at hread
    dsimp only
    rw [hread])
  command _ := rfl

theorem standsFor_chimeLoad (p : Byte) {notes : List NoteBody} (h : 2 + 6 * notes.length ≤ 64) :
    StandsFor (0x15 :: p :: BitVec.ofNat 8 notes.length :: notes.flatMap noteBodyBytes) (.chimeLoad p notes) 0x15
      (chimeLoad p notes) where
  length := ⟨by simp, by
    simp only [List.length_cons, length_flatMap_notes]
    omega⟩
  taken := takenAs_of_owner (by decide) (by decide) (by
    have hcount : notes.length = (BitVec.ofNat 8 notes.length).toNat := by
      rw [BitVec.toNat_ofNat]
      omega
    refine (ownerOf_chimeLoad _).trans ?_
    dsimp only
    rw [readNotes_flatMap]
    exact if_pos hcount)
  command _ := rfl

theorem standsFor_eventsClear (v : Half) : StandsFor (0x20 :: halfBytes v) (.eventsClear v) 0x20 (eventsClear v) where
  length := ⟨by simp, Nat.le_of_ble_eq_true rfl⟩
  taken := takenAs_of_owner (by decide) (by decide) (by
    show some (eventsClear (halfOf _ _)) = _
    rw [halfOf_halfBytes])
  command _ := rfl

theorem standsFor_eventsEnable (v : Half) : StandsFor (0x21 :: halfBytes v) (.eventsEnable v) 0x21 (eventsEnable v) where
  length := ⟨by simp, Nat.le_of_ble_eq_true rfl⟩
  taken := takenAs_of_owner (by decide) (by decide) (by
    show some (eventsEnable (halfOf _ _)) = _
    rw [halfOf_halfBytes])
  command _ := rfl

/-- The requests whose bodies are bytes alone are read back as they stand; the others one by one. -/
theorem standsFor_requestBytes {c : Instr} {counted : List Byte} (h : requestBytes c = some counted)
    (hwf : c.wellFormed = true) : ∃ kind work, StandsFor counted c kind work := by
  cases c <;> cases h
  case berthStage b x => exact ⟨_, _, standsFor_berthStage b x⟩
  case programmeTrim p x => exact ⟨_, _, standsFor_programmeTrim p x⟩
  case coachSet x => exact ⟨_, _, standsFor_coachSet x⟩
  case announce x d => exact ⟨_, _, standsFor_announce x d⟩
  case pttProfileSet m x => exact ⟨_, _, standsFor_pttProfileSet m x⟩
  case chimeLoad p notes => exact ⟨_, _, standsFor_chimeLoad p (of_decide_eq_true hwf)⟩
  case eventsClear v => exact ⟨_, _, standsFor_eventsClear v⟩
  case eventsEnable v => exact ⟨_, _, standsFor_eventsEnable v⟩
  all_goals exact ⟨_, _, ⟨Nat.le_of_ble_eq_true rfl, Nat.le_of_ble_eq_true rfl⟩, rfl, fun _ => rfl⟩

theorem exec_replySent {s : State} (h : Up s) : exec .replySent s = .next (sendEnds s) :=
  congrArg Host.Outcome.next (whenUp_of_up h _)

theorem sendEnds_of_sending {s : State} {sent : Reply} (h : s.link.tx = .sending sent false) :
    sendEnds s = takeOldest (s.modLink fun k => { k with tx := .free }) := by
  simp only [sendEnds, h]

/-- Settles O59: the record of a request is read back as its operands. -/
theorem requestFramesAreTheirCommands : Obligations.RequestFramesAreTheirCommands := by
  refine ⟨fun c counted check s hbytes hwf hsum hready hhunt hbuffer => ?_, fun s hup hfree => ?_,
    fun s sent hup htx => ⟨fun hbuffer => ?_, fun c counted rest hbytes hwf hbuffer => ?_⟩⟩
  · obtain ⟨kind, work, ⟨hmin, hmax⟩, htaken, hcommand⟩ := standsFor_requestBytes hbytes hwf
    have hready' : Ready { s with link := { s.link with age := 0 } } := hready
    rw [exec_frameOf_of_ready hready hhunt hbuffer check hmin hmax, hsum, decide_eq_true rfl, takeRecord_of_passed htaken,
      hcommand, takeRequest_of_ready hready']
  · rw [exec_replySent hup]
    simp only [sendEnds, hfree]
  · rw [exec_replySent hup, sendEnds_of_sending htx]
    unfold takeOldest
    split
    next hnonempty => exact absurd (hbuffer.symm.trans hnonempty) (by simp)
    · rfl
  · obtain ⟨kind, work, -, htaken, hcommand⟩ := standsFor_requestBytes hbytes hwf
    have hready : Ready { s with link := { s.link with tx := .free, buffer := rest } } := ⟨hup, rfl⟩
    rw [exec_replySent hup, sendEnds_of_sending htx, hcommand, takeRequest_of_ready hready]
    exact congrArg Host.Outcome.next ((takeOldest_of_free (s := { s with link := { s.link with tx := .free } }) rfl hbuffer).trans
      (takeRecord_of_passed htaken _))

/-! ## Which bodies fit their kind (12.2.1) -/

theorem isSome_readFields (mask : Half) (n i : Nat) (bs : List Byte) : (readFields mask n i bs).isSome = true ↔
    bs.length = (List.range n).countP fun k => mask.getLsbD (i + k) := by
  induction n generalizing i bs with
  | zero => cases bs <;> simp [readFields]
  | succ n ih =>
    have hcount : ((List.range (n + 1)).countP fun k => mask.getLsbD (i + k)) =
        ((List.range n).countP fun k => mask.getLsbD (i + 1 + k)) + (mask.getLsbD i).toNat := by
      rw [List.range_succ_eq_map, List.countP_cons, List.countP_map]
      have hshift : ((fun k => mask.getLsbD (i + k)) ∘ Nat.succ) = fun k => mask.getLsbD (i + 1 + k) := by
        funext k
        exact congrArg mask.getLsbD (by rw [Nat.succ_eq_add_one]; omega)
      rw [hshift, Nat.add_zero]
      cases mask.getLsbD i <;> rfl
    rw [hcount]
    unfold readFields
    cases hbit : mask.getLsbD i with
    | false => simp [ih]
    | true =>
      cases bs with
      | nil => simp
      | cons b rest => simp [ih]

theorem length_of_readFields {mask : Half} {n i : Nat} {bs : List Byte} {xs : List (Option Byte)}
    (h : readFields mask n i bs = some xs) : xs.length = n := by
  induction n generalizing i bs xs with
  | zero =>
    cases bs with
    | nil => cases h; rfl
    | cons b rest => cases h
  | succ n ih =>
    unfold readFields at h
    split at h
    · split at h
      · cases h
      · obtain ⟨ys, hys, rfl⟩ := Option.map_eq_some_iff.1 h
        exact congrArg (· + 1) (ih hys)
    · obtain ⟨ys, hys, rfl⟩ := Option.map_eq_some_iff.1 h
      exact congrArg (· + 1) (ih hys)

theorem isSome_readFields_iff (hi lo : Byte) (n : Nat) (bs : List Byte) :
    (readFields (halfOf hi lo) n 0 bs).isSome = true ↔ bs.length = countedFields hi lo n := by
  rw [isSome_readFields]
  simp only [Nat.zero_add]
  rfl

theorem isSome_readStage (hi lo : Byte) (bs : List Byte) :
    (readStage hi lo bs).isSome = true ↔ bs.length = countedFields hi lo 12 := by
  rw [← isSome_readFields_iff, readStage]
  cases hread : readFields (halfOf hi lo) 12 0 bs with
  | none => rfl
  | some xs =>
    have hlength := length_of_readFields hread
    match xs, hlength with
    | [_, _, _, _, _, _, _, _, _, _, _, _], _ => rfl

theorem isSome_readTrim (hi lo : Byte) (bs : List Byte) :
    (readTrim hi lo bs).isSome = true ↔ bs.length = countedFields hi lo 3 := by
  rw [← isSome_readFields_iff, readTrim]
  cases hread : readFields (halfOf hi lo) 3 0 bs with
  | none => rfl
  | some xs =>
    have hlength := length_of_readFields hread
    match xs, hlength with
    | [_, _, _], _ => rfl

theorem isSome_readCoach (hi lo : Byte) (bs : List Byte) :
    (readCoach hi lo bs).isSome = true ↔ bs.length = countedFields hi lo 4 := by
  rw [← isSome_readFields_iff, readCoach]
  cases hread : readFields (halfOf hi lo) 4 0 bs with
  | none => rfl
  | some xs =>
    have hlength := length_of_readFields hread
    match xs, hlength with
    | [_, _, _, _], _ => rfl

theorem length_of_readAnnounce {bs rest : List Byte} {x : AnnounceBody} (h : readAnnounce bs = some (x, rest)) :
    bs.length = rest.length + 16 := by
  unfold readAnnounce at h
  split at h
  · cases h
    rfl
  · cases h

theorem readAnnounce_of_length {bs : List Byte} {n : Nat} (h : bs.length = n + 16) :
    ∃ x rest, readAnnounce bs = some (x, rest) ∧ rest.length = n := by
  match bs, h with
  | _ :: _ :: _ :: _ :: _ :: _ :: _ :: _ :: _ :: _ :: _ :: _ :: _ :: _ :: _ :: _ :: rest, h =>
    exact ⟨_, rest, rfl, by simpa using h⟩

theorem length_of_readNotes {bs : List Byte} {ns : List NoteBody} (h : readNotes bs = some ns) : bs.length = 6 * ns.length := by
  induction bs using readNotes.induct generalizing ns with
  | case1 => cases h; rfl
  | case2 t d u1 u0 a k rest ih =>
    obtain ⟨ms, hms, rfl⟩ := Option.map_eq_some_iff.1 h
    have := ih hms
    simp only [List.length_cons]
    omega
  | case3 bs hnil hlong =>
    rw [readNotes.eq_3 bs hnil hlong] at h
    cases h

theorem readNotes_of_length {n : Nat} {bs : List Byte} (h : bs.length = 6 * n) : ∃ ns, readNotes bs = some ns ∧ ns.length = n := by
  induction n generalizing bs with
  | zero =>
    rw [List.eq_nil_of_length_eq_zero h]
    exact ⟨[], rfl, rfl⟩
  | succ n ih =>
    match bs, h with
    | t :: d :: u1 :: u0 :: a :: k :: rest, h =>
      obtain ⟨ns, hns, hlength⟩ := ih (bs := rest) (by simp only [List.length_cons] at h; omega)
      refine ⟨⟨t, d, halfOf u1 u0, a, k⟩ :: ns, ?_, congrArg (· + 1) hlength⟩
      show (readNotes rest).map _ = _
      rw [hns]
      rfl

/-- The kinds with one body length whose bytes are the request's operands as they stand. -/
theorem isSome_ownerOf_fixed {kind : Nat} (hzero : kind ≠ 0) (hlast : kind ≤ 0x21) (hfixed : variedKind kind = false)
    (hevents : kind ≠ 0x20) (body : List Byte) :
    (ownerOf kind body).isSome = true ↔ fixedBodyLengths[kind]? = some body.length := by
  interval_cases kind
  all_goals first
    | exact absurd rfl hzero
    | exact absurd rfl hevents
    | exact absurd hfixed (by decide)
    | rcases body with _ | ⟨a, _ | ⟨b, _ | ⟨c, _ | ⟨d, _ | ⟨e, _ | ⟨f, _ | ⟨g, tl⟩⟩⟩⟩⟩⟩⟩ <;>
        first | exact ⟨fun _ => rfl, fun _ => rfl⟩ | exact ⟨nofun, nofun⟩

theorem bodyFits_fixed {kind : Byte} (hfixed : variedKind kind.toNat = false ∨ kind.toNat = 0x10 ∨ kind.toNat = 0x12)
    (hevents : kind.toNat ≠ 0x20) (body : List Byte) : BodyFits kind body ↔ fixedBodyLengths[kind.toNat]? = some body.length := by
  unfold BodyFits
  generalize kind.toNat = k at hfixed hevents ⊢
  split
  case h_6 => rfl
  case h_5 => exact absurd rfl hevents
  all_goals exact absurd hfixed (by decide)

/-- The record of a request is one whose body its kind reads. -/
theorem isSome_ownerOf_iff {kind : Byte} (hzero : kind.toNat ≠ 0) (hlast : kind.toNat ≤ 0x21) (body : List Byte) :
    (ownerOf kind.toNat body).isSome = true ↔ BodyFits kind body := by
  by_cases hvaried : variedKind kind.toNat = true
  · have hmem : kind.toNat ∈ [0x02, 0x0D, 0x10, 0x12, 0x15, 0x18] := List.contains_iff_mem.1 hvaried
    simp only [List.mem_cons, List.not_mem_nil, or_false] at hmem
    rcases hmem with h | h | h | h | h | h
    · rw [BodyFits, h, ownerOf_berthStage]
      rcases body with _ | ⟨b, _ | ⟨hi, _ | ⟨lo, bs⟩⟩⟩
      case cons.cons.cons => simp [isSome_readStage]
      all_goals simp
    · rw [BodyFits, h, ownerOf_programmeTrim]
      rcases body with _ | ⟨b, _ | ⟨hi, _ | ⟨lo, bs⟩⟩⟩
      case cons.cons.cons => simp [isSome_readTrim]
      all_goals simp
    · rw [bodyFits_fixed (.inr (.inl h)) (by rw [h]; decide), h, ownerOf_announce]
      refine ⟨fun hsome => ?_, fun hlength => ?_⟩
      · split at hsome
        next hread => exact congrArg some (length_of_readAnnounce hread).symm
        · cases hsome
      · obtain ⟨x, rest, hread, hrest⟩ := readAnnounce_of_length (n := 2) (Option.some.inj hlength).symm
        rw [hread]
        match rest, hrest with
        | [hi, lo], _ => rfl
    · rw [bodyFits_fixed (.inr (.inr h)) (by rw [h]; decide), h, ownerOf_pttProfileSet]
      cases body with
      | nil => simp [fixedBodyLengths]
      | cons m bs =>
        refine ⟨fun hsome => ?_, fun hlength => ?_⟩
        · dsimp only at hsome
          split at hsome
          next hread =>
            rw [List.length_cons, length_of_readAnnounce hread]
            rfl
          · cases hsome
        · have hlength : 17 = bs.length + 1 := Option.some.inj hlength
          obtain ⟨x, rest, hread, hrest⟩ := readAnnounce_of_length (n := 0) (bs := bs) (by omega)
          dsimp only
          rw [hread, List.eq_nil_of_length_eq_zero hrest]
          rfl
    · rw [BodyFits, h, ownerOf_chimeLoad]
      rcases body with _ | ⟨p, _ | ⟨n, bs⟩⟩
      case cons.cons =>
        dsimp only
        refine ⟨fun hsome => ⟨p, n, bs, rfl, ?_⟩, fun hfits => ?_⟩
        · split at hsome
          next ns hread =>
            split at hsome
            next hcount => rw [length_of_readNotes hread, hcount]
            · cases hsome
          · cases hsome
        · obtain ⟨p', n', rest, heq, hlength⟩ := hfits
          cases heq
          obtain ⟨ns, hread, hcount⟩ := readNotes_of_length hlength
          rw [hread]
          dsimp only
          rw [if_pos hcount]
          rfl
      all_goals simp
    · rw [BodyFits, h, ownerOf_coachSet]
      rcases body with _ | ⟨hi, _ | ⟨lo, bs⟩⟩
      case cons.cons => simp [isSome_readCoach]
      all_goals simp
  · by_cases hevents : kind.toNat = 0x20
    · rw [BodyFits, hevents]
      rcases body with _ | ⟨a, _ | ⟨b, _ | ⟨c, tl⟩⟩⟩
      · exact ⟨fun _ => .inl rfl, fun _ => rfl⟩
      · exact ⟨nofun, nofun⟩
      · exact ⟨fun _ => .inr rfl, fun _ => rfl⟩
      · exact ⟨nofun, nofun⟩
    · have hfixed := Bool.eq_false_iff.2 hvaried
      rw [isSome_ownerOf_fixed hzero hlast hfixed hevents, bodyFits_fixed (.inl hfixed) hevents]

/-! ## Refusals -/

theorem exec_linkRefusal_of_refused {s : State} (h : Ready s) {counted : List Byte} {good : Bool} {kind : Byte} {st : Status}
    (htaken : takenAs ⟨counted, good⟩ = .refused kind st) :
    exec (.requestTakenLinkRefusal counted good) s = .next (linkRefusal kind st s) := by
  obtain ⟨hup, hfree⟩ := h
  show Host.Outcome.next (whenUp s _) = _
  rw [whenUp_of_up hup]
  unfold takeRefused
  rw [htaken, settle_of_free hfree]

theorem exec_linkRefusal_of_passed {s : State} (h : Up s) {counted : List Byte} {good : Bool} {kind : Byte}
    {work : State → Answer} (htaken : takenAs ⟨counted, good⟩ = .passed kind work) :
    exec (.requestTakenLinkRefusal counted good) s = .next s := by
  show Host.Outcome.next (whenUp s _) = _
  rw [whenUp_of_up h]
  unfold takeRefused
  rw [htaken]

theorem linkRefusal_eq_answered (kind : Byte) {st : Status} (hdone : st ≠ .done) (hcheck : st ≠ .check) (s : State) :
    linkRefusal kind st s = answered kind st [] s := by
  have hflag : (kind == restartKind && st == .done) = false := by simp [hdone]
  unfold linkRefusal startReply
  rw [hflag, if_neg hcheck]
  rfl

/-- A record that is no request's is refused. -/
theorem takenAs_refused {kind : Byte} {body : List Byte}
    (h : kind = 0 ∨ 0x21 < kind.toNat ∨ ¬ BodyFits kind body) : ∃ st, takenAs ⟨kind :: body, true⟩ = .refused kind st := by
  by_cases hunknown : kind.toNat = 0 ∨ 0x21 < kind.toNat
  · exact ⟨_, takenAs_of_unknown hunknown body⟩
  · have hzero : kind.toNat ≠ 0 := fun h0 => hunknown (.inl h0)
    have hlast : kind.toNat ≤ 0x21 := Nat.not_lt.1 fun hbeyond => hunknown (.inr hbeyond)
    have hnot : ¬ BodyFits kind body := (h.resolve_left fun h0 => hzero (congrArg BitVec.toNat h0)).resolve_left
      (Nat.not_lt.2 hlast)
    have hnone : ownerOf kind.toNat body = none := by
      rw [← Option.not_isSome_iff_eq_none, isSome_ownerOf_iff hzero hlast]
      exact hnot
    exact ⟨_, takenAs_of_unowned hzero hlast hnone⟩

/-- Settles O60: the tests of a taken record, one after the other. -/
theorem linkRefusesRecords : Obligations.LinkRefusesRecords := by
  refine ⟨fun s counted hready =>
      ⟨(exec_linkRefusal_of_refused hready (kind := 0) (st := .check) rfl).trans rfl, fun kind body hcounted => ?_⟩,
    fun s kind body check hready hhunt hbuffer hlength => ?_⟩
  · subst hcounted
    refine ⟨fun hunknown => ?_, fun hkind hlast hnot => ?_, fun hkind hlast hfits => ?_⟩
    · have hunknown : kind.toNat = 0 ∨ 0x21 < kind.toNat := hunknown.imp_left fun h0 => congrArg BitVec.toNat h0
      rw [exec_linkRefusal_of_refused hready (takenAs_of_unknown hunknown body),
        linkRefusal_eq_answered kind (by decide) (by decide)]
    · have hzero : kind.toNat ≠ 0 := fun h0 => hkind (BitVec.eq_of_toNat_eq h0)
      have hnone : ownerOf kind.toNat body = none := by
        rw [← Option.not_isSome_iff_eq_none, isSome_ownerOf_iff hzero hlast]
        exact hnot
      rw [exec_linkRefusal_of_refused hready (takenAs_of_unowned hzero hlast hnone),
        linkRefusal_eq_answered kind (by decide) (by decide)]
    · have hzero : kind.toNat ≠ 0 := fun h0 => hkind (BitVec.eq_of_toNat_eq h0)
      obtain ⟨work, howner⟩ := Option.isSome_iff_exists.1 ((isSome_ownerOf_iff hzero hlast body).2 hfits)
      exact exec_linkRefusal_of_passed hready.1 (takenAs_of_owner hzero hlast howner)
  · have hready' : Ready { s with link := { s.link with age := 0 } } := hready
    have harrived := exec_frameOf_of_ready hready hhunt hbuffer (counted := kind :: body) check (by simp)
      (by rw [List.length_cons]; omega)
    refine ⟨fun hsum => ?_, fun hsum hrefused => ?_⟩
    · rw [decide_eq_false hsum] at harrived
      rw [harrived, exec_linkRefusal_of_refused hready' (kind := 0) (st := .check) rfl,
        takeRecord_of_refused (r := ⟨kind :: body, false⟩) rfl]
    · obtain ⟨st, htaken⟩ := takenAs_refused hrefused
      rw [decide_eq_true hsum] at harrived
      rw [harrived, exec_linkRefusal_of_refused hready' htaken, takeRecord_of_refused htaken]

end Sys2Proof.Machine
end

section
/-! PROOFS. The handle that an admission issues, the place it takes in the queue, and the entry active for a source; ANNOUNCE
(O37, O38) and the push-to-talk contacts (O40, O41). -/

namespace Sys2Proof.Machine

/-! ## Handles (R86) -/

theorem toNat_nextHandle {h : Byte} (hzero : h ≠ 0) : (nextHandle h).toNat = h.toNat % 255 + 1 := by
  have hne : h.toNat ≠ 0 := fun h0 => hzero (BitVec.eq_of_toNat_eq h0)
  have hlt := h.isLt
  unfold nextHandle
  split
  next hlast => rw [hlast]; rfl
  next hlast =>
    have hne' : h.toNat ≠ 255 := fun h255 => hlast (BitVec.eq_of_toNat_eq h255)
    rw [BitVec.toNat_add]
    show (h.toNat + 1) % 256 = _
    omega

theorem nextHandle_ne_zero (h : Byte) : nextHandle h ≠ 0 := by
  unfold nextHandle
  split
  · decide
  · bv_omega

theorem iterate_nextHandle_ne_zero {h : Byte} (hzero : h ≠ 0) (k : Nat) : nextHandle^[k] h ≠ 0 := by
  cases k with
  | zero => exact hzero
  | succ k =>
    rw [Function.iterate_succ_apply']
    exact nextHandle_ne_zero _

theorem toNat_iterate_nextHandle {h : Byte} (hzero : h ≠ 0) (k : Nat) :
    (nextHandle^[k] h).toNat = (h.toNat - 1 + k) % 255 + 1 := by
  have hne : h.toNat ≠ 0 := fun h0 => hzero (BitVec.eq_of_toNat_eq h0)
  have hlt := h.isLt
  induction k with
  | zero => show h.toNat = _; omega
  | succ k ih =>
    rw [Function.iterate_succ_apply', toNat_nextHandle (iterate_nextHandle_ne_zero hzero k), ih]
    omega

/-- Up to 254 steps on, no handle comes back. -/
theorem nodup_iterates {h : Byte} (hzero : h ≠ 0) {n : Nat} (hn : n ≤ 255) :
    ((List.range n).map fun k => nextHandle^[k] h).Nodup := by
  refine List.Nodup.map_on (fun i hi j hj heq => ?_) List.nodup_range
  have hvalue := congrArg BitVec.toNat heq
  rw [toNat_iterate_nextHandle hzero, toNat_iterate_nextHandle hzero] at hvalue
  rw [List.mem_range] at hi hj
  omega

/-- The search ends at the first handle that no entry holds, or after its last step. -/
theorem freeHandle_eq_iterate (es : List Entry) (n : Nat) (h : Byte) : ∃ k ≤ n, freeHandle es n h = nextHandle^[k] h ∧
    (∀ j < k, ∃ e ∈ es, e.handle = nextHandle^[j] h) ∧ (k < n → ∀ e ∈ es, e.handle ≠ nextHandle^[k] h) := by
  induction n generalizing h with
  | zero => exact ⟨0, le_rfl, rfl, fun j hj => absurd hj (Nat.not_lt_zero j), fun hlt => absurd hlt (Nat.lt_irrefl 0)⟩
  | succ n ih =>
    by_cases htaken : es.any (fun e => e.handle = h) = true
    · obtain ⟨k, hk, heq, hheld, hfree⟩ := ih (nextHandle h)
      refine ⟨k + 1, Nat.succ_le_succ hk, (if_pos htaken).trans heq, fun j hj => ?_, fun hlt => hfree (Nat.lt_of_succ_lt_succ hlt)⟩
      cases j with
      | zero =>
        obtain ⟨e, he, heh⟩ := List.any_eq_true.1 htaken
        exact ⟨e, he, of_decide_eq_true heh⟩
      | succ j => exact hheld j (Nat.lt_of_succ_lt_succ hj)
    · refine ⟨0, Nat.zero_le _, if_neg htaken, fun j hj => absurd hj (Nat.not_lt_zero j), fun _ e he heh => htaken ?_⟩
      exact List.any_eq_true.2 ⟨e, he, decide_eq_true heh⟩

/-- With fewer than 255 entries the search finds a free handle. -/
theorem issuedHandle_of_few {s : State} (hcounter : s.ann.handleCounter ≠ 0) (hfew : s.ann.entries.length < 255) :
    IssuedHandle s (issuedHandle s) := by
  obtain ⟨k, hk, heq, hheld, hfree⟩ := freeHandle_eq_iterate s.ann.entries s.ann.entries.length s.ann.handleCounter
  refine ⟨?_, k, heq, hheld⟩
  rw [issuedHandle, heq]
  by_cases hlt : k < s.ann.entries.length
  · exact hfree hlt
  · have hlast : k = s.ann.entries.length := Nat.le_antisymm hk (Nat.not_lt.1 hlt)
    intro e he hlastHeld
    have hall : ((List.range (k + 1)).map fun j => nextHandle^[j] s.ann.handleCounter) ⊆ s.ann.entries.map fun e => e.handle := by
      intro g hg
      obtain ⟨j, hj, rfl⟩ := List.mem_map.1 hg
      rcases Nat.lt_succ_iff_lt_or_eq.1 (List.mem_range.1 hj) with hj | rfl
      · obtain ⟨f, hf, hfh⟩ := hheld j hj
        exact List.mem_map.2 ⟨f, hf, hfh⟩
      · exact List.mem_map.2 ⟨e, he, hlastHeld⟩
    have hlength := (List.subperm_of_subset (nodup_iterates hcounter (by omega)) hall).length_le
    simp only [List.length_map, List.length_range] at hlength
    omega

theorem length_eq_entriesOf (s : State) : s.ann.entries.length = entriesOf s .d + entriesOf s .c + entriesOf s .r := by
  unfold entriesOf
  induction s.ann.entries with
  | nil => rfl
  | cons e es ih =>
    simp only [List.countP_cons, List.length_cons, ih]
    cases e.source <;> simp <;> omega

theorem few_entries {s : State} (h : AnnouncementsHold s) : s.ann.entries.length ≤ 16 := by
  obtain ⟨hd, hc, hr⟩ := h.quotas
  rw [length_eq_entriesOf]
  omega

theorem issuedHandle_fresh {s : State} (h : AnnouncementsHold s) : IssuedHandle s (issuedHandle s) :=
  issuedHandle_of_few h.counter (Nat.lt_of_le_of_lt (few_entries h) (by decide))

theorem issuedHandle_ne_zero {s : State} (h : AnnouncementsHold s) : issuedHandle s ≠ 0 := by
  obtain ⟨-, k, heq, -⟩ := issuedHandle_fresh h
  rw [heq]
  exact iterate_nextHandle_ne_zero h.counter k

theorem not_mem_queue_of_fresh {s : State} (h : AnnouncementsHold s) {g : Byte} (hfresh : ∀ e ∈ s.ann.entries, e.handle ≠ g) :
    g ∉ s.ann.queue := fun hmem => by
  obtain ⟨e, he, heh, -⟩ := (h.queueRight g).1 hmem
  exact hfresh e he heh

/-! ## The entry active for a source (R90, R91) -/

theorem eq_of_countP_le_one {α : Type} {p : α → Bool} {xs : List α} (h : xs.countP p ≤ 1) {a b : α} (ha : a ∈ xs)
    (hpa : p a = true) (hb : b ∈ xs) (hpb : p b = true) : a = b := by
  rw [List.countP_eq_length_filter] at h
  have hmem : ∀ c ∈ xs, p c = true → c ∈ xs.filter p := fun c hc hpc => List.mem_filter.2 ⟨hc, hpc⟩
  have ha := hmem a ha hpa
  have hb := hmem b hb hpb
  match xs.filter p, h, ha, hb with
  | [c], _, ha, hb => rw [List.mem_singleton.1 ha, List.mem_singleton.1 hb]

theorem eq_of_source {s : State} (h : AnnouncementsHold s) {e f : Entry} (he : e ∈ s.ann.entries) (hf : f ∈ s.ann.entries)
    (hequeued : e.phase ≠ .queued) (hfqueued : f.phase ≠ .queued) (hsource : f.source = e.source) : f = e := by
  obtain ⟨hd, hc, -⟩ := h.quotas
  cases hsrc : e.source with
  | d => exact eq_of_countP_le_one hd hf (decide_eq_true (hsource.trans hsrc)) he (decide_eq_true hsrc)
  | c => exact eq_of_countP_le_one hc hf (decide_eq_true (hsource.trans hsrc)) he (decide_eq_true hsrc)
  | r =>
    have hfactive : activeRecorded f = true := activeRecorded_iff.2 ⟨hsource.trans hsrc, hfqueued⟩
    exact eq_of_countP_le_one h.oneActive hf hfactive he (activeRecorded_iff.2 ⟨hsrc, hequeued⟩)

theorem active?_of_mem {s : State} (h : AnnouncementsHold s) {e : Entry} (he : e ∈ s.ann.entries) (hqueued : e.phase ≠ .queued) :
    s.active? e.source = some e := by
  cases hfind : s.active? e.source with
  | none =>
    have hnone := List.find?_eq_none.1 hfind e he
    simp [hqueued] at hnone
  | some f =>
    have hf := List.find?_some hfind
    simp only [decide_eq_true_eq] at hf
    rw [eq_of_source h he (List.mem_of_find?_eq_some hfind) hqueued hf.2 hf.1]

theorem active?_of_absent {s : State} {src : Source} (h : ∀ e ∈ s.ann.entries, e.source = src → e.phase = .queued) :
    s.active? src = none :=
  List.find?_eq_none.2 fun e he hactive => by
    obtain ⟨hsource, hqueued⟩ := of_decide_eq_true hactive
    exact hqueued (h e he hsource)

theorem not_queued_of_mic {s : State} (h : AnnouncementsHold s) {e : Entry} (he : e ∈ s.ann.entries) (hsource : e.source ≠ .r) :
    e.phase ≠ .queued := fun hqueued => hsource (h.queuedRecorded e he hqueued)

/-! ## The place in the queue (R91) -/

theorem outranks_iff {e f : Entry} : outranks e f = true ↔
    f.params.cls < e.params.cls ∨ e.params.cls = f.params.cls ∧ e.admission < f.admission := by
  simp only [outranks, Bool.or_eq_true, Bool.and_eq_true, decide_eq_true_eq, beq_iff_eq]

theorem outranks_of_outranks_of_not {e f g : Entry} (hef : outranks e f = true) (hgf : outranks g f = false) :
    outranks e g = true := by
  rw [outranks_iff] at hef ⊢
  have hgf : ¬ _ := Bool.eq_false_iff.1 hgf
  rw [outranks_iff] at hgf
  simp only [BitVec.lt_def] at hef hgf ⊢
  omega

theorem insertBefore_eq (before : Byte → Bool) (h : Byte) (xs : List Byte) :
    insertBefore before h xs = (xs.takeWhile fun x => !before x) ++ h :: xs.dropWhile fun x => !before x := by
  induction xs with
  | nil => rfl
  | cons x xs ih =>
    unfold insertBefore
    by_cases hx : before x = true
    · rw [if_pos hx, List.takeWhile_cons_of_neg (by simp [hx]), List.dropWhile_cons_of_neg (by simp [hx])]
      rfl
    · rw [if_neg hx, ih, List.takeWhile_cons_of_pos (by simp [hx]), List.dropWhile_cons_of_pos (by simp [hx])]
      rfl

/-- Whether a new entry goes ahead of the queued entry with this handle. -/
def goesAhead (s : State) (e : Entry) (g : Byte) : Bool :=
  match s.entry? g with
  | none => false
  | some f => outranks e f

theorem goesAhead_of_mem {s : State} (h : AnnouncementsHold s) (e : Entry) {f : Entry} (hf : f ∈ s.ann.entries) :
    goesAhead s e f.handle = outranks e f := by
  unfold goesAhead
  rw [entry?_of_mem h hf]

theorem queueWith_eq (s : State) (e : Entry) : queueWith s e =
    (s.ann.queue.takeWhile fun g => !goesAhead s e g) ++ e.handle :: s.ann.queue.dropWhile fun g => !goesAhead s e g :=
  insertBefore_eq (goesAhead s e) e.handle s.ann.queue

/-- Whoever stands behind an entry that the new one outranks is outranked too. -/
theorem goesAhead_of_pairwise {s : State} (h : AnnouncementsHold s) (e : Entry) {gs : List Byte} (hsub : ∀ g ∈ gs, g ∈ s.ann.queue)
    (horder : gs.Pairwise fun g k => ∀ a ∈ s.ann.entries, ∀ b ∈ s.ann.entries, a.handle = g → b.handle = k → outranks b a = false)
    {g : Byte} (hg : g ∈ gs.dropWhile fun g => !goesAhead s e g) : goesAhead s e g = true := by
  induction gs with
  | nil => cases hg
  | cons x gs ih =>
    obtain ⟨hfirst, hrest⟩ := List.pairwise_cons.1 horder
    by_cases hx : goesAhead s e x = true
    · rw [List.dropWhile_cons_of_neg (by simp [hx])] at hg
      rcases List.mem_cons.1 hg with rfl | hbehind
      · exact hx
      · obtain ⟨a, ha, rfl, -⟩ := (h.queueRight x).1 (hsub x (List.mem_cons_self ..))
        obtain ⟨b, hb, rfl, -⟩ := (h.queueRight g).1 (hsub g (List.mem_cons_of_mem _ hbehind))
        rw [goesAhead_of_mem h e ha] at hx
        rw [goesAhead_of_mem h e hb]
        exact outranks_of_outranks_of_not hx (hfirst _ hbehind a ha b hb rfl rfl)
    · rw [List.dropWhile_cons_of_pos (by simp [hx])] at hg
      exact ih (fun k hk => hsub k (List.mem_cons_of_mem _ hk)) hrest hg

theorem goesAhead_of_behind {s : State} (h : AnnouncementsHold s) (e : Entry) {g : Byte}
    (hg : g ∈ s.ann.queue.dropWhile fun g => !goesAhead s e g) : goesAhead s e g = true :=
  goesAhead_of_pairwise h e (fun _ hk => hk) h.queueOrder hg

theorem goesAhead_of_ahead {s : State} {e : Entry} {g : Byte} (hg : g ∈ s.ann.queue.takeWhile fun g => !goesAhead s e g) :
    goesAhead s e g = false := by
  simpa using List.mem_takeWhile_imp hg

/-! ## ANNOUNCE (R92, R94, R95) -/

theorem announce_of_fields {s : State} (hrun : s.device = .run) {x : AnnounceBody} {p : Params} (hp : carriedParams x = some p)
    (hroom : entriesOf s .r < 14) (deadline : Half) :
    announce x deadline s = ⟨storeStatus x, issuedHandle s :: byte1 (queuePosition
      (placeEntry (newEntry s .r p deadline.toNat) (countAdmission s)) (issuedHandle s)),
      placeEntry (newEntry s .r p deadline.toNat) (countAdmission s)⟩ := by
  have hroom : ¬ recordedEntryLimit ≤ recordedCount s := Nat.not_le.2 hroom
  unfold announce
  rw [if_neg (by simp [hrun]), hp]
  dsimp only
  rw [if_neg hroom, storeStatus_eq]
  rfl

theorem queuePosition_of_absent {s : State} {g : Byte} (h : g ∉ s.ann.queue) : queuePosition s g = 0 := if_neg h

theorem params_of_fields {x : AnnounceBody} (h : ¬ RefusedFields x) : ∃ p, carriedParams x = some p ∧ StoredFrom x p := by
  obtain ⟨p, hp⟩ := Option.ne_none_iff_exists'.1 (mt carriedParams_eq_none.1 h)
  exact ⟨p, hp, storedFrom_of_carried hp⟩

/-- Settles O37: ANNOUNCE's tests one after the other; an idle source takes the entry at once. -/
theorem announceTestsAndIdleSource : Obligations.AnnounceTestsAndIdleSource := by
  intro s x deadline hready hann
  rw [exec_announce_of_ready hready]
  refine ⟨fun hconfig => ?_, fun hrun hfields => ?_, fun hrun hfields hfull => ?_, fun hrun hfields hroom hidle => ?_⟩
  · rw [announce, if_pos hconfig]
    rfl
  · rw [announce, if_neg (by simp [hrun]), carriedParams_eq_none.2 hfields]
    rfl
  · obtain ⟨p, hp, -⟩ := params_of_fields hfields
    have hfull : recordedEntryLimit ≤ recordedCount s := hfull
    rw [announce, if_neg (by simp [hrun]), hp]
    dsimp only
    rw [if_pos hfull]
    rfl
  · obtain ⟨p, hp, hstored⟩ := params_of_fields hfields
    have hfresh := issuedHandle_fresh hann
    have hnone : (countAdmission s).active? .r = none := by
      refine active?_of_absent fun e he hsource => by_contra fun hqueued => ?_
      exact Bool.false_ne_true ((hidle e he).symm.trans (activeRecorded_iff.2 ⟨hsource, hqueued⟩))
    have hplace : placeEntry (newEntry s .r p deadline.toNat) (countAdmission s) =
        becomeActive (newEntry s .r p deadline.toNat) (countAdmission s) := by
      unfold placeEntry
      rw [hnone]
    refine ⟨p, issuedHandle s, hstored, hfresh, ?_⟩
    have hposition : queuePosition (becomeActive (newEntry s .r p deadline.toNat) (countAdmission s)) (issuedHandle s) = 0 :=
      queuePosition_of_absent (not_mem_queue_of_fresh hann hfresh.1)
    rw [announce_of_fields hrun hp hroom, hplace, hposition]
    rfl

theorem preempts_iff {e a : Entry} : preempts e a = true ↔ e.params.cls = 3 ∧ a.params.cls < 3 := by
  simp [preempts]

theorem active?_recorded {s : State} (h : AnnouncementsHold s) {a : Entry} (ha : a ∈ s.ann.entries)
    (hactive : activeRecorded a = true) : s.active? .r = some a := by
  obtain ⟨hsource, hqueued⟩ := activeRecorded_iff.1 hactive
  rw [← hsource]
  exact active?_of_mem h ha hqueued

theorem placeEntry_of_active {s : State} {a : Entry} (h : s.active? .r = some a) (e : Entry) : placeEntry e s =
    if preempts e a then becomeActive e (removeEntry a.handle .preempted s)
    else addEntry { e with phase := .queued, timer := e.deadline } (s.modAnn fun k => { k with queue := queueWith s e }) := by
  unfold placeEntry
  rw [h]

theorem queuePosition_of_split {s : State} {before after : List Byte} {g : Byte} (h : s.ann.queue = before ++ g :: after)
    (hfresh : g ∉ before) : queuePosition s g = before.length + 1 := by
  unfold queuePosition
  rw [h, if_pos (List.mem_append_right _ (List.mem_cons_self ..)), List.idxOf_append_of_notMem hfresh, List.idxOf_cons_self]

theorem removedEntry_becomeActive {s t : State} {e : Entry} {cause : EndReason} (h : RemovedEntry s t e cause) (n : Entry) :
    RemovedEntry s (becomeActive n t) e cause := by
  obtain ⟨hframe, hfinished, hevent, hfloors, hpatterns, hplaying, hidle, hothers⟩ := h
  refine ⟨?_, hfinished, ?_, hfloors, hpatterns, hplaying, hidle, hothers⟩
  · conv_lhs => rw [hframe]
    rfl
  · rw [becomeActive, flag_raise]
    exact Bool.or_eq_true_iff.2 (.inl hevent)

/-- Settles O38: an entry that preempts takes the active one's place; any other goes into the queue by its rank. -/
theorem announceQueuesOrPreempts : Obligations.AnnounceQueuesOrPreempts := by
  intro s x deadline a hready hann hrun hfields hroom ha hactive
  rw [exec_announce_of_ready hready]
  obtain ⟨p, hp, hstored⟩ := params_of_fields hfields
  have hfresh := issuedHandle_fresh hann
  have habsent := not_mem_queue_of_fresh hann hfresh.1
  obtain ⟨-, hqueued⟩ := activeRecorded_iff.1 hactive
  have hplace := placeEntry_of_active (s := countAdmission s) (active?_recorded hann ha hactive)
    (newEntry s .r p deadline.toNat)
  refine ⟨p, issuedHandle s, hstored, hfresh, fun hno => ?_, fun hcls hlower => ?_⟩
  · have hnot : ¬ preempts (newEntry s .r p deadline.toNat) a = true := fun hpre => by
      obtain ⟨hcls, hlower⟩ := preempts_iff.1 hpre
      have hcls : p.cls = 3 := hcls
      omega
    rw [if_neg hnot] at hplace
    refine ⟨s.ann.queue.takeWhile fun g => !goesAhead s (newEntry s .r p deadline.toNat) g,
      s.ann.queue.dropWhile fun g => !goesAhead s (newEntry s .r p deadline.toNat) g,
      List.takeWhile_append_dropWhile.symm, fun g hg f hf hfg => ?_, fun g hg f hf hfg => ?_, ?_⟩
    · have hahead := goesAhead_of_ahead hg
      rw [← hfg, goesAhead_of_mem hann _ hf, Bool.eq_false_iff] at hahead
      have hahead := mt outranks_iff.2 hahead
      simp only [BitVec.lt_def, BitVec.le_def] at hahead ⊢
      simp only [newEntry, issuedAdmission] at hahead
      omega
    · have hbehind := goesAhead_of_behind hann _ hg
      rw [← hfg, goesAhead_of_mem hann _ hf] at hbehind
      exact outranks_iff.1 hbehind
    · have hqueue : (addEntry { newEntry s .r p deadline.toNat with phase := .queued, timer := deadline.toNat }
          ((countAdmission s).modAnn fun k => { k with queue := queueWith (countAdmission s) (newEntry s .r p deadline.toNat) })).ann.queue =
          (s.ann.queue.takeWhile fun g => !goesAhead s (newEntry s .r p deadline.toNat) g) ++ issuedHandle s ::
            s.ann.queue.dropWhile fun g => !goesAhead s (newEntry s .r p deadline.toNat) g :=
        queueWith_eq s (newEntry s .r p deadline.toNat)
      have hposition := queuePosition_of_split hqueue fun hmem => habsent ((List.takeWhile_sublist _).mem hmem)
      rw [announce_of_fields hrun hp hroom, hplace]
      refine (congrArg (fun n => answeredBy 0x10 ⟨storeStatus x, issuedHandle s :: byte1 n, _⟩) hposition).trans ?_
      rw [← hqueue]
      rfl
  · have hpre : preempts (newEntry s .r p deadline.toNat) a = true := preempts_iff.2 ⟨hcls, hlower⟩
    have hentry : (countAdmission s).entry? a.handle = some a := entry?_of_mem hann ha
    have hremoved := removedEntry_removeEntry hentry .preempted
    obtain ⟨hentries, hqueue, hrecorded, hflags⟩ := leftTable_removeEntry hentry .preempted
    have hqueue : (removeEntry a.handle .preempted (countAdmission s)).ann.queue = s.ann.queue :=
      hqueue.trans (queue_filter_of_not_queued hann ha hqueued)
    rw [if_pos hpre] at hplace
    have hposition : queuePosition (becomeActive (newEntry s .r p deadline.toNat)
        (removeEntry a.handle .preempted (countAdmission s))) (issuedHandle s) = 0 :=
      queuePosition_of_absent fun hmem => habsent (hqueue ▸ hmem)
    refine ⟨becomeActive (newEntry s .r p deadline.toNat) (removeEntry a.handle .preempted (countAdmission s)), ?_,
      removedEntry_becomeActive hremoved _, hqueue, ?_, ?_, ?_⟩
    · rw [announce_of_fields hrun hp hroom, hplace, hposition]
      rfl
    · exact congrArg (· ++ [newEntry s .r p deadline.toNat]) hentries
    · exact (congrArg (flushedTo (some (issuedHandle s))) hrecorded).trans (flushedTo_bufferWithout ..)
    · exact congrArg (· ||| eventMask .recordedGo) hflags

/-! ## The push-to-talk contacts (R97, R98, R112, R113) -/

theorem exec_pttPress {s : State} (hup : Up s) (m : Mic) : exec (.pttPress m) s = .next
    (if (s.filter (micContact m)).active = true then s else pressMic m (s.setFilter (micContact m) ⟨true, 0⟩)) := by
  refine (congrArg Host.Outcome.next (whenUp_of_up hup _)).trans ?_
  cases m <;> rfl

theorem exec_pttRelease {s : State} (hup : Up s) (m : Mic) : exec (.pttRelease m) s = .next
    (if (s.filter (micContact m)).active = false then s else releaseMic m (s.setFilter (micContact m) ⟨false, 0⟩)) := by
  refine (congrArg Host.Outcome.next (whenUp_of_up hup _)).trans ?_
  cases m <;> rfl

/-- What a release does to the source's entry by its phase (R112). -/
def releasedEntry (e : Entry) (s : State) : State :=
  match e.phase with
  | .lead => enterTail e.handle .short s
  | .chime => s.modEntry e.handle fun x => { x with earlyRelease := true }
  | .live => enterTail e.handle .completed s
  | _ => s

section
variable {s : State} {m : Mic}

theorem pressMic_of_config (h : s.device = .config) : pressMic m s = s := if_pos h

theorem releaseMic_of_config (h : s.device = .config) : releaseMic m s = s := if_pos h

theorem active?_of_none_from {src : Source} (h : ∀ e ∈ s.ann.entries, e.source ≠ src) : s.active? src = none :=
  active?_of_absent fun e he hsource => absurd hsource (h e he)

theorem pressMic_of_absent (hrun : s.device = .run) (h : ∀ e ∈ s.ann.entries, e.source ≠ micSource m) :
    pressMic m s = admitMic m s := by
  unfold pressMic
  rw [if_neg (by simp [hrun]), active?_of_none_from h]

theorem releaseMic_of_absent (hrun : s.device = .run) (h : ∀ e ∈ s.ann.entries, e.source ≠ micSource m) :
    releaseMic m s = s := by
  unfold releaseMic
  rw [if_neg (by simp [hrun]), active?_of_none_from h]

theorem pressMic_of_entry (hrun : s.device = .run) {e : Entry} (h : s.active? (micSource m) = some e) :
    pressMic m s = repress e s := by
  unfold pressMic
  rw [if_neg (by simp [hrun]), h]

theorem releaseMic_of_entry (hrun : s.device = .run) {e : Entry} (h : s.active? (micSource m) = some e) :
    releaseMic m s = releasedEntry e s := by
  unfold releaseMic
  rw [if_neg (by simp [hrun]), h]
  rfl

theorem active?_of_mic (hann : AnnouncementsHold s) {e : Entry} (he : e ∈ s.ann.entries) (hsource : e.source = micSource m) :
    s.active? (micSource m) = some e := by
  rw [← hsource]
  refine active?_of_mem hann he (not_queued_of_mic hann he ?_)
  rw [hsource]
  cases m <;> decide

end

theorem pressed_edge (s : State) (m : Mic) (hup : Up s) (hann : AnnouncementsHold s) :
    let edge := s.setFilter (micContact m) ⟨true, 0⟩
    let pressed := exec (.pttPress m) s
    ((s.filter (micContact m)).active = true → pressed = .next s) ∧
    ((s.filter (micContact m)).active = false → s.device = .config → pressed = .next edge) ∧
    ((s.filter (micContact m)).active = false → s.device = .run → (∀ e ∈ s.ann.entries, e.source ≠ micSource m) →
      IssuedHandle s (issuedHandle s) ∧ pressed = .next (admitMic m edge)) ∧
    ((s.filter (micContact m)).active = false → s.device = .run → ∀ e ∈ s.ann.entries, e.source = micSource m →
      pressed = .next (repress e edge)) := by
  intro edge pressed
  have hpressed : (s.filter (micContact m)).active = false → pressed = .next (pressMic m edge) := fun hidle => by
    show exec (.pttPress m) s = _
    rw [exec_pttPress hup, if_neg (by simp [hidle])]
  refine ⟨fun hactive => ?_, fun hidle hconfig => ?_, fun hidle hrun habsent => ?_, fun hidle hrun e he hsource => ?_⟩
  · show exec (.pttPress m) s = _
    rw [exec_pttPress hup, if_pos hactive]
  · rw [hpressed hidle, pressMic_of_config (s := edge) hconfig]
  · refine ⟨issuedHandle_fresh hann, ?_⟩
    rw [hpressed hidle, pressMic_of_absent (s := edge) hrun habsent]
  · rw [hpressed hidle, pressMic_of_entry (s := edge) hrun (active?_of_mic hann he hsource)]

theorem repress_of_going {e : Entry} (h : e.phase = .lead ∨ e.phase = .live) (s : State) : repress e s = s := by
  unfold repress
  rcases h with h | h <;> rw [h]

theorem repress_of_chime {e : Entry} (h : e.phase = .chime) (s : State) :
    repress e s = s.modEntry e.handle fun x => { x with earlyRelease := false } := by
  unfold repress
  rw [h]

theorem repress_of_tail {e : Entry} (h : e.phase = .tail) (s : State) :
    repress e s = s.modEntry e.handle fun x => { x with phase := .live, timer := 0, endReason := none } := by
  unfold repress
  rw [h]

/-- Settles O40: a press admits an entry of the profile, or acts on the source's entry by its phase. -/
theorem pttPressAdmitsOrReturns : Obligations.PttPressAdmitsOrReturns := by
  intro s m hup hann
  obtain ⟨hactive, hconfig, habsent, hentry⟩ := pressed_edge s m hup hann
  cases m
  all_goals
    refine ⟨hactive, hconfig, fun hidle hrun hnone => ⟨issuedHandle s, habsent hidle hrun hnone⟩,
      fun hidle hrun e he hsource => ⟨fun hgoing => ?_, fun hchime => ?_, fun htail => ?_⟩⟩
    · exact (hentry hidle hrun e he hsource).trans (congrArg Host.Outcome.next (repress_of_going hgoing _))
    · exact (hentry hidle hrun e he hsource).trans (congrArg Host.Outcome.next (repress_of_chime hchime _))
    · exact (hentry hidle hrun e he hsource).trans (congrArg Host.Outcome.next (repress_of_tail htail _))

theorem released_edge (s : State) (m : Mic) (hup : Up s) (hann : AnnouncementsHold s) :
    let edge := s.setFilter (micContact m) ⟨false, 0⟩
    let released := exec (.pttRelease m) s
    ((s.filter (micContact m)).active = false → released = .next s) ∧
    ((s.filter (micContact m)).active = true → s.device = .config ∨ (∀ e ∈ s.ann.entries, e.source ≠ micSource m) →
      released = .next edge) ∧
    ((s.filter (micContact m)).active = true → s.device = .run → ∀ e ∈ s.ann.entries, e.source = micSource m →
      (e.phase = .lead → ∃ t, released = .next t ∧ EnteredTail edge t e .short) ∧
      (e.phase = .chime → released = .next (edge.modEntry e.handle fun x => { x with earlyRelease := true })) ∧
      (e.phase = .live → ∃ t, released = .next t ∧ EnteredTail edge t e .completed) ∧
      (e.phase = .tail → released = .next edge)) := by
  intro edge released
  have hreleased : (s.filter (micContact m)).active = true → released = .next (releaseMic m edge) := fun hactive => by
    show exec (.pttRelease m) s = _
    rw [exec_pttRelease hup, if_neg (by simp [hactive])]
  refine ⟨fun hidle => ?_, fun hactive hnone => ?_, fun hactive hrun e he hsource => ?_⟩
  · show exec (.pttRelease m) s = _
    rw [exec_pttRelease hup, if_pos hidle]
  · rw [hreleased hactive]
    by_cases hconfig : s.device = .config
    · rw [releaseMic_of_config (s := edge) hconfig]
    · have hrun : s.device = .run := by cases hdevice : s.device <;> simp_all
      rw [releaseMic_of_absent (s := edge) hrun (hnone.resolve_left hconfig)]
  · have hentry := releaseMic_of_entry (s := edge) hrun (active?_of_mic hann he hsource)
    have hfound : edge.entry? e.handle = some e := entry?_of_mem hann he
    rw [hreleased hactive, hentry, releasedEntry]
    refine ⟨fun hphase => ?_, fun hphase => ?_, fun hphase => ?_, fun hphase => ?_⟩
    all_goals rw [hphase]
    · exact ⟨_, rfl, enteredTail_enterTail hfound .short⟩
    · exact ⟨_, rfl, enteredTail_enterTail hfound .completed⟩

/-- Settles O41: a release acts on the source's entry by its phase. -/
theorem pttReleaseByPhase : Obligations.PttReleaseByPhase := by
  intro s m hup hann
  have hreleased := released_edge s m hup hann
  cases m
  all_goals exact hreleased

end Sys2Proof.Machine
end

section
/-! PROOFS. The agreement of announcements in its parts: the table and its queue, the floors, the recorded buffer, the voices;
and what each part looks at. -/

namespace Sys2Proof.Machine

/-! ## The parts -/

/-- The table, its queue and its finished records (R86, R90, R91, R118). -/
structure EntriesHold (d : DeviceState) (a : Announcer) : Prop where
  configEmpty : d = .config → a.entries = []
  handles : (a.entries.map fun e => e.handle).Nodup ∧ ∀ e ∈ a.entries, e.handle ≠ 0
  counter : a.handleCounter ≠ 0
  quotas : a.entries.countP (fun e => e.source = .d) ≤ 1 ∧ a.entries.countP (fun e => e.source = .c) ≤ 1 ∧
    a.entries.countP (fun e => e.source = .r) ≤ 14
  queuedRecorded : ∀ e ∈ a.entries, e.phase = .queued → e.source = .r
  oneActive : (a.entries.countP fun e => activeRecorded e) ≤ 1
  queueOnce : a.queue.Nodup
  queueRight : ∀ h, h ∈ a.queue ↔ ∃ e ∈ a.entries, e.handle = h ∧ e.phase = .queued
  queueOrder : a.queue.Pairwise fun g h => ∀ e ∈ a.entries, ∀ f ∈ a.entries,
    e.handle = g → f.handle = h → outranks f e = false
  readQueued : ∀ e ∈ a.entries, e.phase = .queued → phaseRead e = .queued
  peaks : ∀ r ∈ a.finished, r.peak ≤ 48

/-- Entries wait only behind an active one (R105). -/
def QueueBusy (a : Announcer) : Prop := a.queue ≠ [] → ∃ e ∈ a.entries, activeRecorded e = true

/-- The berths whose floor an entry has. -/
def seatsOf (seat : BerthNo → Option Byte) (h : Byte) : Nat := allBerths.countP fun b => seat b = some h

/-- Floors and audiences (R121, R131). -/
structure FloorsHold (es : List Entry) (seat : BerthNo → Option Byte) (presence : BerthNo → Presence) : Prop where
  floors : ∀ b h, seat b = some h → presence b = .present ∧ ∃ e ∈ es, e.handle = h ∧ e.phase ≠ .queued
  audience : ∀ e ∈ es, e.audience = seatsOf seat e.handle ∧ e.audience ≤ e.peak ∧ e.peak ≤ 48

/-- The recorded buffer (R63). -/
structure BufferHolds (es : List Entry) (r : RecordedBuffer) : Prop where
  target : ∀ h, r.target = some h ↔ ∃ e ∈ es, e.handle = h ∧ e.source = .r ∧ candidatePhase e.phase = true
  noTarget : r.target = none → r.blocks = []

/-- What a source's voice plays. -/
def playing (c : Chimes) : Source → Option Playing
  | .d => c.voiceD.playing
  | .c => c.voiceC.playing
  | .r => c.voiceR.playing

/-- The voices (R136, R138), the entries with the handles `silent` perhaps without theirs. -/
structure VoicesBut (silent : List Byte) (es : List Entry) (c : Chimes) : Prop where
  patterns : ∀ p, c.patterns.get p ≠ []
  voices : ∀ v p, playing c v = some p → ∃ e ∈ es, e.handle = p.entry ∧ e.source = v ∧ e.phase = .chime
  notes : ∀ v p, playing c v = some p → p.noteIndex < (c.patterns.get p.pattern).length
  chimes : ∀ e ∈ es, e.phase = .chime → e.handle ∉ silent → ∃ p, playing c e.source = some p ∧ p.entry = e.handle

/-- The agreement but for the voices of the entries `silent` and for a queue left without its active entry. -/
structure TableHolds (silent : List Byte) (s : State) : Prop where
  entries : EntriesHold s.device s.ann
  floors : FloorsHold s.ann.entries (fun b => (s.mixOf b).floor) s.presence
  buffer : BufferHolds s.ann.entries s.media.recorded
  voices : VoicesBut silent s.ann.entries s.chimes

theorem playing_voice (s : State) (v : Source) : (s.voice v).playing = playing s.chimes v := by
  cases v <;> rfl

theorem announcementsHold_iff {s : State} : AnnouncementsHold s ↔ TableHolds [] s ∧ QueueBusy s.ann := by
  refine ⟨fun h => ⟨⟨⟨h.configEmpty, h.handles, h.counter, h.quotas, h.queuedRecorded, h.oneActive, h.queueOnce, h.queueRight,
    h.queueOrder, h.readQueued, h.peaks⟩, ⟨h.floors, h.audience⟩, ⟨h.target, h.noTarget⟩, ⟨h.patterns, ?_, ?_, ?_⟩⟩, h.queueBusy⟩,
    fun ⟨⟨he, hf, hb, hv⟩, hbusy⟩ => ⟨he.configEmpty, he.handles, he.counter, he.quotas, he.queuedRecorded, he.oneActive, he.queueOnce,
      he.queueRight, he.queueOrder, hbusy, hb.target, hb.noTarget, hv.patterns, ?_, ?_, ?_, hf.floors, hf.audience, he.peaks,
      he.readQueued⟩⟩
  · exact fun v p hp => h.voices v p ((playing_voice s v).trans hp)
  · exact fun v p hp => h.notes v p ((playing_voice s v).trans hp)
  · intro e hmem hchime _
    obtain ⟨p, hp, hentry⟩ := h.chimes e hmem hchime
    exact ⟨p, (playing_voice s e.source).symm.trans hp, hentry⟩
  · exact fun v p hp => hv.voices v p ((playing_voice s v).symm.trans hp)
  · exact fun v p hp => hv.notes v p ((playing_voice s v).symm.trans hp)
  · intro e hmem hchime
    obtain ⟨p, hp, hentry⟩ := hv.chimes e hmem hchime List.not_mem_nil
    exact ⟨p, (playing_voice s e.source).trans hp, hentry⟩

/-! ## Finding an entry -/

namespace EntriesHold

variable {d : DeviceState} {a : Announcer} (h : EntriesHold d a)
include h

theorem eq_of_handle {e f : Entry} (he : e ∈ a.entries) (hf : f ∈ a.entries) (heq : f.handle = e.handle) : f = e :=
  List.inj_on_of_nodup_map h.handles.1 hf he heq

theorem eq_of_source {e f : Entry} (he : e ∈ a.entries) (hf : f ∈ a.entries) (hequeued : e.phase ≠ .queued)
    (hfqueued : f.phase ≠ .queued) (hsource : f.source = e.source) : f = e := by
  obtain ⟨hd, hc, -⟩ := h.quotas
  cases hsrc : e.source with
  | d => exact eq_of_countP_le_one hd hf (decide_eq_true (hsource.trans hsrc)) he (decide_eq_true hsrc)
  | c => exact eq_of_countP_le_one hc hf (decide_eq_true (hsource.trans hsrc)) he (decide_eq_true hsrc)
  | r =>
    have hfactive : activeRecorded f = true := activeRecorded_iff.2 ⟨hsource.trans hsrc, hfqueued⟩
    exact eq_of_countP_le_one h.oneActive hf hfactive he (activeRecorded_iff.2 ⟨hsrc, hequeued⟩)

end EntriesHold

theorem entry?_of_table {silent : List Byte} {s : State} (h : TableHolds silent s) {e : Entry} (he : e ∈ s.ann.entries) :
    s.entry? e.handle = some e := by
  cases hfind : s.entry? e.handle with
  | none =>
    have hnone := List.find?_eq_none.1 hfind e he
    simp at hnone
  | some f => rw [h.entries.eq_of_handle he (State.entry?_mem _ hfind) (State.entry?_handle _ hfind)]

/-! ## Entries changed where they stand -/

/-- What the table looks at in an entry has not changed, but perhaps its phase among those that are not QUEUED. -/
structure KeepsRank (e f : Entry) : Prop where
  handle : f.handle = e.handle
  source : f.source = e.source
  params : f.params = e.params
  admission : f.admission = e.admission
  queued : f.phase = .queued ↔ e.phase = .queued
  read : f.phase = .queued → phaseRead f = .queued

/-- An entry's audience has not changed. -/
structure KeepsAudience (e f : Entry) : Prop where
  audience : f.audience = e.audience
  peak : f.peak = e.peak

theorem KeepsRank.outranks {e f e' f' : Entry} (he : KeepsRank e e') (hf : KeepsRank f f') : outranks f' e' = outranks f e := by
  simp only [Machine.outranks, he.params, hf.params, he.admission, hf.admission]

theorem KeepsRank.activeRecorded {e f : Entry} (h : KeepsRank e f) : activeRecorded f = activeRecorded e := by
  rw [Bool.eq_iff_iff, activeRecorded_iff, activeRecorded_iff, h.source, Ne, h.queued]

theorem countP_map_of_keeps {es : List Entry} {g : Entry → Entry} {p : Entry → Bool} (h : ∀ e ∈ es, p (g e) = p e) :
    (es.map g).countP p = es.countP p := by
  rw [List.countP_map]
  exact List.countP_congr fun e he => by rw [Function.comp_apply, h e he]

section
variable {es : List Entry} {g : Entry → Entry}

theorem map_handle_of_keeps (h : ∀ e ∈ es, KeepsRank e (g e)) :
    ((es.map g).map fun e => e.handle) = es.map fun e => e.handle := by
  rw [List.map_map]
  exact List.map_congr_left fun e he => (h e he).handle

theorem EntriesHold.map {d : DeviceState} {a : Announcer} (h : EntriesHold d a) (hg : ∀ e ∈ a.entries, KeepsRank e (g e)) :
    EntriesHold d { a with entries := a.entries.map g } where
  configEmpty hd := by
    show a.entries.map g = []
    rw [h.configEmpty hd]
    rfl
  handles := by
    refine ⟨by rw [map_handle_of_keeps hg]; exact h.handles.1, fun f hf => ?_⟩
    obtain ⟨e, he, rfl⟩ := List.mem_map.1 hf
    rw [(hg e he).handle]
    exact h.handles.2 e he
  counter := h.counter
  quotas := by
    have hcount : ∀ v : Source, (a.entries.map g).countP (fun e => e.source = v) = a.entries.countP fun e => e.source = v :=
      fun v => countP_map_of_keeps fun e he => by rw [(hg e he).source]
    show _ ≤ 1 ∧ _ ≤ 1 ∧ _ ≤ 14
    rw [hcount, hcount, hcount]
    exact h.quotas
  queuedRecorded f hf hqueued := by
    obtain ⟨e, he, rfl⟩ := List.mem_map.1 hf
    rw [(hg e he).source]
    exact h.queuedRecorded e he ((hg e he).queued.1 hqueued)
  oneActive := by
    show (a.entries.map g).countP _ ≤ 1
    rw [countP_map_of_keeps fun e he => (hg e he).activeRecorded]
    exact h.oneActive
  queueOnce := h.queueOnce
  queueRight k := by
    refine (h.queueRight k).trans ⟨?_, ?_⟩
    · rintro ⟨e, he, hk, hqueued⟩
      exact ⟨g e, List.mem_map_of_mem he, (hg e he).handle.trans hk, (hg e he).queued.2 hqueued⟩
    · rintro ⟨f, hf, hk, hqueued⟩
      obtain ⟨e, he, rfl⟩ := List.mem_map.1 hf
      exact ⟨e, he, (hg e he).handle.symm.trans hk, (hg e he).queued.1 hqueued⟩
  queueOrder := by
    refine h.queueOrder.imp fun horder e' he' f' hf' hek hfk => ?_
    obtain ⟨e, he, rfl⟩ := List.mem_map.1 he'
    obtain ⟨f, hf, rfl⟩ := List.mem_map.1 hf'
    rw [KeepsRank.outranks (hg e he) (hg f hf)]
    exact horder e he f hf ((hg e he).handle.symm.trans hek) ((hg f hf).handle.symm.trans hfk)
  readQueued f hf hqueued := by
    obtain ⟨e, he, rfl⟩ := List.mem_map.1 hf
    exact (hg e he).read hqueued
  peaks := h.peaks

theorem QueueBusy.map {a : Announcer} (h : QueueBusy a) (hg : ∀ e ∈ a.entries, KeepsRank e (g e)) :
    QueueBusy { a with entries := a.entries.map g } := fun hne => by
  obtain ⟨e, he, hactive⟩ := h hne
  exact ⟨g e, List.mem_map_of_mem he, (hg e he).activeRecorded.trans hactive⟩

theorem FloorsHold.map {seat : BerthNo → Option Byte} {presence : BerthNo → Presence} (h : FloorsHold es seat presence)
    (hhandle : ∀ e ∈ es, (g e).handle = e.handle) (hphase : ∀ e ∈ es, e.phase ≠ .queued → (g e).phase ≠ .queued)
    (haudience : ∀ e ∈ es, KeepsAudience e (g e)) : FloorsHold (es.map g) seat presence where
  floors b k hk := by
    obtain ⟨hpresent, e, he, hek, hqueued⟩ := h.floors b k hk
    exact ⟨hpresent, g e, List.mem_map_of_mem he, (hhandle e he).trans hek, hphase e he hqueued⟩
  audience f hf := by
    obtain ⟨e, he, rfl⟩ := List.mem_map.1 hf
    rw [(haudience e he).audience, (haudience e he).peak, hhandle e he]
    exact h.audience e he

theorem BufferHolds.map {r : RecordedBuffer} (h : BufferHolds es r) (hhandle : ∀ e ∈ es, (g e).handle = e.handle)
    (hholds : ∀ e ∈ es, holdsBuffer (g e) = holdsBuffer e) : BufferHolds (es.map g) r where
  target k := by
    have hiff : ∀ e : Entry, e.source = .r ∧ candidatePhase e.phase = true ↔ holdsBuffer e = true := fun e => by simp [holdsBuffer]
    refine (h.target k).trans ?_
    simp only [hiff]
    refine ⟨?_, ?_⟩
    · rintro ⟨e, he, hk, hholding⟩
      exact ⟨g e, List.mem_map_of_mem he, (hhandle e he).trans hk, (hholds e he).trans hholding⟩
    · rintro ⟨f, hf, hk, hholding⟩
      obtain ⟨e, he, rfl⟩ := List.mem_map.1 hf
      exact ⟨e, he, (hhandle e he).symm.trans hk, (hholds e he).symm.trans hholding⟩
  noTarget := h.noTarget

theorem VoicesBut.map {silent : List Byte} {c : Chimes} (h : VoicesBut silent es c) (hhandle : ∀ e ∈ es, (g e).handle = e.handle)
    (hsource : ∀ e ∈ es, (g e).source = e.source) (hchime : ∀ e ∈ es, (g e).phase = .chime ↔ e.phase = .chime) :
    VoicesBut silent (es.map g) c where
  patterns := h.patterns
  voices v p hp := by
    obtain ⟨e, he, hentry, hv, hphase⟩ := h.voices v p hp
    exact ⟨g e, List.mem_map_of_mem he, (hhandle e he).trans hentry, (hsource e he).trans hv, (hchime e he).2 hphase⟩
  notes := h.notes
  chimes f hf hphase hloud := by
    obtain ⟨e, he, rfl⟩ := List.mem_map.1 hf
    rw [hhandle e he] at hloud
    obtain ⟨p, hp, hentry⟩ := h.chimes e he ((hchime e he).1 hphase) hloud
    rw [hsource e he, hhandle e he]
    exact ⟨p, hp, hentry⟩

end

/-! ## Seats taken and left -/

/-- One more or one fewer of a list without repetition. -/
theorem seatsOf_update (seat : BerthNo → Option Byte) (b : BerthNo) (v : Option Byte) (h : Byte) :
    seatsOf (Function.update seat b v) h + (if seat b = some h then 1 else 0) = seatsOf seat h + (if v = some h then 1 else 0) := by
  have hmem : b ∈ allBerths := List.mem_finRange b
  have hchange := countP_one_change (xs := allBerths) (List.nodup_finRange berthCount) (b := b)
    (p := fun c => decide (Function.update seat b v c = some h)) (q := fun c => decide (seat c = some h))
    fun c hc => by rw [Function.update_of_ne hc]
  simp only [hmem, true_and, Function.update_self, decide_eq_true_eq] at hchange
  exact hchange

theorem seatsOf_le (seat : BerthNo → Option Byte) (h : Byte) : seatsOf seat h ≤ 48 := by
  have hlength : allBerths.length = 48 := List.length_finRange ..
  rw [← hlength]
  exact List.countP_le_length

/-- The entry heard by one berth fewer. -/
def heardLess (h : Byte) (e : Entry) : Entry := if e.handle = h then { e with audience := e.audience - 1 } else e

/-- The entry heard by one berth more. -/
def heardMore (h : Byte) (e : Entry) : Entry :=
  if e.handle = h then { e with audience := e.audience + 1, peak := max e.peak (e.audience + 1) } else e

theorem keepsRank_heardLess {es : List Entry} (hread : ∀ e ∈ es, e.phase = .queued → phaseRead e = .queued) (h : Byte) :
    ∀ e ∈ es, KeepsRank e (heardLess h e) := fun e he => by
  unfold heardLess
  split
  · exact ⟨rfl, rfl, rfl, rfl, Iff.rfl, hread e he⟩
  · exact ⟨rfl, rfl, rfl, rfl, Iff.rfl, hread e he⟩

theorem keepsRank_heardMore {es : List Entry} (hread : ∀ e ∈ es, e.phase = .queued → phaseRead e = .queued) (h : Byte) :
    ∀ e ∈ es, KeepsRank e (heardMore h e) := fun e he => by
  unfold heardMore
  split
  · exact ⟨rfl, rfl, rfl, rfl, Iff.rfl, hread e he⟩
  · exact ⟨rfl, rfl, rfl, rfl, Iff.rfl, hread e he⟩

theorem phase_heardLess (h : Byte) (e : Entry) : (heardLess h e).phase = e.phase := by unfold heardLess; split <;> rfl

theorem phase_heardMore (h : Byte) (e : Entry) : (heardMore h e).phase = e.phase := by unfold heardMore; split <;> rfl

theorem handle_heardLess (h : Byte) (e : Entry) : (heardLess h e).handle = e.handle := by unfold heardLess; split <;> rfl

theorem handle_heardMore (h : Byte) (e : Entry) : (heardMore h e).handle = e.handle := by unfold heardMore; split <;> rfl

section
variable {es : List Entry} {seat : BerthNo → Option Byte} {presence : BerthNo → Presence} (h : FloorsHold es seat presence)
include h

theorem FloorsHold.leave {b : BerthNo} {k : Byte} (hk : seat b = some k) :
    FloorsHold (es.map (heardLess k)) (Function.update seat b none) presence where
  floors c g hg := by
    by_cases hcb : c = b
    · subst hcb
      rw [Function.update_self] at hg
      cases hg
    · rw [Function.update_of_ne hcb] at hg
      obtain ⟨hpresent, e, he, heg, hqueued⟩ := h.floors c g hg
      exact ⟨hpresent, heardLess k e, List.mem_map_of_mem he, (handle_heardLess k e).trans heg, by rwa [phase_heardLess]⟩
  audience f hf := by
    obtain ⟨e, he, rfl⟩ := List.mem_map.1 hf
    obtain ⟨haudience, hpeak, hmax⟩ := h.audience e he
    have hchange := seatsOf_update seat b none e.handle
    rw [handle_heardLess]
    unfold heardLess
    rw [hk] at hchange
    by_cases hek : e.handle = k
    · rw [if_pos hek]
      simp only [hek, if_true, reduceCtorEq, if_false] at hchange haudience ⊢
      omega
    · have hne : ¬ some k = some e.handle := fun heq => hek (Option.some.inj heq).symm
      rw [if_neg hek]
      simp only [hne, if_false, reduceCtorEq] at hchange
      omega

theorem FloorsHold.take {b : BerthNo} (hfree : seat b = none) {k : Byte} (hpresent : presence b = .present)
    (hentry : ∃ e ∈ es, e.handle = k ∧ e.phase ≠ .queued) :
    FloorsHold (es.map (heardMore k)) (Function.update seat b (some k)) presence where
  floors c g hg := by
    have hheld : ∀ g, (∃ e ∈ es, e.handle = g ∧ e.phase ≠ .queued) →
        ∃ e ∈ es.map (heardMore k), e.handle = g ∧ e.phase ≠ .queued := by
      rintro g ⟨e, he, heg, hqueued⟩
      exact ⟨heardMore k e, List.mem_map_of_mem he, (handle_heardMore k e).trans heg, by rwa [phase_heardMore]⟩
    by_cases hcb : c = b
    · subst hcb
      rw [Function.update_self] at hg
      cases hg
      exact ⟨hpresent, hheld k hentry⟩
    · rw [Function.update_of_ne hcb] at hg
      obtain ⟨hp, he⟩ := h.floors c g hg
      exact ⟨hp, hheld g he⟩
  audience f hf := by
    obtain ⟨e, he, rfl⟩ := List.mem_map.1 hf
    obtain ⟨haudience, hpeak, hmax⟩ := h.audience e he
    have hchange := seatsOf_update seat b (some k) e.handle
    have hle := seatsOf_le (Function.update seat b (some k)) e.handle
    rw [handle_heardMore]
    unfold heardMore
    rw [hfree] at hchange
    by_cases hek : e.handle = k
    · rw [if_pos hek]
      simp only [hek, if_true, reduceCtorEq, if_false] at hchange haudience hle ⊢
      omega
    · have hne : ¬ some k = some e.handle := fun heq => hek (Option.some.inj heq).symm
      rw [if_neg hek]
      simp only [hne, if_false, reduceCtorEq] at hchange
      omega

end

end Sys2Proof.Machine
end

section
/-! PROOFS. The operations of the Announcement Table keep the agreement: an entry's fields, its tail, its removal, the
recorded source handed on, an admission. -/

namespace Sys2Proof.Machine

/-! ## An entry's fields -/

/-- A relation between entries holds of each and itself after one entry is changed, if it holds of that one. -/
theorem EntriesHold.forall_at {d : DeviceState} {a : Announcer} (h : EntriesHold d a) {Q : Entry → Entry → Prop}
    (hrefl : ∀ x ∈ a.entries, Q x x) {e : Entry} (he : e ∈ a.entries) {f : Entry → Entry} (hf : Q e (f e)) :
    ∀ x ∈ a.entries, Q x (if x.handle = e.handle then f x else x) := fun x hx => by
  split
  next heq => rwa [h.eq_of_handle he hx heq]
  · exact hrefl x hx

theorem EntriesHold.keepsRank_at {d : DeviceState} {a : Announcer} (h : EntriesHold d a) {e : Entry} (he : e ∈ a.entries)
    {f : Entry → Entry} (hf : KeepsRank e (f e)) : ∀ x ∈ a.entries, KeepsRank x (if x.handle = e.handle then f x else x) :=
  h.forall_at (fun x hx => ⟨rfl, rfl, rfl, rfl, Iff.rfl, h.readQueued x hx⟩) he hf

/-- Another phase among those that are not QUEUED changes no entry's rank. -/
theorem keepsRank_of_phase {e f : Entry} (hkeys : f.handle = e.handle ∧ f.source = e.source ∧ f.params = e.params ∧
    f.admission = e.admission) (he : e.phase ≠ .queued) (hf : f.phase ≠ .queued) : KeepsRank e f := by
  obtain ⟨hhandle, hsource, hparams, hadmission⟩ := hkeys
  exact ⟨hhandle, hsource, hparams, hadmission, ⟨fun hq => absurd hq hf, fun hq => absurd hq he⟩, fun hq => absurd hq hf⟩

section
variable {silent : List Byte} {s : State} (h : TableHolds silent s) {e : Entry} (he : e ∈ s.ann.entries) {f : Entry → Entry}
  (hrank : KeepsRank e (f e)) (haudience : KeepsAudience e (f e))
include h he hrank

theorem queueBusy_modEntry (hbusy : QueueBusy s.ann) : QueueBusy (s.modEntry e.handle f).ann :=
  hbusy.map (h.entries.keepsRank_at he hrank)

include haudience

theorem floors_modEntry : FloorsHold (s.modEntry e.handle f).ann.entries (fun b => (s.mixOf b).floor) s.presence :=
  h.floors.map (fun x hx => (h.entries.keepsRank_at he hrank x hx).handle)
    (fun x hx hq hq' => hq ((h.entries.keepsRank_at he hrank x hx).queued.1 hq'))
    (h.entries.forall_at (fun _ _ => ⟨rfl, rfl⟩) he haudience)

/-- An entry's fields may change in any way that keeps its rank, its audience, and what it holds of the buffer and the voices. -/
theorem tableHolds_modEntry (hholds : holdsBuffer (f e) = holdsBuffer e) (hchime : (f e).phase = .chime ↔ e.phase = .chime) :
    TableHolds silent (s.modEntry e.handle f) := by
  have hkeeps := h.entries.keepsRank_at he hrank
  exact {
    entries := h.entries.map hkeeps
    floors := floors_modEntry h he hrank haudience
    buffer := h.buffer.map (fun x hx => (hkeeps x hx).handle)
      (h.entries.forall_at (Q := fun x y => holdsBuffer y = holdsBuffer x) (fun _ _ => rfl) he hholds)
    voices := h.voices.map (fun x hx => (hkeeps x hx).handle) (fun x hx => (hkeeps x hx).source)
      (h.entries.forall_at (Q := fun x y => y.phase = .chime ↔ x.phase = .chime) (fun _ _ => Iff.rfl) he hchime) }

end

theorem announcementsHold_modEntry {s : State} (h : AnnouncementsHold s) {e : Entry} (he : e ∈ s.ann.entries) {f : Entry → Entry}
    (hrank : KeepsRank e (f e)) (haudience : KeepsAudience e (f e)) (hholds : holdsBuffer (f e) = holdsBuffer e)
    (hchime : (f e).phase = .chime ↔ e.phase = .chime) : AnnouncementsHold (s.modEntry e.handle f) := by
  obtain ⟨htable, hbusy⟩ := announcementsHold_iff.1 h
  exact announcementsHold_iff.2 ⟨tableHolds_modEntry htable he hrank haudience hholds hchime,
    queueBusy_modEntry htable he hrank hbusy⟩

/-- A change of an entry's clocks and notes, its phase as it stands. -/
theorem announcementsHold_modEntry_of_phase {s : State} (h : AnnouncementsHold s) {e : Entry} (he : e ∈ s.ann.entries)
    {f : Entry → Entry} (hkeys : (f e).handle = e.handle ∧ (f e).source = e.source ∧ (f e).params = e.params ∧
      (f e).admission = e.admission) (hphase : (f e).phase = e.phase) (hread : e.phase = .queued → phaseRead (f e) = .queued)
    (haudience : (f e).audience = e.audience ∧ (f e).peak = e.peak) : AnnouncementsHold (s.modEntry e.handle f) := by
  obtain ⟨hhandle, hsource, hparams, hadmission⟩ := hkeys
  obtain ⟨haud, hpeak⟩ := haudience
  refine announcementsHold_modEntry h he ⟨hhandle, hsource, hparams, hadmission, by rw [hphase], fun hq => hread (hphase ▸ hq)⟩
    ⟨haud, hpeak⟩ ?_ (by rw [hphase])
  rw [holdsBuffer, holdsBuffer, hsource, hphase]

/-! ## Voices stopped -/

theorem playing_modVoice (s : State) (v w : Source) (f : Voice → Voice) :
    playing (s.modVoice v f).chimes w = if v = w then (f (s.voice w)).playing else playing s.chimes w := by
  rw [← playing_voice, State.voice_modVoice, ← playing_voice]
  split <;> rfl

theorem patterns_stoppedFor (s : State) (e : Entry) : (stoppedFor s e).patterns = s.chimes.patterns := by
  unfold stoppedFor
  split
  · exact patterns_modVoice s e.source _
  · rfl

/-- No voice plays for an entry after its own has been stopped. -/
theorem playing_stoppedFor {silent : List Byte} {s : State} (h : TableHolds silent s) {e : Entry} (he : e ∈ s.ann.entries)
    (v : Source) (p : Playing) :
    playing (stoppedFor s e) v = some p ↔ playing s.chimes v = some p ∧ p.entry ≠ e.handle := by
  have hown : ∀ p, playing s.chimes v = some p → p.entry = e.handle → v = e.source := fun p hp hentry => by
    obtain ⟨x, hx, hxp, hv, -⟩ := h.voices.voices v p hp
    rw [← hv, h.entries.eq_of_handle he hx (hxp.trans hentry)]
  unfold stoppedFor
  split
  next hplays =>
    obtain ⟨q, hq, hentry⟩ := playsFor_iff.1 hplays
    rw [playing_voice] at hq
    rw [stopVoice, playing_modVoice]
    by_cases hv : e.source = v
    · subst hv
      rw [if_pos rfl, hq]
      exact ⟨nofun, fun ⟨heq, hne⟩ => absurd (Option.some.inj heq ▸ hentry) hne⟩
    · rw [if_neg hv]
      exact ⟨fun hp => ⟨hp, fun hpe => hv (hown p hp hpe).symm⟩, fun ⟨hp, _⟩ => hp⟩
  next hplays =>
    refine ⟨fun hp => ⟨hp, fun hpe => hplays (playsFor_iff.2 ⟨p, ?_, hpe⟩)⟩, fun ⟨hp, _⟩ => hp⟩
    rw [playing_voice, ← hown p hp hpe]
    exact hp

/-- The voices are right again when an entry that is left without its voice no longer stands in CHIME. -/
theorem VoicesBut.without {silent : List Byte} {es es' : List Entry} {c c' : Chimes} {k : Byte} (h : VoicesBut silent es c)
    (hsilent : ∀ g ∈ silent, g = k) (hpatterns : c'.patterns = c.patterns)
    (hplaying : ∀ v p, playing c' v = some p ↔ playing c v = some p ∧ p.entry ≠ k)
    (hothers : ∀ e ∈ es, e.handle ≠ k → e ∈ es') (hchimes : ∀ e ∈ es', e.phase = .chime → e ∈ es ∧ e.handle ≠ k) :
    VoicesBut [] es' c' where
  patterns p := by rw [hpatterns]; exact h.patterns p
  voices v p hp := by
    obtain ⟨hp, hne⟩ := (hplaying v p).1 hp
    obtain ⟨e, he, hentry, hrest⟩ := h.voices v p hp
    exact ⟨e, hothers e he (hentry ▸ hne), hentry, hrest⟩
  notes v p hp := by
    rw [hpatterns]
    exact h.notes v p ((hplaying v p).1 hp).1
  chimes e he hphase _ := by
    obtain ⟨hmem, hne⟩ := hchimes e he hphase
    obtain ⟨p, hp, hentry⟩ := h.chimes e hmem hphase fun hin => hne (hsilent _ hin)
    exact ⟨p, (hplaying _ p).2 ⟨hp, hentry ▸ hne⟩, hentry⟩

/-! ## The tail (R111) -/

/-- The entry in its TAIL. -/
def tailed (why : EndReason) (x : Entry) : Entry :=
  { x with phase := .tail, endReason := some why, timer := x.params.tail, earlyRelease := false }

theorem keepsRank_tailed {e : Entry} (h : e.phase ≠ .queued) (why : EndReason) : KeepsRank e (tailed why e) :=
  keepsRank_of_phase ⟨rfl, rfl, rfl, rfl⟩ h nofun

theorem holdsBuffer_tailed (why : EndReason) (e : Entry) : holdsBuffer (tailed why e) = false := Bool.and_false _

theorem holdsBuffer_iff {e : Entry} : holdsBuffer e = true ↔ e.source = .r ∧ candidatePhase e.phase = true := by
  simp [holdsBuffer]

theorem activeRecorded_of_holdsBuffer {e : Entry} (h : holdsBuffer e = true) : activeRecorded e = true := by
  obtain ⟨hsource, hcandidate⟩ := holdsBuffer_iff.1 h
  exact activeRecorded_iff.2 ⟨hsource, fun hq => by rw [hq] at hcandidate; cases hcandidate⟩

theorem enterTail_eq_tailed {s : State} {e : Entry} (he : s.entry? e.handle = some e) (why : EndReason) :
    enterTail e.handle why s =
      ((s.modEntry e.handle (tailed why)).modChimes fun _ => stoppedFor s e).modRecorded (closedFor e.source) :=
  enterTail_eq he why

theorem closedFor_of_mic {src : Source} (h : src ≠ .r) (r : RecordedBuffer) : closedFor src r = r := by
  cases src with
  | r => exact absurd rfl h
  | d => rfl
  | c => rfl

/-- With its only active entry in TAIL the recorded source has closed its buffer. -/
theorem BufferHolds.closed {d : DeviceState} {a : Announcer} (h : EntriesHold d a) {r : RecordedBuffer}
    (hbuffer : BufferHolds a.entries r) {e : Entry} (he : e ∈ a.entries) (hqueued : e.phase ≠ .queued) (why : EndReason) :
    BufferHolds (a.entries.map fun x => if x.handle = e.handle then tailed why x else x) (closedFor e.source r) := by
  by_cases hr : e.source = .r
  · rw [hr]
    have hnone : ∀ k, ¬ ∃ y ∈ a.entries.map fun x => if x.handle = e.handle then tailed why x else x,
        y.handle = k ∧ y.source = .r ∧ candidatePhase y.phase = true := by
      rintro k ⟨y, hy, -, hholds⟩
      have hholds := holdsBuffer_iff.2 hholds
      obtain ⟨x, hx, rfl⟩ := List.mem_map.1 hy
      split at hholds
      · rw [holdsBuffer_tailed] at hholds
        cases hholds
      next hne =>
        have hactive := activeRecorded_of_holdsBuffer hholds
        exact hne (congrArg Entry.handle (eq_of_countP_le_one h.oneActive hx hactive he (activeRecorded_iff.2 ⟨hr, hqueued⟩)))
    exact ⟨fun k => ⟨nofun, fun hex => absurd hex (hnone k)⟩, fun _ => rfl⟩
  · rw [closedFor_of_mic hr]
    refine hbuffer.map (fun x _ => by split <;> rfl) (h.forall_at (Q := fun x y => holdsBuffer y = holdsBuffer x)
      (fun _ _ => rfl) he ?_)
    rw [holdsBuffer_tailed, Eq.comm, Bool.eq_false_iff]
    exact fun hholds => hr (holdsBuffer_iff.1 hholds).1

theorem tableHolds_enterTail {silent : List Byte} {s : State} (h : TableHolds silent s) {e : Entry} (he : e ∈ s.ann.entries)
    (hqueued : e.phase ≠ .queued) (hsilent : ∀ g ∈ silent, g = e.handle) (why : EndReason) :
    TableHolds [] (enterTail e.handle why s) := by
  rw [enterTail_eq_tailed (entry?_of_table h he)]
  exact {
    entries := h.entries.map (h.entries.keepsRank_at he (keepsRank_tailed hqueued why))
    floors := floors_modEntry h he (keepsRank_tailed hqueued why) ⟨rfl, rfl⟩
    buffer := BufferHolds.closed h.entries h.buffer he hqueued why
    voices := by
      refine h.voices.without hsilent (patterns_stoppedFor s e) (playing_stoppedFor h he) (fun x hx hne => ?_) fun y hy hphase => ?_
      · exact List.mem_map.2 ⟨x, hx, if_neg hne⟩
      · obtain ⟨x, hx, rfl⟩ := List.mem_map.1 hy
        split at hphase
        · cases hphase
        next hne => rw [if_neg hne]; exact ⟨hx, hne⟩ }

theorem queueBusy_enterTail {silent : List Byte} {s : State} (h : TableHolds silent s) (hbusy : QueueBusy s.ann) {e : Entry}
    (he : e ∈ s.ann.entries) (hqueued : e.phase ≠ .queued) (why : EndReason) : QueueBusy (enterTail e.handle why s).ann := by
  rw [enterTail_eq_tailed (entry?_of_table h he)]
  exact queueBusy_modEntry h he (keepsRank_tailed hqueued why) hbusy

theorem announcementsHold_enterTail {s : State} (h : AnnouncementsHold s) {e : Entry} (he : e ∈ s.ann.entries)
    (hqueued : e.phase ≠ .queued) (why : EndReason) : AnnouncementsHold (enterTail e.handle why s) := by
  obtain ⟨htable, hbusy⟩ := announcementsHold_iff.1 h
  exact announcementsHold_iff.2 ⟨tableHolds_enterTail htable he hqueued (fun _ hg => absurd hg List.not_mem_nil) why,
    queueBusy_enterTail htable hbusy he hqueued why⟩

/-! ## An entry removed (R116, R118) -/

theorem EntriesHold.without {d : DeviceState} {a : Announcer} (h : EntriesHold d a) (k : Byte) {finished : List FinishedRecord}
    (hfinished : ∀ r ∈ finished, r.peak ≤ 48) :
    EntriesHold d { a with entries := a.entries.filter fun x => x.handle ≠ k, queue := a.queue.filter fun g => g ≠ k,
                           finished := finished } where
  configEmpty hd := by
    show a.entries.filter _ = []
    rw [h.configEmpty hd]
    rfl
  handles := ⟨h.handles.1.sublist (List.filter_sublist.map _), fun e he => h.handles.2 e (List.mem_of_mem_filter he)⟩
  counter := h.counter
  quotas := by
    obtain ⟨hd, hc, hr⟩ := h.quotas
    exact ⟨(List.filter_sublist.countP_le).trans hd, (List.filter_sublist.countP_le).trans hc,
      (List.filter_sublist.countP_le).trans hr⟩
  queuedRecorded e he := h.queuedRecorded e (List.mem_of_mem_filter he)
  oneActive := (List.filter_sublist.countP_le).trans h.oneActive
  queueOnce := h.queueOnce.filter _
  queueRight g := by
    simp only [List.mem_filter, decide_eq_true_eq, h.queueRight g]
    constructor
    · rintro ⟨⟨e, he, rfl, hqueued⟩, hne⟩
      exact ⟨e, ⟨he, hne⟩, rfl, hqueued⟩
    · rintro ⟨e, ⟨he, hne⟩, rfl, hqueued⟩
      exact ⟨⟨e, he, rfl, hqueued⟩, hne⟩
  queueOrder := (h.queueOrder.filter _).imp fun horder e he f hf =>
    horder e (List.mem_of_mem_filter he) f (List.mem_of_mem_filter hf)
  readQueued e he := h.readQueued e (List.mem_of_mem_filter he)
  peaks := hfinished

theorem FloorsHold.without {es : List Entry} {seat seat' : BerthNo → Option Byte} {presence : BerthNo → Presence}
    (h : FloorsHold es seat presence) (k : Byte) (hseat : ∀ b, seat' b = if seat b = some k then none else seat b) :
    FloorsHold (es.filter fun x => x.handle ≠ k) seat' presence where
  floors b g hg := by
    rw [hseat] at hg
    split at hg
    · cases hg
    next hne =>
      obtain ⟨hpresent, e, he, heg, hqueued⟩ := h.floors b g hg
      refine ⟨hpresent, e, List.mem_filter.2 ⟨he, decide_eq_true fun hek => hne ?_⟩, heg, hqueued⟩
      rw [hg, ← heg, hek]
  audience e he := by
    obtain ⟨hmem, hne⟩ := List.mem_filter.1 he
    have hne := of_decide_eq_true hne
    have hsame : seatsOf seat' e.handle = seatsOf seat e.handle := List.countP_congr fun b _ => by
      rw [hseat]
      split
      next hk => simp [hk, Ne.symm hne]
      · rfl
    rw [hsame]
    exact h.audience e hmem

/-- The entry removed is the one that held the buffer, or none did of those that stay. -/
theorem BufferHolds.without {d : DeviceState} {a : Announcer} (h : EntriesHold d a) {r : RecordedBuffer}
    (hbuffer : BufferHolds a.entries r) {e : Entry} (he : e ∈ a.entries) :
    BufferHolds (a.entries.filter fun x => x.handle ≠ e.handle) (bufferWithout e r) := by
  unfold bufferWithout
  split
  next hholds =>
    have hnone : ∀ k, ¬ ∃ x ∈ a.entries.filter fun x => x.handle ≠ e.handle,
        x.handle = k ∧ x.source = .r ∧ candidatePhase x.phase = true := by
      rintro k ⟨x, hx, -, hholding⟩
      obtain ⟨hmem, hne⟩ := List.mem_filter.1 hx
      have hactive := activeRecorded_of_holdsBuffer (holdsBuffer_iff.2 hholding)
      exact of_decide_eq_true hne (congrArg Entry.handle
        (eq_of_countP_le_one h.oneActive hmem hactive he (activeRecorded_of_holdsBuffer hholds)))
    exact ⟨fun k => ⟨nofun, fun hex => absurd hex (hnone k)⟩, fun _ => rfl⟩
  next hholds =>
    refine ⟨fun k => (hbuffer.target k).trans ⟨?_, ?_⟩, hbuffer.noTarget⟩
    · rintro ⟨x, hx, hk, hholding⟩
      refine ⟨x, List.mem_filter.2 ⟨hx, decide_eq_true fun heq => hholds ?_⟩, hk, hholding⟩
      rw [← h.eq_of_handle he hx heq]
      exact holdsBuffer_iff.2 hholding
    · rintro ⟨x, hx, hk, hholding⟩
      exact ⟨x, List.mem_of_mem_filter hx, hk, hholding⟩

section
variable {silent : List Byte} {s : State} (h : TableHolds silent s) {e : Entry} (he : e ∈ s.ann.entries)
include h he

theorem ann_removeEntry (cause : EndReason) : (removeEntry e.handle cause s).ann = { s.ann with
    entries := s.ann.entries.filter fun x => x.handle ≠ e.handle, queue := s.ann.queue.filter fun g => g ≠ e.handle,
    finished := (finishedRecord s e cause :: s.ann.finished).take finishedDepth } := by
  rw [removeEntry_eq (entry?_of_table h he)]
  rfl

theorem chimes_removeEntry (cause : EndReason) : (removeEntry e.handle cause s).chimes = stoppedFor s e := by
  rw [removeEntry_eq (entry?_of_table h he)]
  rfl

theorem seat_removeEntry (cause : EndReason) (b : BerthNo) : ((removeEntry e.handle cause s).mixOf b).floor =
    if (s.mixOf b).floor = some e.handle then none else (s.mixOf b).floor := by
  rw [(removedEntry_removeEntry (entry?_of_table h he) cause).floors]
  split <;> rfl

theorem recorded_removeEntry (cause : EndReason) : (removeEntry e.handle cause s).media.recorded =
    bufferWithout e s.media.recorded := (leftTable_removeEntry (entry?_of_table h he) cause).recorded

theorem tableHolds_removeEntry (hsilent : ∀ g ∈ silent, g = e.handle) (cause : EndReason) :
    TableHolds [] (removeEntry e.handle cause s) := by
  obtain ⟨-, -, hpeak⟩ := h.floors.audience e he
  have hann := ann_removeEntry h he cause
  have hchimes := chimes_removeEntry h he cause
  have hseat := seat_removeEntry h he cause
  have hrecorded := recorded_removeEntry h he cause
  have hdevice : (removeEntry e.handle cause s).device = s.device := by simp
  have hberths : (removeEntry e.handle cause s).berths = s.berths := by simp
  have hpresence : (removeEntry e.handle cause s).presence = s.presence := by
    unfold State.presence State.live
    rw [hberths]
  generalize removeEntry e.handle cause s = t at *
  refine ⟨?_, ?_, ?_, ?_⟩
  · rw [hdevice, hann]
    refine h.entries.without e.handle fun r hr => ?_
    rcases List.mem_cons.1 (List.mem_of_mem_take hr) with rfl | hr
    · exact hpeak
    · exact h.entries.peaks r hr
  · rw [hann, hpresence]
    exact h.floors.without e.handle hseat
  · rw [hann, hrecorded]
    exact BufferHolds.without h.entries h.buffer he
  · rw [hann]
    refine h.voices.without hsilent (by rw [hchimes]; exact patterns_stoppedFor s e)
      (by rw [hchimes]; exact playing_stoppedFor h he) (fun x hx hne => List.mem_filter.2 ⟨hx, decide_eq_true hne⟩)
      fun x hx _ => ⟨List.mem_of_mem_filter hx, of_decide_eq_true (List.mem_filter.1 hx).2⟩

theorem queueBusy_removeEntry (hbusy : QueueBusy s.ann) (hactive : activeRecorded e = false) (cause : EndReason) :
    QueueBusy (removeEntry e.handle cause s).ann := by
  rw [ann_removeEntry h he]
  intro hne
  obtain ⟨x, hx, hxactive⟩ := hbusy fun hempty => hne (by rw [hempty]; rfl)
  refine ⟨x, List.mem_filter.2 ⟨hx, decide_eq_true fun heq => ?_⟩, hxactive⟩
  rw [h.entries.eq_of_handle he hx heq, hactive] at hxactive
  exact Bool.false_ne_true hxactive

theorem no_active_removeEntry (hactive : activeRecorded e = true) (cause : EndReason) :
    ∀ x ∈ (removeEntry e.handle cause s).ann.entries, activeRecorded x = false := by
  rw [ann_removeEntry h he]
  intro x hx
  obtain ⟨hmem, hne⟩ := List.mem_filter.1 hx
  refine Bool.eq_false_iff.2 fun hxactive => of_decide_eq_true hne ?_
  rw [eq_of_countP_le_one h.entries.oneActive hmem hxactive he hactive]

end

/-! ## The recorded source handed on (R105) -/

/-- The entry admitted to its LEAD. -/
def leading (x : Entry) : Entry := { x with phase := .lead, timer := x.params.lead }

theorem handle_leadingAt (k : Byte) (x : Entry) : (if x.handle = k then leading x else x).handle = x.handle := by
  split <;> rfl

theorem source_leadingAt (k : Byte) (x : Entry) : (if x.handle = k then leading x else x).source = x.source := by
  split <;> rfl

theorem outranks_leadingAt (k : Byte) (x y : Entry) : outranks (if x.handle = k then leading x else x)
    (if y.handle = k then leading y else y) = outranks x y := by
  split <;> split <;> rfl

/-- The head of the queue, QUEUED before, becomes the one active entry. -/
theorem EntriesHold.handedOn {d : DeviceState} {a : Announcer} (h : EntriesHold d a)
    (hidle : ∀ x ∈ a.entries, activeRecorded x = false) {k : Byte} {rest : List Byte} (hqueue : a.queue = k :: rest) :
    EntriesHold d { a with entries := a.entries.map fun x => if x.handle = k then leading x else x, queue := rest } := by
  obtain ⟨e, he, hek, hqueued⟩ := (h.queueRight k).1 (by rw [hqueue]; exact List.mem_cons_self ..)
  have honce := h.queueOnce
  have horder := h.queueOrder
  have hright := h.queueRight
  rw [hqueue] at honce horder hright
  obtain ⟨hfresh, honce⟩ := List.nodup_cons.1 honce
  have hsame : ((a.entries.map fun x => if x.handle = k then leading x else x).map fun x => x.handle) =
      a.entries.map fun x => x.handle := by
    rw [List.map_map]
    exact List.map_congr_left fun x _ => handle_leadingAt k x
  have hcount : ∀ v : Source, (a.entries.map fun x => if x.handle = k then leading x else x).countP (fun x => x.source = v) =
      a.entries.countP fun x => x.source = v := fun v => countP_map_of_keeps fun x _ => by rw [source_leadingAt]
  have hstays : ∀ y ∈ a.entries.map (fun x => if x.handle = k then leading x else x), y.phase = .queued →
      y ∈ a.entries ∧ y.handle ≠ k := fun y hy hq => by
    obtain ⟨x, hx, rfl⟩ := List.mem_map.1 hy
    split at hq
    · cases hq
    next hne => rw [if_neg hne]; exact ⟨hx, hne⟩
  exact {
    configEmpty := fun hd => by
      show a.entries.map _ = []
      rw [h.configEmpty hd]
      rfl
    handles := by
      refine ⟨hsame ▸ h.handles.1, fun y hy => ?_⟩
      obtain ⟨x, hx, rfl⟩ := List.mem_map.1 hy
      rw [handle_leadingAt]
      exact h.handles.2 x hx
    counter := h.counter
    quotas := by
      show _ ≤ 1 ∧ _ ≤ 1 ∧ _ ≤ 14
      rw [hcount, hcount, hcount]
      exact h.quotas
    queuedRecorded := fun y hy hq => h.queuedRecorded y (hstays y hy hq).1 hq
    oneActive := by
      have hone : (a.entries.map fun x => if x.handle = k then leading x else x).countP (fun x => activeRecorded x) ≤
          (a.entries.map fun x => x.handle).countP fun g => g = k := by
        rw [List.countP_map, List.countP_map]
        refine List.countP_mono_left fun x hx hactive => ?_
        rw [Function.comp_apply] at hactive ⊢
        split at hactive
        next heq => exact decide_eq_true heq
        · rw [hidle x hx] at hactive
          cases hactive
      exact hone.trans (List.nodup_iff_count_le_one.1 h.handles.1 k)
    queueOnce := honce
    queueRight := fun g => by
      constructor
      · intro hg
        obtain ⟨x, hx, hxg, hxqueued⟩ := (hright g).1 (List.mem_cons_of_mem _ hg)
        have hne : x.handle ≠ k := fun heq => hfresh (heq ▸ hxg ▸ hg)
        exact ⟨x, List.mem_map.2 ⟨x, hx, if_neg hne⟩, hxg, hxqueued⟩
      · rintro ⟨y, hy, hyg, hyqueued⟩
        obtain ⟨hmem, hne⟩ := hstays y hy hyqueued
        exact (List.mem_cons.1 ((hright g).2 ⟨y, hmem, hyg, hyqueued⟩)).resolve_left fun heq => hne (hyg.trans heq)
    queueOrder := by
      refine (List.pairwise_cons.1 horder).2.imp fun hold e' he' f' hf' hek hfk => ?_
      obtain ⟨x, hx, rfl⟩ := List.mem_map.1 he'
      obtain ⟨y, hy, rfl⟩ := List.mem_map.1 hf'
      rw [handle_leadingAt] at hek hfk
      rw [outranks_leadingAt]
      exact hold x hx y hy hek hfk
    readQueued := fun y hy hq => h.readQueued y (hstays y hy hq).1 hq
    peaks := h.peaks }

theorem handOn_eq_leading {s : State} {g : Byte} {rest : List Byte} (h : s.ann.queue = g :: rest) :
    handOn s = raise .recordedGo (openRecorded g ((s.modAnn fun a => { a with queue := rest }).modEntry g leading)) :=
  handOn_of_head h

theorem announcementsHold_handOn {s : State} (h : TableHolds [] s) (hidle : ∀ x ∈ s.ann.entries, activeRecorded x = false) :
    AnnouncementsHold (handOn s) := by
  cases hqueue : s.ann.queue with
  | nil =>
    rw [handOn_of_empty hqueue]
    exact announcementsHold_iff.2 ⟨h, fun hne => absurd hqueue hne⟩
  | cons k rest =>
    obtain ⟨e, he, hek, hqueued⟩ := (h.entries.queueRight k).1 (by rw [hqueue]; exact List.mem_cons_self ..)
    have hsource := h.entries.queuedRecorded e he hqueued
    have hlead : leading e ∈ s.ann.entries.map fun x => if x.handle = k then leading x else x :=
      List.mem_map.2 ⟨e, he, if_pos hek⟩
    rw [handOn_eq_leading hqueue]
    refine announcementsHold_iff.2 ⟨⟨h.entries.handedOn hidle hqueue, ?_, ?_, ?_⟩, fun _ => ⟨leading e, hlead, ?_⟩⟩
    · refine h.floors.map (fun x _ => handle_leadingAt k x) (fun x _ hq => ?_) fun x _ => ?_
      · split
        · exact nofun
        · exact hq
      · split <;> exact ⟨rfl, rfl⟩
    · refine ⟨fun g => ⟨?_, ?_⟩, nofun⟩
      · rintro ⟨⟩
        exact ⟨leading e, hlead, hek, hsource, rfl⟩
      · rintro ⟨y, hy, hyg, hholds⟩
        have hactive := activeRecorded_of_holdsBuffer (holdsBuffer_iff.2 hholds)
        obtain ⟨x, hx, rfl⟩ := List.mem_map.1 hy
        rw [handle_leadingAt] at hyg
        split at hactive
        next heq => exact congrArg some (heq.symm.trans hyg)
        · rw [hidle x hx] at hactive
          cases hactive
    · refine h.voices.map (fun x _ => handle_leadingAt k x) (fun x _ => source_leadingAt k x) fun x hx => ?_
      split
      next heq =>
        rw [h.entries.eq_of_handle he hx (heq.trans hek.symm), hqueued]
        exact ⟨nofun, nofun⟩
      · exact Iff.rfl
    · exact activeRecorded_iff.2 ⟨hsource, nofun⟩

theorem announcementsHold_removeAndHandOn {s : State} (h : AnnouncementsHold s) {e : Entry} (he : e ∈ s.ann.entries)
    (cause : EndReason) : AnnouncementsHold (removeAndHandOn e.handle cause s) := by
  obtain ⟨htable, hbusy⟩ := announcementsHold_iff.1 h
  have hremoved := tableHolds_removeEntry htable he (fun _ hg => absurd hg List.not_mem_nil) cause
  rw [removeAndHandOn_eq (entry?_of_mem h he)]
  split
  next hactive => exact announcementsHold_handOn hremoved (no_active_removeEntry htable he hactive cause)
  next hactive =>
    exact announcementsHold_iff.2 ⟨hremoved, queueBusy_removeEntry htable he hbusy (Bool.eq_false_iff.2 hactive) cause⟩

theorem announcementsHold_removeEntry {s : State} (h : AnnouncementsHold s) {e : Entry} (he : e ∈ s.ann.entries)
    (hidle : activeRecorded e = false) (cause : EndReason) : AnnouncementsHold (removeEntry e.handle cause s) := by
  obtain ⟨htable, hbusy⟩ := announcementsHold_iff.1 h
  exact announcementsHold_iff.2 ⟨tableHolds_removeEntry htable he (fun _ hg => absurd hg List.not_mem_nil) cause,
    queueBusy_removeEntry htable he hbusy hidle cause⟩

end Sys2Proof.Machine
end

section
/-! PROOFS. Admissions keep the agreement of announcements (R89, R91, R94, R95, R97). -/

namespace Sys2Proof.Machine

/-! ## An entry more -/

/-- In queue order: no entry with the second handle outranks one with the first (R91). -/
def InOrder (es : List Entry) (g h : Byte) : Prop :=
  ∀ e ∈ es, ∀ f ∈ es, e.handle = g → f.handle = h → outranks f e = false

section
variable {es : List Entry} {e : Entry}

theorem inOrder_append {g h : Byte} (horder : InOrder es g h) (hg : g ≠ e.handle) (hh : h ≠ e.handle) :
    InOrder (es ++ [e]) g h := fun x hx y hy hxg hyh => by
  have hold : ∀ {z : Entry} {k : Byte}, z ∈ es ++ [e] → z.handle = k → k ≠ e.handle → z ∈ es := fun hz hzk hk =>
    (List.mem_append.1 hz).resolve_right fun hin => hk (by rw [← hzk, List.mem_singleton.1 hin])
  exact horder x (hold hx hxg hg) y (hold hy hyh hh) hxg hyh

theorem countP_append_singleton (p : Entry → Bool) : (es ++ [e]).countP p = es.countP p + (if p e then 1 else 0) := by
  rw [List.countP_append, List.countP_singleton]

theorem FloorsHold.append {seat : BerthNo → Option Byte} {presence : BerthNo → Presence} (h : FloorsHold es seat presence)
    (hfresh : ∀ x ∈ es, x.handle ≠ e.handle) (haudience : e.audience = 0 ∧ e.peak ≤ 48) :
    FloorsHold (es ++ [e]) seat presence where
  floors b k hk := by
    obtain ⟨hpresent, x, hx, hrest⟩ := h.floors b k hk
    exact ⟨hpresent, x, List.mem_append_left _ hx, hrest⟩
  audience x hx := by
    rcases List.mem_append.1 hx with hx | hx
    · exact h.audience x hx
    · obtain ⟨hnone, hpeak⟩ := haudience
      have hseats : seatsOf seat e.handle = 0 := List.countP_eq_zero.2 fun b _ hb => by
        obtain ⟨-, y, hy, hye, -⟩ := h.floors b e.handle (of_decide_eq_true hb)
        exact hfresh y hy hye
      rw [List.mem_singleton.1 hx, hseats, hnone]
      exact ⟨rfl, Nat.zero_le _, hpeak⟩

theorem VoicesBut.append {silent : List Byte} {c : Chimes} (h : VoicesBut silent es c) (hphase : e.phase ≠ .chime) :
    VoicesBut silent (es ++ [e]) c where
  patterns := h.patterns
  voices v p hp := by
    obtain ⟨x, hx, hrest⟩ := h.voices v p hp
    exact ⟨x, List.mem_append_left _ hx, hrest⟩
  notes := h.notes
  chimes x hx hchime := by
    rcases List.mem_append.1 hx with hx | hx
    · exact h.chimes x hx hchime
    · rw [List.mem_singleton.1 hx] at hchime
      exact absurd hchime hphase

theorem BufferHolds.append {r : RecordedBuffer} (h : BufferHolds es r) (hholds : holdsBuffer e = false) :
    BufferHolds (es ++ [e]) r := by
  refine ⟨fun k => (h.target k).trans ⟨?_, ?_⟩, h.noTarget⟩
  · rintro ⟨x, hx, hrest⟩
    exact ⟨x, List.mem_append_left _ hx, hrest⟩
  · rintro ⟨x, hx, hk, hholding⟩
    rcases List.mem_append.1 hx with hx | hx
    · exact ⟨x, hx, hk, hholding⟩
    · rw [List.mem_singleton.1 hx, ← holdsBuffer_iff, hholds] at hholding
      cases hholding

/-- The buffer opened for the one active recorded entry. -/
theorem BufferHolds.opened (hidle : ∀ x ∈ es, activeRecorded x = false) (hholds : holdsBuffer e = true) {r : RecordedBuffer}
    (htarget : r.target = some e.handle) : BufferHolds (es ++ [e]) r := by
  refine ⟨fun k => ⟨?_, ?_⟩, fun hnone => by rw [htarget] at hnone; cases hnone⟩
  · intro hk
    rw [htarget] at hk
    exact ⟨e, List.mem_append_right _ (List.mem_singleton_self e), Option.some.inj hk, holdsBuffer_iff.1 hholds⟩
  · rintro ⟨x, hx, hk, hholding⟩
    rcases List.mem_append.1 hx with hx | hx
    · have hactive := activeRecorded_of_holdsBuffer (holdsBuffer_iff.2 hholding)
      rw [hidle x hx] at hactive
      cases hactive
    · rw [htarget, ← hk, List.mem_singleton.1 hx]

end

section
variable {d : DeviceState} {a : Announcer} (h : EntriesHold d a) {e : Entry} (hfresh : ∀ x ∈ a.entries, x.handle ≠ e.handle)
include h hfresh

theorem EntriesHold.not_mem_queue : e.handle ∉ a.queue := fun hmem => by
  obtain ⟨x, hx, hxe, -⟩ := (h.queueRight e.handle).1 hmem
  exact hfresh x hx hxe

variable (hrun : d ≠ .config) (hzero : e.handle ≠ 0)
  (hquota : ∀ v, e.source = v → a.entries.countP (fun x => x.source = v) < if v = .r then 14 else 1)
include hrun hzero hquota

omit hfresh hrun hzero in
theorem EntriesHold.quotas_append : (a.entries ++ [e]).countP (fun x => x.source = .d) ≤ 1 ∧
    (a.entries ++ [e]).countP (fun x => x.source = .c) ≤ 1 ∧ (a.entries ++ [e]).countP (fun x => x.source = .r) ≤ 14 := by
  obtain ⟨hd, hc, hr⟩ := h.quotas
  have hroom := hquota e.source rfl
  simp only [countP_append_singleton]
  cases hsource : e.source <;>
    simp only [hsource, reduceCtorEq, decide_true, decide_false, if_true, if_false, Bool.false_eq_true] at hroom ⊢ <;> omega

omit hrun hquota in
theorem EntriesHold.handles_append :
    ((a.entries ++ [e]).map fun x => x.handle).Nodup ∧ ∀ x ∈ a.entries ++ [e], x.handle ≠ 0 := by
  refine ⟨?_, fun x hx => ?_⟩
  · rw [List.map_append, List.nodup_append]
    refine ⟨h.handles.1, List.nodup_singleton _, fun g hg k hk heq => ?_⟩
    obtain ⟨x, hx, rfl⟩ := List.mem_map.1 hg
    rw [List.map_singleton, List.mem_singleton] at hk
    exact hfresh x hx (heq.trans hk)
  · rcases List.mem_append.1 hx with hx | hx
    · exact h.handles.2 x hx
    · rw [List.mem_singleton.1 hx]
      exact hzero

/-- An entry admitted to a phase other than QUEUED. -/
theorem EntriesHold.appendActive (hphase : e.phase ≠ .queued) (hactive : activeRecorded e = true → ∀ x ∈ a.entries, activeRecorded x = false) :
    EntriesHold d { a with entries := a.entries ++ [e] } where
  configEmpty hd := absurd hd hrun
  handles := h.handles_append hfresh hzero
  counter := h.counter
  quotas := h.quotas_append hquota
  queuedRecorded x hx hq := by
    rcases List.mem_append.1 hx with hx | hx
    · exact h.queuedRecorded x hx hq
    · rw [List.mem_singleton.1 hx] at hq
      exact absurd hq hphase
  oneActive := by
    show (a.entries ++ [e]).countP _ ≤ 1
    rw [countP_append_singleton]
    split
    next hact =>
      have hnone : a.entries.countP (fun x => activeRecorded x) = 0 := List.countP_eq_zero.2 fun x hx =>
        Bool.eq_false_iff.1 (hactive hact x hx)
      rw [hnone]
    · exact h.oneActive
  queueOnce := h.queueOnce
  queueRight k := by
    refine (h.queueRight k).trans ⟨?_, ?_⟩
    · rintro ⟨x, hx, hrest⟩
      exact ⟨x, List.mem_append_left _ hx, hrest⟩
    · rintro ⟨x, hx, hk, hq⟩
      rcases List.mem_append.1 hx with hx | hx
      · exact ⟨x, hx, hk, hq⟩
      · rw [List.mem_singleton.1 hx] at hq
        exact absurd hq hphase
  queueOrder := by
    have habsent := h.not_mem_queue hfresh
    refine h.queueOrder.imp_of_mem fun hg hk horder => ?_
    exact inOrder_append horder (fun heq => habsent (heq ▸ hg)) fun heq => habsent (heq ▸ hk)
  readQueued x hx hq := by
    rcases List.mem_append.1 hx with hx | hx
    · exact h.readQueued x hx hq
    · rw [List.mem_singleton.1 hx] at hq
      exact absurd hq hphase
  peaks := h.peaks

/-- An entry admitted to the queue, behind those that it does not outrank and ahead of the others. -/
theorem EntriesHold.enqueue (hsource : e.source = .r) (hphase : e.phase = .queued) (hread : phaseRead e = .queued)
    {before after : List Byte} (hqueue : a.queue = before ++ after)
    (hbefore : ∀ g ∈ before, ∀ x ∈ a.entries, x.handle = g → outranks e x = false)
    (hafter : ∀ g ∈ after, ∀ x ∈ a.entries, x.handle = g → outranks e x = true) :
    EntriesHold d { a with entries := a.entries ++ [e], queue := before ++ e.handle :: after } where
  configEmpty hd := absurd hd hrun
  handles := h.handles_append hfresh hzero
  counter := h.counter
  quotas := h.quotas_append hquota
  queuedRecorded x hx hq := by
    rcases List.mem_append.1 hx with hx | hx
    · exact h.queuedRecorded x hx hq
    · rw [List.mem_singleton.1 hx]
      exact hsource
  oneActive := by
    show (a.entries ++ [e]).countP _ ≤ 1
    have hidle : activeRecorded e = false := Bool.eq_false_iff.2 fun hactive => (activeRecorded_iff.1 hactive).2 hphase
    rw [countP_append_singleton, if_neg (by simp [hidle])]
    exact h.oneActive
  queueOnce := by
    have habsent := h.not_mem_queue hfresh
    have honce := h.queueOnce
    rw [hqueue] at habsent honce
    exact (List.perm_middle.nodup_iff).2 (List.nodup_cons.2 ⟨habsent, honce⟩)
  queueRight k := by
    have hright := h.queueRight k
    rw [hqueue] at hright
    show k ∈ before ++ e.handle :: after ↔ _
    rw [List.perm_middle.mem_iff, List.mem_cons, hright]
    constructor
    · rintro (rfl | ⟨x, hx, hrest⟩)
      · exact ⟨e, List.mem_append_right _ (List.mem_singleton_self e), rfl, hphase⟩
      · exact ⟨x, List.mem_append_left _ hx, hrest⟩
    · rintro ⟨x, hx, hk, hq⟩
      rcases List.mem_append.1 hx with hx | hx
      · exact .inr ⟨x, hx, hk, hq⟩
      · exact .inl (by rw [← hk, List.mem_singleton.1 hx])
  queueOrder := by
    have habsent := h.not_mem_queue hfresh
    have horder : a.queue.Pairwise (InOrder a.entries) := h.queueOrder
    rw [hqueue] at habsent horder
    obtain ⟨hfront, hback, hacross⟩ := List.pairwise_append.1 horder
    have hne : ∀ g ∈ before ++ after, g ≠ e.handle := fun g hg heq => habsent (heq ▸ hg)
    have hneBefore : ∀ g ∈ before, g ≠ e.handle := fun g hg => hne g (List.mem_append_left _ hg)
    have hneAfter : ∀ g ∈ after, g ≠ e.handle := fun g hg => hne g (List.mem_append_right _ hg)
    have honly : ∀ x ∈ a.entries ++ [e], x.handle = e.handle → x = e := fun x hx hxe =>
      (List.mem_append.1 hx).elim (fun hx => absurd hxe (hfresh x hx)) fun hx => List.mem_singleton.1 hx
    have hold : ∀ x ∈ a.entries ++ [e], x.handle ≠ e.handle → x ∈ a.entries := fun x hx hxe =>
      (List.mem_append.1 hx).resolve_right fun hin => hxe (by rw [List.mem_singleton.1 hin])
    have hself : ∀ x ∈ a.entries, outranks e x = true → outranks x e = false := fun x _ hex => by
      rw [Bool.eq_false_iff]
      intro hxe
      rw [outranks_iff] at hex hxe
      simp only [BitVec.lt_def] at hex hxe
      omega
    show (before ++ e.handle :: after).Pairwise (InOrder (a.entries ++ [e]))
    refine List.pairwise_append.2 ⟨?_, List.pairwise_cons.2 ⟨?_, ?_⟩, ?_⟩
    · exact hfront.imp_of_mem fun hg hk ho => inOrder_append ho (hneBefore _ hg) (hneBefore _ hk)
    · intro k hk x hx y hy hxe hyk
      rw [honly x hx hxe]
      have hy := hold y hy (hyk ▸ hneAfter k hk)
      exact hself y hy (hafter k hk y hy hyk)
    · exact hback.imp_of_mem fun hg hk ho => inOrder_append ho (hneAfter _ hg) (hneAfter _ hk)
    · intro g hg k hk
      rcases List.mem_cons.1 hk with rfl | hk
      · intro x hx y hy hxg hye
        rw [honly y hy hye]
        exact hbefore g hg x (hold x hx (hxg ▸ hneBefore g hg)) hxg
      · exact inOrder_append (hacross g hg k hk) (hneBefore g hg) (hneAfter k hk)
  readQueued x hx hq := by
    rcases List.mem_append.1 hx with hx | hx
    · exact h.readQueued x hx hq
    · rw [List.mem_singleton.1 hx]
      exact hread
  peaks := h.peaks

end

theorem holdsBuffer_of_mic {e : Entry} (h : e.source ≠ .r) : holdsBuffer e = false :=
  Bool.eq_false_iff.2 fun hholds => h (holdsBuffer_iff.1 hholds).1

/-! ## Admissions -/

theorem tableHolds_countAdmission {s : State} (h : TableHolds [] s) : TableHolds [] (countAdmission s) :=
  ⟨{ h.entries with counter := nextHandle_ne_zero _ }, h.floors, h.buffer, h.voices⟩

theorem announcementsHold_countAdmission {s : State} (h : AnnouncementsHold s) : AnnouncementsHold (countAdmission s) := by
  obtain ⟨htable, hbusy⟩ := announcementsHold_iff.1 h
  exact announcementsHold_iff.2 ⟨tableHolds_countAdmission htable, hbusy⟩

section
variable {s : State} {e : Entry} (hfresh : ∀ x ∈ s.ann.entries, x.handle ≠ e.handle) (hrun : s.device ≠ .config)
  (hzero : e.handle ≠ 0)
  (hquota : ∀ v, e.source = v → s.ann.entries.countP (fun x => x.source = v) < if v = .r then 14 else 1)
  (haudience : e.audience = 0 ∧ e.peak ≤ 48)
include hfresh hrun hzero hquota haudience

/-- An entry admitted for the idle recorded source. -/
theorem announcementsHold_becomeActive (h : TableHolds [] s) (hidle : ∀ x ∈ s.ann.entries, activeRecorded x = false)
    (hsource : e.source = .r) (hphase : e.phase = .lead) : AnnouncementsHold (becomeActive e s) := by
  have hqueued : e.phase ≠ .queued := by rw [hphase]; exact nofun
  have hactive : activeRecorded e = true := activeRecorded_iff.2 ⟨hsource, hqueued⟩
  refine announcementsHold_iff.2 ⟨⟨h.entries.appendActive hfresh hrun hzero hquota hqueued fun _ => hidle,
    h.floors.append hfresh haudience, BufferHolds.opened hidle (holdsBuffer_iff.2 ⟨hsource, by rw [hphase]; rfl⟩) rfl,
    h.voices.append (by rw [hphase]; exact nofun)⟩,
    fun _ => ⟨e, List.mem_append_right _ (List.mem_singleton_self e), hactive⟩⟩

/-- An entry admitted for an idle microphone source. -/
theorem announcementsHold_addEntry (h : AnnouncementsHold s) (hsource : e.source ≠ .r) (hphase : e.phase = .lead) :
    AnnouncementsHold (addEntry e s) := by
  obtain ⟨htable, hbusy⟩ := announcementsHold_iff.1 h
  have hqueued : e.phase ≠ .queued := by rw [hphase]; exact nofun
  have hnot : activeRecorded e = false := Bool.eq_false_iff.2 fun hactive => hsource (activeRecorded_iff.1 hactive).1
  have hentries := htable.entries.appendActive hfresh hrun hzero hquota hqueued fun hactive => by
    rw [hnot] at hactive
    cases hactive
  refine announcementsHold_iff.2 ⟨⟨hentries, htable.floors.append hfresh haudience,
    htable.buffer.append (holdsBuffer_of_mic hsource),
    htable.voices.append (by rw [hphase]; exact nofun)⟩, fun hne => ?_⟩
  obtain ⟨x, hx, hactive⟩ := hbusy hne
  exact ⟨x, List.mem_append_left _ hx, hactive⟩

/-- An entry admitted to the queue of the busy recorded source. -/
theorem announcementsHold_enqueue (h : AnnouncementsHold s) {b : Entry} (hb : b ∈ s.ann.entries) (hactive : activeRecorded b = true)
    (hsource : e.source = .r) (hphase : e.phase = .queued) (hread : phaseRead e = .queued) :
    AnnouncementsHold (addEntry e (s.modAnn fun k => { k with queue := queueWith s e })) := by
  obtain ⟨htable, -⟩ := announcementsHold_iff.1 h
  have hentries := htable.entries.enqueue hfresh hrun hzero hquota hsource hphase hread
    (before := s.ann.queue.takeWhile fun g => !goesAhead s e g) (after := s.ann.queue.dropWhile fun g => !goesAhead s e g)
    List.takeWhile_append_dropWhile.symm
    (fun g hg x hx hxg => by
      rw [← goesAhead_of_mem h e hx, hxg]
      exact goesAhead_of_ahead hg)
    fun g hg x hx hxg => by
      rw [← goesAhead_of_mem h e hx, hxg]
      exact goesAhead_of_behind h e hg
  rw [← queueWith_eq] at hentries
  refine announcementsHold_iff.2 ⟨⟨hentries, htable.floors.append hfresh haudience,
    htable.buffer.append (Bool.eq_false_iff.2 fun hholds => (activeRecorded_iff.1 (activeRecorded_of_holdsBuffer hholds)).2 hphase),
    htable.voices.append (by rw [hphase]; exact nofun)⟩, fun _ => ⟨b, List.mem_append_left _ hb, hactive⟩⟩

end

/-- An entry placed: active at once, in the place of one that it preempts, or in the queue (R91, R94, R95). -/
theorem announcementsHold_placeEntry {s : State} (h : AnnouncementsHold s) {e : Entry}
    (hfresh : ∀ x ∈ s.ann.entries, x.handle ≠ e.handle) (hrun : s.device ≠ .config) (hzero : e.handle ≠ 0)
    (hroom : entriesOf s .r < 14) (hsource : e.source = .r) (hphase : e.phase = .lead) (hread : e.blockPhase = none)
    (haudience : e.audience = 0 ∧ e.peak ≤ 48) : AnnouncementsHold (placeEntry e s) := by
  obtain ⟨htable, -⟩ := announcementsHold_iff.1 h
  have hquota : ∀ v, e.source = v → s.ann.entries.countP (fun x => x.source = v) < if v = .r then 14 else 1 := fun v hv => by
    rw [← hv, hsource]
    exact hroom
  unfold placeEntry
  split
  next hnone =>
    refine announcementsHold_becomeActive hfresh hrun hzero hquota haudience htable (fun x hx => ?_) hsource hphase
    have hidle := List.find?_eq_none.1 hnone x hx
    exact Bool.eq_false_iff.2 fun hactive => hidle (decide_eq_true (activeRecorded_iff.1 hactive))
  next b hb =>
    have hmem : b ∈ s.ann.entries := List.mem_of_find?_eq_some hb
    have hbprop := List.find?_some hb
    have hactive : activeRecorded b = true := activeRecorded_iff.2 (of_decide_eq_true hbprop)
    split
    · have hann := ann_removeEntry htable hmem .preempted
      have hsub : ∀ x ∈ (removeEntry b.handle .preempted s).ann.entries, x ∈ s.ann.entries := fun x hx => by
        rw [hann] at hx
        exact List.mem_of_mem_filter hx
      refine announcementsHold_becomeActive (fun x hx => hfresh x (hsub x hx)) (by simpa using hrun) hzero (fun v hv => ?_)
        haudience (tableHolds_removeEntry htable hmem (fun _ hg => absurd hg List.not_mem_nil) .preempted)
        (no_active_removeEntry htable hmem hactive .preempted) hsource hphase
      refine Nat.lt_of_le_of_lt ?_ (hquota v hv)
      rw [hann]
      exact List.filter_sublist.countP_le
    · exact announcementsHold_enqueue (e := { e with phase := .queued, timer := e.deadline }) hfresh hrun hzero hquota haudience h
        hmem hactive hsource rfl (by rw [phaseRead, hread]; rfl)

theorem announcementsHold_announce {s : State} (h : AnnouncementsHold s) (x : AnnounceBody) (deadline : Half) :
    AnnouncementsHold (announce x deadline s).state := by
  unfold announce
  split
  · exact h
  next hrun =>
    split
    · exact h
    · split
      · exact h
      next hroom =>
        obtain ⟨hfresh, -⟩ := issuedHandle_fresh h
        exact announcementsHold_placeEntry (announcementsHold_countAdmission h) hfresh hrun (issuedHandle_ne_zero h)
          (Nat.not_le.1 hroom) rfl rfl rfl ⟨rfl, Nat.zero_le _⟩

/-! ## The push-to-talk contacts -/

theorem announcementsHold_admitMic {s : State} (h : AnnouncementsHold s) (hrun : s.device ≠ .config) {m : Mic}
    (hidle : s.active? (micSource m) = none) : AnnouncementsHold (admitMic m s) := by
  obtain ⟨hfresh, -⟩ := issuedHandle_fresh h
  have hmic : micSource m ≠ .r := by cases m <;> exact nofun
  refine announcementsHold_addEntry (e := newEntry s (micSource m) (pressParams s m) 0) (s := countAdmission s) hfresh hrun
    (issuedHandle_ne_zero h) (fun v hv => ?_) ⟨rfl, Nat.zero_le _⟩ (announcementsHold_countAdmission h) hmic rfl
  have hv : micSource m = v := hv
  have hnone : s.ann.entries.countP (fun x => x.source = v) = 0 := List.countP_eq_zero.2 fun x hx hsource => by
    have hsource := (of_decide_eq_true hsource).trans hv.symm
    exact List.find?_eq_none.1 hidle x hx (decide_eq_true ⟨hsource, not_queued_of_mic h hx (hsource ▸ hmic)⟩)
  show s.ann.entries.countP _ < _
  rw [hnone]
  split <;> decide

theorem active?_spec {s : State} {src : Source} {e : Entry} (h : s.active? src = some e) :
    e ∈ s.ann.entries ∧ e.source = src ∧ e.phase ≠ .queued :=
  ⟨List.mem_of_find?_eq_some h,
    of_decide_eq_true (List.find?_some (p := fun e : Entry => decide (e.source = src ∧ e.phase ≠ .queued)) h)⟩

theorem announcementsHold_pressMic {s : State} (h : AnnouncementsHold s) (m : Mic) : AnnouncementsHold (pressMic m s) := by
  have hmic : micSource m ≠ .r := by cases m <;> exact nofun
  unfold pressMic
  split
  · exact h
  next hrun =>
    split
    next hidle => exact announcementsHold_admitMic h hrun hidle
    next e he =>
      obtain ⟨hmem, hsource, hqueued⟩ := active?_spec he
      unfold repress
      split
      next htail =>
        refine announcementsHold_modEntry h hmem (keepsRank_of_phase ⟨rfl, rfl, rfl, rfl⟩ hqueued nofun) ⟨rfl, rfl⟩ ?_ ?_
        · have hnot : e.source ≠ .r := hsource ▸ hmic
          exact (holdsBuffer_of_mic (e := { e with phase := .live, timer := 0, endReason := none }) hnot).trans
            (holdsBuffer_of_mic hnot).symm
        · rw [htail]
          exact ⟨nofun, nofun⟩
      next hchime =>
        exact announcementsHold_modEntry_of_phase h hmem ⟨rfl, rfl, rfl, rfl⟩ rfl (fun hq => absurd hq hqueued) ⟨rfl, rfl⟩
      · exact h

theorem announcementsHold_releaseMic {s : State} (h : AnnouncementsHold s) (m : Mic) : AnnouncementsHold (releaseMic m s) := by
  unfold releaseMic
  split
  · exact h
  · split
    · exact h
    next e he =>
      obtain ⟨hmem, -, hqueued⟩ := active?_spec he
      split
      · exact announcementsHold_enterTail h hmem hqueued _
      · exact announcementsHold_modEntry_of_phase h hmem ⟨rfl, rfl, rfl, rfl⟩ rfl (fun hq => absurd hq hqueued) ⟨rfl, rfl⟩
      · exact announcementsHold_enterTail h hmem hqueued _
      · exact h

theorem announcementsHold_cut {s : State} (h : AnnouncementsHold s) (handle mode : Byte) :
    AnnouncementsHold (cut handle mode s).state := by
  unfold cut
  split
  · exact h
  · split
    · exact h
    · split
      · exact h
      next e he =>
        have hmem := State.entry?_mem _ he
        by_cases hqueued : e.phase = .queued
        · rw [cutEntry_of_queued hqueued]
          exact announcementsHold_removeEntry h hmem (Bool.eq_false_iff.2 fun hactive => (activeRecorded_iff.1 hactive).2 hqueued) _
        · by_cases hhard : mode = 1
          · rw [decide_eq_true hhard, cutEntry_hard hqueued]
            exact announcementsHold_removeAndHandOn h hmem _
          · rw [decide_eq_false hhard]
            by_cases htail : e.phase = .tail
            · rw [cutEntry_soft_of_tail htail]
              exact h
            · rw [cutEntry_soft hqueued htail]
              exact announcementsHold_enterTail h hmem hqueued _

end Sys2Proof.Machine
end

section
/-! PROOFS. Voices and advances keep the agreement of announcements (R103 to R112, R136 to R139). -/

namespace Sys2Proof.Machine

/-! ## Clocks and notes -/

/-- The entry with other clocks, counts and notes alone. -/
structure KeepsKeys (e f : Entry) : Prop where
  handle : f.handle = e.handle
  source : f.source = e.source
  params : f.params = e.params
  admission : f.admission = e.admission
  phase : f.phase = e.phase
  audience : f.audience = e.audience
  peak : f.peak = e.peak
  read : e.phase = .queued → phaseRead e = .queued → phaseRead f = .queued

theorem KeepsKeys.refl (e : Entry) : KeepsKeys e e := ⟨rfl, rfl, rfl, rfl, rfl, rfl, rfl, fun _ h => h⟩

theorem announcementsHold_map {s : State} (h : AnnouncementsHold s) {g : Entry → Entry}
    (hg : ∀ x ∈ s.ann.entries, KeepsKeys x (g x)) : AnnouncementsHold (s.modAnn fun a => { a with entries := a.entries.map g }) := by
  obtain ⟨htable, hbusy⟩ := announcementsHold_iff.1 h
  have hrank : ∀ x ∈ s.ann.entries, KeepsRank x (g x) := fun x hx => by
    obtain ⟨hhandle, hsource, hparams, hadmission, hphase, -, -, hread⟩ := hg x hx
    refine ⟨hhandle, hsource, hparams, hadmission, by rw [hphase], fun hq => ?_⟩
    rw [hphase] at hq
    exact hread hq (htable.entries.readQueued x hx hq)
  refine announcementsHold_iff.2 ⟨⟨htable.entries.map hrank, htable.floors.map (fun x hx => (hg x hx).handle)
    (fun x hx hq => by rwa [(hg x hx).phase]) fun x hx => ⟨(hg x hx).audience, (hg x hx).peak⟩,
    htable.buffer.map (fun x hx => (hg x hx).handle) fun x hx => ?_,
    htable.voices.map (fun x hx => (hg x hx).handle) (fun x hx => (hg x hx).source) fun x hx => by rw [(hg x hx).phase]⟩,
    hbusy.map hrank⟩
  rw [holdsBuffer, holdsBuffer, (hg x hx).source, (hg x hx).phase]

theorem announcementsHold_modEntry_of_keys {s : State} (h : AnnouncementsHold s) (k : Byte) {f : Entry → Entry}
    (hf : ∀ x, KeepsKeys x (f x)) : AnnouncementsHold (s.modEntry k f) :=
  announcementsHold_map h fun x _ => by
    split
    · exact hf x
    · exact .refl x

/-! ## What an operation of one entry does to the agreement -/

/-- The entry with this handle, if there is one, does not wait in the queue. -/
def NotQueued (s : State) (k : Byte) : Prop := ∀ e, s.entry? k = some e → e.phase ≠ .queued

theorem notQueued_modEntry {s : State} {k : Byte} (h : NotQueued s k) {f : Entry → Entry} (hhandle : ∀ x, (f x).handle = x.handle)
    (hphase : ∀ x, (f x).phase = x.phase) : NotQueued (s.modEntry k f) k := fun e he => by
  rw [State.entry?_modEntry _ _ _ _ hhandle] at he
  obtain ⟨x, hx, rfl⟩ := Option.map_eq_some_iff.1 he
  split
  · rw [hphase]
    exact h x hx
  · exact h x hx

theorem announcementsHold_enterTail_of_notQueued {s : State} (h : AnnouncementsHold s) {k : Byte} (hk : NotQueued s k)
    (why : EndReason) : AnnouncementsHold (enterTail k why s) := by
  cases hfind : s.entry? k with
  | none =>
    have hsame : enterTail k why s = s := by
      unfold enterTail
      rw [hfind]
    rwa [hsame]
  | some e =>
    rw [← State.entry?_handle _ hfind]
    exact announcementsHold_enterTail h (State.entry?_mem _ hfind) (hk e hfind) why

theorem announcementsHold_takeRecorded {s : State} (h : AnnouncementsHold s) : AnnouncementsHold (takeRecorded s) :=
  have hempty : s.media.recorded.target = none → s.media.recorded.blocks.tail = [] := fun hnone => by
    rw [h.noTarget hnone]
    rfl
  { h with noTarget := hempty }

theorem announcementsHold_liveAdvance {s : State} (h : AnnouncementsHold s) {e : Entry} (hqueued : NotQueued s e.handle) :
    AnnouncementsHold (liveAdvance e s) := by
  have hnote := announcementsHold_modEntry_of_keys h e.handle (f := fun x => { x with recorded := none })
    fun _ => ⟨rfl, rfl, rfl, rfl, rfl, rfl, rfl, fun _ hr => hr⟩
  have hnoted : NotQueued (s.modEntry e.handle fun x => { x with recorded := none }) e.handle :=
    notQueued_modEntry hqueued (fun _ => rfl) fun _ => rfl
  unfold liveAdvance
  dsimp only
  generalize (s.modEntry e.handle fun x => { x with recorded := none }) = t at hnote hnoted ⊢
  split
  · exact announcementsHold_enterTail_of_notQueued hnote hnoted _
  · have hcount := announcementsHold_modEntry_of_keys hnote e.handle (f := fun x => { x with liveCount := countHalf x.liveCount })
      fun _ => ⟨rfl, rfl, rfl, rfl, rfl, rfl, rfl, fun _ hr => hr⟩
    have hcounted : NotQueued (t.modEntry e.handle fun x => { x with liveCount := countHalf x.liveCount }) e.handle :=
      notQueued_modEntry hnoted (fun _ => rfl) fun _ => rfl
    generalize (t.modEntry e.handle fun x => { x with liveCount := countHalf x.liveCount }) = u at hcount hcounted ⊢
    split
    · exact hcount
    · split
      · have hstarved := announcementsHold_modEntry_of_keys hcount e.handle
          (f := fun x => { x with starvation := countTo liveStarveLimit x.starvation })
          fun _ => ⟨rfl, rfl, rfl, rfl, rfl, rfl, rfl, fun _ hr => hr⟩
        split
        · exact announcementsHold_enterTail_of_notQueued hstarved (notQueued_modEntry hcounted (fun _ => rfl) fun _ => rfl) _
        · exact hstarved
      next b _ _ =>
        have hpassed := announcementsHold_modEntry_of_keys (announcementsHold_takeRecorded hcount) e.handle
          (f := fun x => { x with starvation := 0, recorded := some b.samples })
          fun _ => ⟨rfl, rfl, rfl, rfl, rfl, rfl, rfl, fun _ hr => hr⟩
        split
        · exact announcementsHold_enterTail_of_notQueued hpassed
            (notQueued_modEntry (s := takeRecorded u) hcounted (fun _ => rfl) fun _ => rfl) _
        · exact hpassed

/-! ## Voices -/

/-- A voice set to play for an entry that comes to stand in CHIME. -/
theorem VoicesBut.sound {d : DeviceState} {a : Announcer} (h : EntriesHold d a) {c c' : Chimes} (hvoices : VoicesBut [] a.entries c)
    {e : Entry} (he : e ∈ a.entries) (hqueued : e.phase ≠ .queued) {f : Entry → Entry}
    (hf : (f e).handle = e.handle ∧ (f e).source = e.source ∧ (f e).phase = .chime) (hpatterns : c'.patterns = c.patterns)
    {q : Playing} (hq : playing c' e.source = some q) (hentry : q.entry = e.handle)
    (hnote : q.noteIndex < (c.patterns.get q.pattern).length) (hothers : ∀ v, v ≠ e.source → playing c' v = playing c v) :
    VoicesBut [] (a.entries.map fun x => if x.handle = e.handle then f x else x) c' := by
  obtain ⟨hhandle, hsource, hphase⟩ := hf
  have hsounds : f e ∈ a.entries.map fun x => if x.handle = e.handle then f x else x := List.mem_map.2 ⟨e, he, if_pos rfl⟩
  have hown : ∀ x ∈ a.entries, x.phase = .chime → x.source = e.source → x.handle = e.handle := fun x hx hchime hsrc =>
    congrArg Entry.handle (h.eq_of_source he hx hqueued (by rw [hchime]; exact nofun) hsrc)
  refine ⟨fun p => by rw [hpatterns]; exact hvoices.patterns p, fun v p hp => ?_, fun v p hp => ?_, fun y hy hchime _ => ?_⟩
  · by_cases hv : v = e.source
    · subst hv
      rw [hq] at hp
      cases hp
      exact ⟨f e, hsounds, hhandle.trans hentry.symm, hsource, hphase⟩
    · rw [hothers v hv] at hp
      obtain ⟨x, hx, hxp, hxv, hchime⟩ := hvoices.voices v p hp
      refine ⟨x, List.mem_map.2 ⟨x, hx, if_neg fun heq => hv ?_⟩, hxp, hxv, hchime⟩
      rw [← hxv, h.eq_of_handle he hx heq]
  · rw [hpatterns]
    by_cases hv : v = e.source
    · subst hv
      rw [hq] at hp
      cases hp
      exact hnote
    · rw [hothers v hv] at hp
      exact hvoices.notes v p hp
  · obtain ⟨x, hx, rfl⟩ := List.mem_map.1 hy
    split
    next heq =>
      rw [h.eq_of_handle he hx heq, hsource, hhandle]
      exact ⟨q, hq, hentry⟩
    next hne =>
      rw [if_neg hne] at hchime
      obtain ⟨p, hp, hxp⟩ := hvoices.chimes x hx hchime List.not_mem_nil
      exact ⟨p, (hothers _ fun hsrc => hne (hown x hx hchime hsrc)).trans hp, hxp⟩

theorem startVoice_of_notes {s : State} {p : PatternNo} {n : Note} {rest : List Note} (h : s.chimes.patterns.get p = n :: rest)
    (v : Source) (k : Byte) : startVoice v k p s = s.modVoice v fun _ => playBlock n (atNote ⟨k, p, 0, 0, 0, 0, 0⟩ 0 n) := by
  have h : notesOf s p = n :: rest := h
  unfold startVoice
  rw [h]

/-- The entry in its CHIME. -/
def chiming (x : Entry) : Entry := { x with phase := .chime, blockPhase := some .chime }

theorem endLead_of_chime {e : Entry} {p : PatternNo} (h : e.params.chime = some p) (s : State) :
    endLead e s = startVoice e.source e.handle p (s.modEntry e.handle chiming) := by
  unfold endLead
  rw [h]
  rfl

theorem endLead_of_silent {e : Entry} (h : e.params.chime = none) (s : State) :
    endLead e s = s.modEntry e.handle fun x => { x with phase := .live } := by
  unfold endLead
  rw [h]

theorem holdsBuffer_of_candidates {e f : Entry} (hsource : f.source = e.source) (he : candidatePhase e.phase = true)
    (hf : candidatePhase f.phase = true) : holdsBuffer f = holdsBuffer e := by
  rw [holdsBuffer, holdsBuffer, hsource, he, hf]

theorem announcementsHold_endLead {s : State} (h : AnnouncementsHold s) {x : Entry} (hx : x ∈ s.ann.entries) (hphase : x.phase = .lead)
    {e : Entry} (hhandle : e.handle = x.handle) (hsource : e.source = x.source) : AnnouncementsHold (endLead e s) := by
  obtain ⟨htable, hbusy⟩ := announcementsHold_iff.1 h
  have hqueued : x.phase ≠ .queued := by rw [hphase]; exact nofun
  have hcandidate : candidatePhase x.phase = true := by rw [hphase]; rfl
  cases hchime : e.params.chime with
  | none =>
    rw [endLead_of_silent hchime, hhandle]
    exact announcementsHold_modEntry h hx (keepsRank_of_phase ⟨rfl, rfl, rfl, rfl⟩ hqueued nofun) ⟨rfl, rfl⟩
      (holdsBuffer_of_candidates (e := x) (f := { x with phase := .live }) rfl hcandidate rfl)
      ⟨nofun, fun hc => by rw [hphase] at hc; cases hc⟩
  | some p =>
    have hrank : KeepsRank x (chiming x) := keepsRank_of_phase ⟨rfl, rfl, rfl, rfl⟩ hqueued nofun
    obtain ⟨n, rest, hnotes⟩ := List.exists_cons_of_ne_nil (h.patterns p)
    rw [endLead_of_chime hchime, hhandle, hsource, startVoice_of_notes (s := s.modEntry x.handle chiming) hnotes]
    refine announcementsHold_iff.2 ⟨⟨htable.entries.map (htable.entries.keepsRank_at hx hrank),
      floors_modEntry htable hx hrank ⟨rfl, rfl⟩, ?_, ?_⟩, queueBusy_modEntry htable hx hrank hbusy⟩
    · exact htable.buffer.map (fun y _ => by split <;> rfl) (htable.entries.forall_at (Q := fun y z => holdsBuffer z = holdsBuffer y)
        (fun _ _ => rfl) hx (holdsBuffer_of_candidates (e := x) (f := chiming x) rfl hcandidate rfl))
    · refine VoicesBut.sound htable.entries htable.voices hx hqueued (f := chiming) ⟨rfl, rfl, rfl⟩
        (patterns_modVoice (s.modEntry x.handle chiming) x.source _)
        ((playing_modVoice (s.modEntry x.handle chiming) x.source x.source _).trans (if_pos rfl)) rfl ?_ fun v hv =>
        (playing_modVoice (s.modEntry x.handle chiming) x.source v _).trans (if_neg (Ne.symm hv))
      show 0 < (s.chimes.patterns.get p).length
      rw [hnotes]
      exact Nat.succ_pos _

/-! ## The advance of an entry (R103 to R111) -/

theorem announcementsHold_takeAdvance (n : Nat) {s : State} (h : AnnouncementsHold s) (k : Byte) :
    AnnouncementsHold (takeAdvance n k s) := by
  induction n generalizing s k with
  | zero => exact h
  | succ n ih =>
    unfold takeAdvance
    split
    · exact h
    next e he =>
      have hmem := State.entry?_mem _ he
      obtain rfl := State.entry?_handle _ he
      have hbegun : AnnouncementsHold (s.modEntry e.handle fun x => { x with due := false, blockPhase := some e.phase }) :=
        announcementsHold_modEntry_of_phase h hmem ⟨rfl, rfl, rfl, rfl⟩ rfl (fun hq => hq) ⟨rfl, rfl⟩
      have hbegunMem : { e with due := false, blockPhase := some e.phase } ∈
          (s.modEntry e.handle fun x => { x with due := false, blockPhase := some e.phase }).ann.entries :=
        List.mem_map.2 ⟨e, hmem, if_pos rfl⟩
      have hcount : ∀ {t : State}, AnnouncementsHold t →
          AnnouncementsHold (t.modEntry e.handle fun x => { x with timer := x.timer - 1 }) := fun ht =>
        announcementsHold_modEntry_of_keys ht e.handle fun _ => ⟨rfl, rfl, rfl, rfl, rfl, rfl, rfl, fun _ hr => hr⟩
      dsimp only
      generalize (s.modEntry e.handle fun x => { x with due := false, blockPhase := some e.phase }) = t at hbegun hbegunMem ⊢
      cases hphase : e.phase with
      | queued =>
        dsimp only
        split
        · exact hbegun
        · split
          · refine announcementsHold_removeEntry hbegun hbegunMem (Bool.eq_false_iff.2 fun hactive => ?_) .stale
            exact (activeRecorded_iff.1 hactive).2 hphase
          · exact hcount hbegun
      | lead =>
        dsimp only
        split
        · have hled := announcementsHold_endLead hbegun hbegunMem hphase (e := e) rfl rfl
          split
          · exact hled
          · exact ih hled e.handle
        · exact hcount hbegun
      | chime => exact hbegun
      | live =>
        dsimp only
        have hlive : AnnouncementsHold (liveAdvance e t) := announcementsHold_liveAdvance hbegun fun x hx => by
          have hfound : t.entry? e.handle = some { e with due := false, blockPhase := some e.phase } :=
            entry?_of_mem hbegun hbegunMem
          rw [hfound] at hx
          cases hx
          rw [hphase]
          exact nofun
        split
        · exact hlive
        · split
          · exact ih hlive e.handle
          · exact hlive
      | tail =>
        dsimp only
        split
        · have hgone := announcementsHold_removeAndHandOn hbegun hbegunMem .completed
          split
          · split
            · exact hgone
            next k _ => exact ih hgone k
          · exact hgone
        · exact hcount hbegun

theorem announcementsHold_advanceIfDue {s : State} (h : AnnouncementsHold s) (k : Byte) : AnnouncementsHold (advanceIfDue s k) := by
  unfold advanceIfDue
  split
  · exact h
  · split
    · exact announcementsHold_takeAdvance _ h k
    · exact h

/-! ## The advance of a voice (R136, R139, R107) -/

/-- A voice set to play on for its entry. -/
theorem VoicesBut.playOn {silent : List Byte} {es : List Entry} {c c' : Chimes} (h : VoicesBut silent es c)
    (hpatterns : c'.patterns = c.patterns) {v : Source} {p q : Playing} (hp : playing c v = some p) (hq : playing c' v = some q)
    (hentry : q.entry = p.entry) (hnote : q.noteIndex < (c.patterns.get q.pattern).length)
    (hothers : ∀ w, w ≠ v → playing c' w = playing c w) : VoicesBut silent es c' := by
  refine ⟨fun i => by rw [hpatterns]; exact h.patterns i, fun w r hr => ?_, fun w r hr => ?_, fun x hx hchime hloud => ?_⟩
  · by_cases hw : w = v
    · subst hw
      rw [hq] at hr
      cases hr
      rw [hentry]
      exact h.voices w p hp
    · exact h.voices w r ((hothers w hw).symm.trans hr)
  · rw [hpatterns]
    by_cases hw : w = v
    · subst hw
      rw [hq] at hr
      cases hr
      exact hnote
    · exact h.notes w r ((hothers w hw).symm.trans hr)
  · obtain ⟨r, hr, hrx⟩ := h.chimes x hx hchime hloud
    by_cases hw : x.source = v
    · refine ⟨q, hw ▸ hq, ?_⟩
      rw [hw, hp] at hr
      cases hr
      exact hentry.trans hrx
    · exact ⟨r, (hothers _ hw).trans hr, hrx⟩

theorem announcementsHold_chimes {s t : State} (h : AnnouncementsHold s) (hdevice : t.device = s.device) (hann : t.ann = s.ann)
    (hmix : t.mix = s.mix) (hberths : t.berths = s.berths) (hmedia : t.media = s.media)
    (hvoices : VoicesBut [] s.ann.entries t.chimes) : AnnouncementsHold t := by
  obtain ⟨⟨hentries, hfloors, hbuffer, -⟩, hbusy⟩ := announcementsHold_iff.1 h
  have hseat : (fun b => (t.mixOf b).floor) = fun b => (s.mixOf b).floor := by
    unfold State.mixOf
    rw [hmix]
  have hpresence : t.presence = s.presence := by
    unfold State.presence State.live
    rw [hberths]
  refine announcementsHold_iff.2 ⟨⟨?_, ?_, ?_, ?_⟩, ?_⟩
  · rwa [hdevice, hann]
  · rwa [hann, hseat, hpresence]
  · rwa [hann, hmedia]
  · rwa [hann]
  · rwa [hann]

/-- Where a voice goes on in its pattern. -/
theorem movedVoice_of_move {notes : List Note} {p : Playing} {m : VoiceMove} (h : voiceMove notes p = m) (hend : m ≠ .chimeEnd) :
    ∃ q, (movedVoice m).playing = some q ∧ q.entry = p.entry ∧ q.pattern = p.pattern ∧ q.noteIndex < notes.length := by
  unfold voiceMove at h
  split at h
  · exact absurd h.symm hend
  next n hn =>
    have hin : p.noteIndex < notes.length := (List.getElem?_eq_some_iff.1 hn).1
    split at h
    · split at h
      · exact absurd h.symm hend
      next m' hm' =>
        subst h
        exact ⟨_, rfl, rfl, rfl, (List.getElem?_eq_some_iff.1 hm').1⟩
    · subst h
      refine ⟨_, rfl, ?_⟩
      show (decayMove n _).entry = _ ∧ (decayMove n _).pattern = _ ∧ (decayMove n _).noteIndex < _
      unfold decayMove
      split
      · exact ⟨rfl, rfl, hin⟩
      · split
        · exact ⟨rfl, rfl, hin⟩
        · split <;> exact ⟨rfl, rfl, hin⟩

theorem announcementsHold_modVoice_on {s : State} (h : AnnouncementsHold s) {v : Source} {p : Playing}
    (hp : (s.voice v).playing = some p) {m : VoiceMove} (hmove : voiceMove (notesOf s p.pattern) p = m) (hend : m ≠ .chimeEnd) :
    AnnouncementsHold (s.modVoice v fun _ => movedVoice m) := by
  obtain ⟨q, hq, hentry, hpattern, hnote⟩ := movedVoice_of_move hmove hend
  obtain ⟨⟨-, -, -, hvoices⟩, -⟩ := announcementsHold_iff.1 h
  refine announcementsHold_chimes h rfl rfl rfl rfl rfl ?_
  refine hvoices.playOn (patterns_modVoice s v _) ((playing_voice s v).symm.trans hp)
    ((playing_modVoice s v v _).trans ((if_pos rfl).trans hq)) hentry ?_ fun w hw =>
    (playing_modVoice s v w _).trans (if_neg (Ne.symm hw))
  rw [hpattern]
  exact hnote

/-- A voice's note of what it has played changes nothing that it plays. -/
theorem announcementsHold_modVoice_due {s : State} (h : AnnouncementsHold s) (v : Source) {f : Voice → Voice}
    (hf : ∀ x, (f x).playing = x.playing) : AnnouncementsHold (s.modVoice v f) := by
  have hsame : ∀ w, playing (s.modVoice v f).chimes w = playing s.chimes w := fun w => by
    rw [playing_modVoice, hf, playing_voice]
    split <;> rfl
  obtain ⟨⟨-, -, -, hvoices⟩, -⟩ := announcementsHold_iff.1 h
  refine announcementsHold_chimes h rfl rfl rfl rfl rfl ⟨fun p => ?_, fun w p hp => hvoices.voices w p ((hsame w).symm.trans hp),
    fun w p hp => ?_, fun e he hchime hloud => ?_⟩
  · rw [patterns_modVoice]
    exact hvoices.patterns p
  · rw [patterns_modVoice]
    exact hvoices.notes w p ((hsame w).symm.trans hp)
  · obtain ⟨p, hp, hentry⟩ := hvoices.chimes e he hchime hloud
    exact ⟨p, (hsame _).trans hp, hentry⟩

/-! ### The chime end (R107) -/

section
variable {s : State} (h : AnnouncementsHold s) {v : Source} {p : Playing} (hp : (s.voice v).playing = some p)
include h hp

/-- A voice idle again leaves only its entry without a voice. -/
theorem tableHolds_idle : TableHolds [p.entry] (s.modVoice v fun _ => idleVoice) ∧
    ∀ w q, playing (s.modVoice v fun _ => idleVoice).chimes w = some q → q.entry ≠ p.entry := by
  obtain ⟨⟨hentries, hfloors, hbuffer, hvoices⟩, -⟩ := announcementsHold_iff.1 h
  have hother : ∀ w q, playing (s.modVoice v fun _ => idleVoice).chimes w = some q → w ≠ v ∧ playing s.chimes w = some q :=
    fun w q hq => by
      rw [playing_modVoice] at hq
      split at hq
      · cases hq
      next hne => exact ⟨Ne.symm hne, hq⟩
  obtain ⟨e, he, hentry, hv, -⟩ := h.voices v p hp
  refine ⟨⟨hentries, hfloors, hbuffer, ⟨fun i => ?_, fun w q hq => hvoices.voices w q (hother w q hq).2, fun w q hq => ?_,
    fun x hx hchime hloud => ?_⟩⟩, fun w q hq heq => ?_⟩
  · rw [patterns_modVoice]
    exact hvoices.patterns i
  · rw [patterns_modVoice]
    exact hvoices.notes w q (hother w q hq).2
  · obtain ⟨q, hq, hqx⟩ := hvoices.chimes x hx hchime List.not_mem_nil
    refine ⟨q, ?_, hqx⟩
    rw [playing_modVoice, if_neg, hq]
    intro hvx
    rw [← hvx, ← playing_voice, hp] at hq
    cases hq
    exact hloud (by rw [← hqx]; exact List.mem_singleton_self _)
  · obtain ⟨hne, hq⟩ := hother w q hq
    obtain ⟨x, hx, hxq, hxw, -⟩ := hvoices.voices w q hq
    rw [hentries.eq_of_handle he hx (hxq.trans (heq.trans hentry.symm)), hv] at hxw
    exact hne hxw.symm

/-- An entry whose voice has come to its end, in TAIL or in LIVE, agrees again. -/
theorem announcementsHold_afterChime {e : Entry} (he : e ∈ s.ann.entries) (hentry : e.handle = p.entry) (hphase : e.phase = .chime) :
    AnnouncementsHold (enterTail e.handle .short (s.modVoice v fun _ => idleVoice)) ∧
    AnnouncementsHold ((s.modVoice v fun _ => idleVoice).modEntry e.handle fun x => { x with phase := .live }) := by
  obtain ⟨hidle, hsilent⟩ := tableHolds_idle h hp
  have hbusy : QueueBusy (s.modVoice v fun _ => idleVoice).ann := h.queueBusy
  have he : e ∈ (s.modVoice v fun _ => idleVoice).ann.entries := he
  generalize (s.modVoice v fun _ => idleVoice) = t at *
  rw [← hentry] at hidle hsilent
  have hqueued : e.phase ≠ .queued := by rw [hphase]; exact nofun
  have hsilence : ∀ g ∈ [e.handle], g = e.handle := fun g hg => List.mem_singleton.1 hg
  have hrank : KeepsRank e { e with phase := .live } := keepsRank_of_phase ⟨rfl, rfl, rfl, rfl⟩ hqueued nofun
  refine ⟨announcementsHold_iff.2 ⟨tableHolds_enterTail hidle he hqueued hsilence .short,
      queueBusy_enterTail hidle hbusy he hqueued .short⟩, announcementsHold_iff.2 ⟨⟨hidle.entries.map
      (hidle.entries.keepsRank_at he (f := fun x => { x with phase := .live }) hrank),
      floors_modEntry hidle he (f := fun x => { x with phase := .live }) hrank ⟨rfl, rfl⟩, ?_, ?_⟩,
      queueBusy_modEntry hidle he (f := fun x => { x with phase := .live }) hrank hbusy⟩⟩
  · exact hidle.buffer.map (fun y _ => by split <;> rfl) (hidle.entries.forall_at (Q := fun y z => holdsBuffer z = holdsBuffer y)
      (f := fun x => { x with phase := .live }) (fun _ _ => rfl) he
      (holdsBuffer_of_candidates (e := e) (f := { e with phase := .live }) rfl (by rw [hphase]; rfl) rfl))
  · refine hidle.voices.without hsilence rfl (fun w q => ⟨fun hq => ⟨hq, hsilent w q hq⟩, fun hq => hq.1⟩)
      (fun x hx hne => List.mem_map.2 ⟨x, hx, if_neg hne⟩) fun y hy hchime => ?_
    obtain ⟨x, hx, rfl⟩ := List.mem_map.1 hy
    split at hchime
    · cases hchime
    next hne => rw [if_neg hne]; exact ⟨hx, hne⟩

theorem announcementsHold_chimeEnd :
    AnnouncementsHold (chimeEndReaches p.entry (s.modVoice v fun _ => idleVoice)) := by
  obtain ⟨hidle, -⟩ := tableHolds_idle h hp
  obtain ⟨e, he, hentry, -, hphase⟩ := h.voices v p hp
  obtain ⟨htail, hlive⟩ := announcementsHold_afterChime h hp he hentry hphase
  have he : e ∈ (s.modVoice v fun _ => idleVoice).ann.entries := he
  generalize (s.modVoice v fun _ => idleVoice) = t at *
  unfold chimeEndReaches
  rw [← hentry, entry?_of_table hidle he]
  dsimp only
  rw [if_neg (not_not.2 hphase)]
  split
  · exact announcementsHold_takeAdvance _ htail _
  · exact announcementsHold_takeAdvance _ hlive _

end

theorem announcementsHold_takeVoice {s : State} (h : AnnouncementsHold s) (v : Source) : AnnouncementsHold (takeVoice s v) := by
  unfold takeVoice
  split
  · split
    next p hp _ => exact announcementsHold_chimeEnd h hp
    next p m hend hp hpending =>
      refine announcementsHold_modVoice_on h (p := p) (m := m) hp ?_ fun heq => hend heq
      rw [pendingMove, hp, Option.map_some] at hpending
      exact Option.some.inj hpending
    · exact announcementsHold_modVoice_due h v fun _ => rfl
  · exact h

end Sys2Proof.Machine
end

section
/-! PROOFS. Floors and presence keep the agreement of announcements, so every command does (O7). -/

namespace Sys2Proof.Machine

/-! ## What the agreement does not look at -/

theorem announcementsHold_of_same {s t : State} (h : AnnouncementsHold s) (hdevice : t.device = .config → s.device = .config)
    (hann : t.ann = s.ann) (hchimes : t.chimes = s.chimes) (hfloor : ∀ b, (t.mixOf b).floor = (s.mixOf b).floor)
    (hrecorded : t.media.recorded = s.media.recorded) (hpresence : ∀ b, t.presence b = s.presence b) : AnnouncementsHold t := by
  obtain ⟨⟨hentries, hfloors, hbuffer, hvoices⟩, hbusy⟩ := announcementsHold_iff.1 h
  have hseat : (fun b => (t.mixOf b).floor) = fun b => (s.mixOf b).floor := funext hfloor
  have hpresence : t.presence = s.presence := funext hpresence
  refine announcementsHold_iff.2 ⟨⟨?_, ?_, ?_, ?_⟩, ?_⟩
  · rw [hann]
    exact { hentries with configEmpty := fun hd => hentries.configEmpty (hdevice hd) }
  · rwa [hann, hseat, hpresence]
  · rwa [hann, hrecorded]
  · rwa [hann, hchimes]
  · rwa [hann]

theorem floor_of_mix {s t : State} (h : t.mix = s.mix) (b : BerthNo) : (t.mixOf b).floor = (s.mixOf b).floor := by
  rw [State.mixOf, h]
  rfl

theorem presence_of_berths {s t : State} (h : t.berths = s.berths) (b : BerthNo) : t.presence b = s.presence b := by
  rw [State.presence, State.live, h]
  rfl

theorem announcementsHold_modMix {s : State} (h : AnnouncementsHold s) (b : BerthNo) {f : MixState → MixState}
    (hf : ∀ m, (f m).floor = m.floor) : AnnouncementsHold (s.modMix b f) :=
  announcementsHold_of_same h id rfl rfl (fun c => by rw [State.mixOf_modMix]; split <;> simp [hf]) rfl fun _ => rfl

/-! ## Floors (R121, R124 to R131) -/

theorem announcementsHold_of_floors {s t : State} (h : AnnouncementsHold s) {g : Entry → Entry} (hdevice : t.device = s.device)
    (hann : t.ann = { s.ann with entries := s.ann.entries.map g }) (hchimes : t.chimes = s.chimes)
    (hrecorded : t.media.recorded = s.media.recorded) (hrank : ∀ e ∈ s.ann.entries, KeepsRank e (g e))
    (hphase : ∀ e, (g e).phase = e.phase)
    (hfloors : FloorsHold (s.ann.entries.map g) (fun b => (t.mixOf b).floor) t.presence) : AnnouncementsHold t := by
  obtain ⟨⟨hentries, -, hbuffer, hvoices⟩, hbusy⟩ := announcementsHold_iff.1 h
  refine announcementsHold_iff.2 ⟨⟨?_, ?_, ?_, ?_⟩, ?_⟩
  · rw [hdevice, hann]
    exact hentries.map hrank
  · rwa [hann]
  · rw [hann, hrecorded]
    exact hbuffer.map (fun e he => (hrank e he).handle) fun e he => by rw [holdsBuffer, holdsBuffer, (hrank e he).source, hphase]
  · rw [hann, hchimes]
    exact hvoices.map (fun e he => (hrank e he).handle) (fun e he => (hrank e he).source) fun e _ => by rw [hphase]
  · rw [hann]
    exact hbusy.map hrank

/-- The seats after one berth's floor has been written. -/
theorem seats_modMix (s : State) (b : BerthNo) (f : MixState → MixState) :
    (fun c => ((s.modMix b f).mixOf c).floor) = Function.update (fun c => (s.mixOf c).floor) b (f (s.mixOf b)).floor := by
  funext c
  rw [State.mixOf_modMix]
  by_cases hcb : b = c
  · subst hcb
    rw [if_pos rfl, Function.update_self]
  · rw [if_neg hcb, Function.update_of_ne (Ne.symm hcb)]

theorem update_seat_same {seat : BerthNo → Option Byte} {b : BerthNo} {v : Option Byte} (h : seat b = v) :
    Function.update seat b v = seat := by
  rw [← h]
  exact Function.update_eq_self b seat

/-- The entries without a berth among the audience of its floor. -/
def unheard (o : Option Byte) (e : Entry) : Entry :=
  match o with
  | none => e
  | some k => heardLess k e

theorem unheardAnn_eq (b : BerthNo) (s : State) :
    unheardAnn b s = { s.ann with entries := s.ann.entries.map (unheard (s.mixOf b).floor) } := by
  unfold unheardAnn unheard
  cases (s.mixOf b).floor with
  | none => rw [List.map_id']
  | some k => rfl

theorem keepsRank_unheard {es : List Entry} (hread : ∀ e ∈ es, e.phase = .queued → phaseRead e = .queued) (o : Option Byte) :
    ∀ e ∈ es, KeepsRank e (unheard o e) := fun e he => by
  cases o with
  | none => exact ⟨rfl, rfl, rfl, rfl, Iff.rfl, hread e he⟩
  | some k => exact keepsRank_heardLess hread k e he

theorem phase_unheard (o : Option Byte) (e : Entry) : (unheard o e).phase = e.phase := by
  cases o with
  | none => rfl
  | some k => exact phase_heardLess k e

theorem handle_unheard (o : Option Byte) (e : Entry) : (unheard o e).handle = e.handle := by
  cases o with
  | none => rfl
  | some k => exact handle_heardLess k e

/-- A berth's floor left, if it had one. -/
theorem FloorsHold.vacate {es : List Entry} {seat : BerthNo → Option Byte} {presence : BerthNo → Presence}
    (h : FloorsHold es seat presence) (b : BerthNo) :
    FloorsHold (es.map (unheard (seat b))) (Function.update seat b none) presence := by
  cases hseat : seat b with
  | none =>
    rw [update_seat_same hseat]
    show FloorsHold (es.map fun e => e) seat presence
    rwa [List.map_id']
  | some k => exact h.leave hseat

/-- A berth that changes its floor is heard by one entry no more and by another besides. -/
theorem ann_changeFloor (b : BerthNo) (e : Entry) (s : State) : (changeFloor b e s).ann = { s.ann with
    entries := s.ann.entries.map fun x => heardMore e.handle (unheard (s.mixOf b).floor x) } := by
  have hdropped : (dropFloorAudience b s).ann = unheardAnn b s := by rw [dropFloorAudience_eq]
  have hgained : (changeFloor b e s).ann = { unheardAnn b s with
      entries := (unheardAnn b s).entries.map (heardMore e.handle) } := by
    rw [← hdropped]
    rfl
  rw [hgained, unheardAnn_eq]
  exact congrArg (fun es => { s.ann with entries := es }) List.map_map

section
variable {s : State} (h : AnnouncementsHold s)
include h

theorem announcementsHold_loseFloor {b : BerthNo} {e : Entry} (hfloor : (s.mixOf b).floor = some e.handle) :
    AnnouncementsHold (loseFloor b e s) := by
  obtain ⟨⟨hentries, hfloors, -, -⟩, -⟩ := announcementsHold_iff.1 h
  refine announcementsHold_of_floors h (g := heardLess e.handle) rfl rfl rfl rfl (keepsRank_heardLess hentries.readQueued _)
    (phase_heardLess _) ?_
  have hleft := hfloors.leave hfloor
  have hseats := seats_modMix (loseAudience e.handle s) b fun m => { m with
    floor := none, gate := mute, gateTarget := mute, duckTarget := 0, duckStep := e.params.release, gateStep := e.params.release }
  unfold loseFloor
  rw [hseats]
  exact hleft

theorem announcementsHold_changeFloor {b : BerthNo} (hpresent : s.presence b = .present) {e : Entry} (he : e ∈ s.ann.entries)
    (hqueued : e.phase ≠ .queued) : AnnouncementsHold (changeFloor b e s) := by
  obtain ⟨⟨hentries, hfloors, -, -⟩, -⟩ := announcementsHold_iff.1 h
  have hread := hentries.readQueued
  have hunheard := keepsRank_unheard hread (s.mixOf b).floor
  have hrank : ∀ x ∈ s.ann.entries, KeepsRank x (heardMore e.handle (unheard (s.mixOf b).floor x)) := fun x hx => by
    have hfirst := hunheard x hx
    have hsecond := keepsRank_heardMore (es := [unheard (s.mixOf b).floor x])
      (fun y hy hq => by rw [List.mem_singleton.1 hy] at hq ⊢; exact hfirst.read hq) e.handle _ (List.mem_singleton_self _)
    exact ⟨hsecond.handle.trans hfirst.handle, hsecond.source.trans hfirst.source, hsecond.params.trans hfirst.params,
      hsecond.admission.trans hfirst.admission, hsecond.queued.trans hfirst.queued, hsecond.read⟩
  have hann := ann_changeFloor b e s
  have hseats : (fun c => ((changeFloor b e s).mixOf c).floor) =
      Function.update (Function.update (fun c => (s.mixOf c).floor) b none) b (some e.handle) := by
    rw [Function.update_idem]
    unfold changeFloor
    rw [seats_modMix]
    have hsame : ∀ c, ((gainAudience e.handle (dropFloorAudience b s)).mixOf c).floor = (s.mixOf c).floor := fun c => by
      rw [dropFloorAudience_eq]
      rfl
    simp only [hsame]
  have hpresence : (changeFloor b e s).presence = s.presence := funext (presence_of_berths (by simp))
  refine announcementsHold_of_floors h (by simp) hann (by simp) (by simp) hrank
    (fun x => (phase_heardMore _ _).trans (phase_unheard _ _)) ?_
  have hmaps : s.ann.entries.map (fun x => heardMore e.handle (unheard (s.mixOf b).floor x)) =
      (s.ann.entries.map (unheard (s.mixOf b).floor)).map (heardMore e.handle) := by
    rw [List.map_map]
    rfl
  rw [hseats, hpresence, hmaps]
  refine (hfloors.vacate b).take (Function.update_self ..) hpresent ⟨unheard (s.mixOf b).floor e, List.mem_map_of_mem he,
    handle_unheard _ _, ?_⟩
  rwa [phase_unheard]

theorem announcementsHold_evaluateFloor (b : BerthNo) : AnnouncementsHold (evaluateFloor b s) := by
  unfold evaluateFloor
  split
  next e he =>
    obtain ⟨hmem, hcandidate⟩ := List.mem_filter.1 (mem_of_bestOf he)
    simp only [Bool.and_eq_true, eligible, beq_iff_eq] at hcandidate
    obtain ⟨hphase, ⟨⟨hpresent, -⟩, -⟩, -⟩ := hcandidate
    have hqueued : e.phase ≠ .queued := fun hq => by
      rw [h.readQueued e hmem hq] at hphase
      cases hphase
    split
    · exact announcementsHold_modMix h b fun _ => rfl
    · exact announcementsHold_changeFloor h hpresent hmem hqueued
  · split
    · exact h
    next e he =>
      split
      · exact announcementsHold_modMix h b fun _ => rfl
      · obtain ⟨k, hk, hfound⟩ := Option.bind_eq_some_iff.1 he
        exact announcementsHold_loseFloor h (by rw [hk, State.entry?_handle _ hfound])

theorem announcementsHold_raise (e : Event) : AnnouncementsHold (raise e s) :=
  announcementsHold_of_same h id rfl rfl (fun _ => rfl) rfl fun _ => rfl

theorem announcementsHold_mixBerth (micD micC : Block) (b : BerthNo) : AnnouncementsHold (mixBerth micD micC s b) := by
  unfold mixBerth
  split
  · have hramped : AnnouncementsHold ((evaluateFloor b s).modMix b rampMix) :=
      announcementsHold_modMix (announcementsHold_evaluateFloor h b) b fun _ => rfl
    dsimp only
    generalize (evaluateFloor b s).modMix b rampMix = t at hramped ⊢
    have hwritten : AnnouncementsHold (t.modMix b (writeMix (mixInputs micD micC t b))) :=
      announcementsHold_modMix hramped b fun _ => rfl
    split
    · exact announcementsHold_raise hwritten .clip
    · exact hwritten
  · exact h

end

/-! ## Presence (R4, R5, R121) -/

theorem ann_notify {s : State} {b : BerthNo} {v : Presence} (hchanged : s.presence b ≠ v) :
    (notify v b s).ann = if s.presence b = .present then unheardAnn b s else s.ann := by
  have hraised : ∀ e (t : State), (raise e t).ann = t.ann := fun _ _ => rfl
  have hentered : ∀ t : State, (entersPresent b t).ann = t.ann := fun t => by simp
  have hleft : ∀ t : State, (leavesPresent b t).ann = unheardAnn b t := fun t => by
    have hmix : (releaseRoute b (t.modLive b fun r =>
      { r with attrs := putAttr (putAttr r.attrs attrOccupied false) attrHeadphone false })).mixOf b = t.mixOf b :=
      congrArg (fun m : Table MixState berthCount => m.get b)
        (releaseRoute_frame b _).2.2.2.2.2.2.2.2.1
    have hann : (releaseRoute b (t.modLive b fun r =>
      { r with attrs := putAttr (putAttr r.attrs attrOccupied false) attrHeadphone false })).ann = t.ann := by simp
    rw [← unheardAnn_congr hmix hann]
    unfold leavesPresent mixLeavesPresent
    rw [dropFloorAudience_eq]
    rfl
  have hstored : unheardAnn b (s.modLive b fun r => { r with presence := v }) = unheardAnn b s := rfl
  have hkept : (s.modLive b fun r => { r with presence := v }).ann = s.ann := rfl
  unfold notify
  dsimp only
  rw [if_neg hchanged]
  by_cases hp : s.presence b = .present
  · simp only [if_pos hp]
    split <;> split <;> simp only [hraised, hentered, hleft, hstored]
  · simp only [if_neg hp]
    split <;> split <;> simp only [hraised, hentered, hkept]

/-- The floor of a berth that leaves or enters PRESENT is gone; every other stays. -/
theorem floor_notify {s : State} {b : BerthNo} {v : Presence} (hchanged : s.presence b ≠ v) (c : BerthNo) :
    ((notify v b s).mixOf c).floor =
      if b = c ∧ (s.presence b = .present ∨ v = .present) then none else (s.mixOf c).floor := by
  have hraised : ∀ e (t : State), ((raise e t).mixOf c).floor = (t.mixOf c).floor := fun _ _ => rfl
  have hentered : ∀ t : State, ((entersPresent b t).mixOf c).floor = if b = c then none else (t.mixOf c).floor := fun t => by
    have henter : ((mixEntersPresent b t).mixOf c).floor = if b = c then none else (t.mixOf c).floor := by
      unfold mixEntersPresent
      rw [State.mixOf_modMix]
      split <;> rfl
    have hacquired : ((acquire b (mixEntersPresent b t)).mixOf c).floor = ((mixEntersPresent b t).mixOf c).floor :=
      floor_of_mix (by simp) c
    unfold entersPresent
    dsimp only
    split
    · rw [hacquired, henter]
    · exact henter
  have hleft : ∀ t : State, ((leavesPresent b t).mixOf c).floor = if b = c then none else (t.mixOf c).floor := fun t => by
    have hreleased : ∀ u : State, ((dropFloorAudience b (releaseRoute b u)).mixOf c).floor = (u.mixOf c).floor := fun u =>
      floor_of_mix (by simp) c
    unfold leavesPresent mixLeavesPresent
    rw [State.mixOf_modMix]
    split
    · rfl
    · rw [hreleased]
      rfl
  have hstored : ((s.modLive b fun r => { r with presence := v }).mixOf c).floor = (s.mixOf c).floor := rfl
  unfold notify
  dsimp only
  rw [if_neg hchanged]
  by_cases hp : s.presence b = .present <;> by_cases hv : v = .present
  · exact absurd (hp.trans hv.symm) hchanged
  · have hside : (b = c ∧ (s.presence b = .present ∨ v = .present)) = (b = c) := by simp only [hp, true_or, and_true]
    simp only [if_pos hp, if_neg hv, hside]
    split <;> simp only [hraised, hleft, hstored]
  · have hside : (b = c ∧ (s.presence b = .present ∨ v = .present)) = (b = c) := by simp only [hv, or_true, and_true]
    simp only [if_neg hp, if_pos hv, hside]
    split <;> simp only [hraised, hentered, hstored]
  · have hside : ¬ (b = c ∧ (s.presence b = .present ∨ v = .present)) := fun hb => hb.2.elim hp hv
    simp only [if_neg hp, if_neg hv, if_neg hside]
    split <;> simp only [hraised, hstored]

section
variable {s : State} (h : AnnouncementsHold s)
include h

theorem announcementsHold_notify (v : Presence) (b : BerthNo) : AnnouncementsHold (notify v b s) := by
  by_cases hchanged : s.presence b = v
  · have hsame : notify v b s = s := if_pos hchanged
    rwa [hsame]
  obtain ⟨⟨hentries, hfloors, -, -⟩, -⟩ := announcementsHold_iff.1 h
  have hfree : s.presence b ≠ .present → (s.mixOf b).floor = none := fun hp => by
    cases hfloor : (s.mixOf b).floor with
    | none => rfl
    | some k => exact absurd (h.floors b k hfloor).1 hp
  have hseats : (fun c => ((notify v b s).mixOf c).floor) = Function.update (fun c => (s.mixOf c).floor) b none := by
    funext c
    rw [floor_notify hchanged]
    by_cases hbc : b = c
    · subst hbc
      rw [Function.update_self]
      split
      · rfl
      next hno => exact hfree fun hp => hno ⟨rfl, .inl hp⟩
    · rw [if_neg fun hboth => hbc hboth.1, Function.update_of_ne (Ne.symm hbc)]
  have hann : (notify v b s).ann = { s.ann with entries := s.ann.entries.map (unheard (s.mixOf b).floor) } := by
    rw [ann_notify hchanged, ← unheardAnn_eq]
    split
    · rfl
    next hp =>
      unfold unheardAnn
      rw [hfree hp]
  refine announcementsHold_of_floors h (by simp) hann (by simp) (by simp) (keepsRank_unheard hentries.readQueued _)
    (phase_unheard _) ?_
  rw [hseats]
  have hvacated := hfloors.vacate b
  refine ⟨fun c k hk => ?_, hvacated.audience⟩
  obtain ⟨hpresent, hheld⟩ := hvacated.floors c k hk
  refine ⟨?_, hheld⟩
  rw [presence_notify, if_neg, hpresent]
  rintro rfl
  rw [Function.update_self] at hk
  cases hk

theorem announcementsHold_dropLine (l : LineNo) : AnnouncementsHold (dropLine l s) := by
  unfold dropLine
  refine forEach_invariant AnnouncementsHold _ (fun t b _ ht => ?_) h
  split
  · exact announcementsHold_notify ht .absent b
  · exact ht

theorem announcementsHold_modLine (l : LineNo) (f : Line → Line) : AnnouncementsHold (s.modLine l f) :=
  announcementsHold_of_same h id rfl rfl (fun _ => rfl) rfl fun _ => rfl

theorem announcementsHold_modLinkOf (b : BerthNo) (f : LinkRecord → LinkRecord) : AnnouncementsHold (s.modLinkOf b f) :=
  announcementsHold_modLine h _ _

theorem announcementsHold_writeSensed (b : BerthNo) (o k : Bool) : AnnouncementsHold (writeSensed b o k s) := by
  refine announcementsHold_of_same h id rfl rfl (fun _ => rfl) rfl fun c => ?_
  rw [writeSensed, State.presence, State.live_modLive]
  split <;> rfl

omit h in
theorem presence_takeBerthRequest (b : BerthNo) (q : BerthRequest) (c : BerthNo) :
    (takeBerthRequest b q s).presence c = s.presence c := by
  have hraised : ∀ e (t : State), (raise e t).presence c = t.presence c := fun _ _ => rfl
  have hrouted : ∀ t : State, (routeChange b t).presence c = t.presence c := fun t =>
    presence_of_rest (rest_live_routeChange b t c)
  have hstored : (s.modLive b fun _ => applyRequest s q (s.live b)).presence c = s.presence c := by
    rw [State.presence, State.live_modLive]
    split
    next hbc =>
      rw [presence_applyRequest, hbc]
      rfl
    · rfl
  unfold takeBerthRequest
  dsimp only
  split
  · rfl
  · split <;> split <;> simp only [hraised, hrouted, hstored]

theorem announcementsHold_handOnRequest (b : BerthNo) (q : BerthRequest) : AnnouncementsHold (handOnRequest b q s) := by
  unfold handOnRequest
  split
  · unfold takeCall
    split
    · exact h
    · exact announcementsHold_of_same h id rfl rfl (fun _ => rfl) rfl fun _ => rfl
  · exact announcementsHold_of_same h id rfl rfl (fun _ => rfl) rfl fun _ => rfl
  · exact announcementsHold_of_same h (by simp) (by simp) (by simp) (floor_of_mix (by simp)) (by simp)
      (presence_takeBerthRequest b _)

theorem announcementsHold_applyOutcome (b : BerthNo) (o : Outcome) : AnnouncementsHold (applyOutcome b o s) := by
  have hlost : ∀ o, AnnouncementsHold (applyLost o b s) := fun o => by
    unfold applyLost
    dsimp only
    split
    · exact announcementsHold_notify (announcementsHold_modLinkOf h b _) .absent b
    · exact announcementsHold_modLinkOf h b _
  unfold applyOutcome
  split
  · unfold applyCollision
    dsimp only
    split
    · exact announcementsHold_notify (announcementsHold_modLinkOf h b _) .conflict b
    · exact announcementsHold_modLinkOf h b _
  next q toggle occupied headphone =>
    have hgood := announcementsHold_modLinkOf h b goodLink
    split
    · unfold goodFromPresent
      have hsensed := announcementsHold_writeSensed hgood b occupied headphone
      dsimp only
      refine announcementsHold_modLinkOf ?_ b _
      split
      · exact hsensed
      · split
        · exact hsensed
        · exact announcementsHold_handOnRequest hsensed b _
    · exact announcementsHold_writeSensed (announcementsHold_notify (announcementsHold_modLinkOf hgood b _) .present b) b _ _
  · exact hlost .silent
  · exact hlost .framing
  · exact hlost .check

theorem announcementsHold_completeSlot (l : LineNo) (signal : SlotSignal) : AnnouncementsHold (completeSlot l signal s) := by
  unfold completeSlot
  dsimp only
  split
  · split
    · exact announcementsHold_applyOutcome (announcementsHold_modLine h l _) _ _
    · exact announcementsHold_modLine h l _
  · exact h

theorem announcementsHold_driveConflict (l : LineNo) : AnnouncementsHold (driveConflict l s) := by
  unfold driveConflict
  split
  · exact announcementsHold_raise (announcementsHold_dropLine (announcementsHold_modLine h l _) l) .lineFault
  · exact h

/-! ## Media frames -/

theorem announcementsHold_recordedArrival (k : Byte) (x : RecordedBlock) : AnnouncementsHold (recordedArrival k x s) := by
  unfold recordedArrival
  split
  next htarget =>
    have hopen : s.media.recorded.target ≠ none := by rw [htarget]; exact nofun
    split
    · exact { h with noTarget := fun hnone => absurd hnone hopen }
    · exact { h with }
  · exact { h with }

theorem announcementsHold_modProgramme (p : ProgrammeNo) (f : Programme → Programme) : AnnouncementsHold (s.modProgramme p f) :=
  announcementsHold_of_same h id rfl rfl (fun _ => rfl) rfl fun _ => rfl

theorem announcementsHold_forwardPicture (p : ProgrammeNo) (pk : Packet) : AnnouncementsHold (forwardPicture p pk s) := by
  obtain ⟨ls, lanes, hforwarded⟩ := forwardPicture_eq p pk s
  rw [hforwarded]
  exact announcementsHold_of_same h id rfl rfl (fun _ => rfl) rfl fun _ => rfl

theorem announcementsHold_arriveFrame (f : EthernetFrame) : AnnouncementsHold (arriveFrame f s) := by
  unfold arriveFrame
  split
  · exact announcementsHold_of_same h id rfl rfl (fun _ => rfl) rfl fun _ => rfl
  · split
    · exact announcementsHold_of_same h id rfl rfl (fun _ => rfl) rfl fun _ => rfl
    · unfold takeMediaFrame
      dsimp only
      split
      · exact announcementsHold_of_same h id rfl rfl (fun _ => rfl) rfl fun _ => rfl
      · exact announcementsHold_of_same h id rfl rfl (fun _ => rfl) rfl fun _ => rfl
      · exact announcementsHold_forwardPicture h _ _
      · exact announcementsHold_recordedArrival h _ _

end

end Sys2Proof.Machine
end

section
/-! PROOFS. Host requests and the work of a block start keep the agreement of announcements, so every step does (O7). -/

namespace Sys2Proof.Machine

section
variable {s : State} (h : AnnouncementsHold s)
include h

/-! ## What requests change -/

theorem announcementsHold_mapBerths {f : Berth → Berth} (hf : ∀ x, (f x).live.presence = x.live.presence) :
    AnnouncementsHold (s.setBerths (s.berths.map f)) :=
  announcementsHold_of_same h id rfl rfl (fun _ => rfl) rfl fun b =>
    (congrArg LiveRecord.presence (live_mapBerths s f b)).trans (hf _)

theorem announcementsHold_clearLinks (l : LineNo) : AnnouncementsHold (clearLinks l s) := announcementsHold_modLine h l _

theorem announcementsHold_modCoach (f : Coach → Coach) : AnnouncementsHold (s.modCoach f) :=
  announcementsHold_of_same h id rfl rfl (fun _ => rfl) rfl fun _ => rfl

theorem announcementsHold_setLatch : AnnouncementsHold (setLatch s) := by
  unfold setLatch
  split
  · exact h
  · exact announcementsHold_raise (announcementsHold_modCoach h _) .alarm

theorem announcementsHold_alarmReleaseAt (b : BerthNo) : AnnouncementsHold (alarmReleaseAt s b) := by
  unfold alarmReleaseAt
  split
  · split
    · exact announcementsHold_modMix h b fun _ => rfl
    · exact announcementsHold_modMix h b fun _ => rfl
  · exact h

theorem announcementsHold_dropTrackOne (p : ProgrammeNo) : AnnouncementsHold (dropTrackOne p s) :=
  announcementsHold_mapBerths h fun x => by split <;> rfl

theorem announcementsHold_setProfile (m : Mic) (p : Params) : AnnouncementsHold (setProfile m p s) := by
  cases m <;> exact { h with }

/-- No voice plays a pattern that is loaded (R140). -/
theorem announcementsHold_loadPattern {p : PatternNo} {stored : List Note} (hidle : patternBusy s p = false) (hsome : stored ≠ []) :
    AnnouncementsHold (s.modChimes fun c => { c with patterns := c.patterns.set p stored }) := by
  obtain ⟨⟨-, -, -, hvoices⟩, -⟩ := announcementsHold_iff.1 h
  refine announcementsHold_chimes h rfl rfl rfl rfl rfl ⟨fun q => ?_, hvoices.voices, fun v q hq => ?_, hvoices.chimes⟩
  · by_cases hpq : p = q
    · subst hpq
      show (s.chimes.patterns.set p stored).get p ≠ []
      rwa [Table.get_set_same]
    · show (s.chimes.patterns.set p stored).get q ≠ []
      rw [Table.get_set_ne _ hpq]
      exact hvoices.patterns q
  · have hpattern : p ≠ q.pattern := fun heq => by
      have hbusy := patternBusy_iff.2 ⟨v, q, (playing_voice s v).trans hq, heq.symm⟩
      rw [hidle] at hbusy
      cases hbusy
    show q.noteIndex < ((s.chimes.patterns.set p stored).get q.pattern).length
    rw [Table.get_set_ne _ hpattern]
    exact hvoices.notes v q hq

theorem announcementsHold_started : AnnouncementsHold ((s.setDevice .run).setLines (s.lines.map startLine)) :=
  announcementsHold_of_same h (by simp) rfl rfl (fun _ => rfl) rfl fun _ => rfl

end

theorem announcementsHold_request {work : State → Answer} (hw : HostWork work) {s : State} (h : AnnouncementsHold s) :
    AnnouncementsHold (work s).state := by
  cases hw
  case berthStage n x =>
    rcases berthStage_state n x s with heq | ⟨b, heq⟩ <;> rw [heq]
    · exact h
    · exact announcementsHold_of_same h id rfl rfl (fun _ => rfl) rfl fun c => by simp [State.presence]
  case stageDiscard =>
    rcases stageDiscard_state s with heq | heq <;> rw [heq]
    · exact h
    · exact announcementsHold_mapBerths h fun _ => rfl
  case commitRequest =>
    rcases commitRequest_state s with heq | heq <;> rw [heq]
    · exact h
    · exact announcementsHold_of_same h id rfl rfl (fun _ => rfl) rfl fun _ => rfl
  case berthEdit z am md op d x =>
    rcases berthEdit_state z am md op d x s with heq | ⟨m, o, heq⟩ <;> rw [heq]
    · exact h
    · exact announcementsHold_mapBerths h fun y => (editBerth_keeps z am m o _ _ y).1
  case lineSetup n count =>
    rcases lineSetup_state n count s with heq | ⟨l, -, -, heq⟩ <;> rw [heq]
    · exact h
    · refine announcementsHold_clearLinks ?_ l
      exact forEach_invariant AnnouncementsHold _ (fun t b _ ht => announcementsHold_notify ht _ b) (announcementsHold_modLine h l _)
  case lineRestart n =>
    rcases lineRestart_state n s with heq | ⟨l, -, heq⟩ <;> rw [heq]
    · exact h
    · exact announcementsHold_modLine (announcementsHold_clearLinks h l) l _
  case lineStop n =>
    rcases lineStop_state n s with heq | ⟨l, heq⟩ <;> rw [heq]
    · exact h
    · exact announcementsHold_dropLine (announcementsHold_modLine h l _) l
  case berthLinkClear n =>
    rcases berthLinkClear_state n s with heq | ⟨b, heq | ⟨-, heq⟩⟩ <;> rw [heq]
    · exact h
    · exact announcementsHold_modLinkOf h b _
    · exact announcementsHold_notify (announcementsHold_modLinkOf (announcementsHold_modLinkOf h b _) b _) .absent b
  case programmeSetup p pic n t0 t1 c =>
    rcases programmeSetup_state p pic n t0 t1 c s with heq | ⟨q, -, -, -, heq⟩ <;> rw [heq]
    · exact h
    · split
      · exact announcementsHold_dropTrackOne (announcementsHold_modProgramme h q _) q
      · exact announcementsHold_modProgramme h q _
  case programmeTrim n x =>
    rcases programmeTrim_state n x s with heq | ⟨p, heq⟩ <;> rw [heq]
    · exact h
    · exact announcementsHold_modProgramme h p _
  case announce x deadline => exact announcementsHold_announce h x deadline
  case pttProfileSet n x =>
    rcases pttProfileSet_state n x s with heq | ⟨m, p, -, heq⟩ <;> rw [heq]
    · exact h
    · exact announcementsHold_setProfile h m p
  case cut k mode => exact announcementsHold_cut h k mode
  case chimeLoad n notes =>
    rcases chimeLoad_state n notes s with heq | ⟨p, stored, hstored, hnotes, -, hidle, heq⟩ <;> rw [heq]
    · exact h
    · refine announcementsHold_loadPattern h hidle fun hnil => hnotes ?_
      have hlength := (loadNotes_eq_some.1 hstored).length_eq
      rw [hnil] at hlength
      exact List.length_eq_zero_iff.1 hlength
  case mixRead n clear =>
    rcases mixRead_state n clear s with heq | ⟨b, heq⟩ <;> rw [heq]
    · exact h
    · exact announcementsHold_modMix h b fun _ => rfl
  case coachSet x =>
    rcases coachSet_state x s with heq | heq <;> rw [heq]
    · exact h
    · exact announcementsHold_modCoach h _
  case alarmRelease =>
    rcases alarmRelease_state s with heq | heq <;> rw [heq]
    · exact h
    · exact forEach_invariant AnnouncementsHold _ (fun t b _ ht => announcementsHold_alarmReleaseAt ht b) (announcementsHold_modCoach h _)
  case callTake =>
    rcases callTake_state s with heq | heq <;> rw [heq]
    · exact h
    · exact announcementsHold_modCoach h _
  case callClear n =>
    rcases callClear_state n s with heq | ⟨b, heq⟩ <;> rw [heq]
    · exact h
    · exact announcementsHold_modCoach h _
  case startRequest =>
    rcases startRequest_state s with heq | ⟨-, heq | heq⟩ <;> rw [heq]
    · exact h
    · exact announcementsHold_started h
    · exact announcementsHold_setLatch (announcementsHold_started h)
  case eventsClear v =>
    obtain ⟨f, heq⟩ := eventsClear_state v s
    rw [heq]
    exact announcementsHold_of_same h id rfl rfl (fun _ => rfl) rfl fun _ => rfl
  case eventsEnable v =>
    obtain ⟨f, heq⟩ := eventsEnable_state v s
    rw [heq]
    exact announcementsHold_of_same h id rfl rfl (fun _ => rfl) rfl fun _ => rfl
  all_goals simpa using h

/-! ## Contacts and block starts -/

section
variable {s : State} (h : AnnouncementsHold s)
include h

theorem announcementsHold_setFilter (c : Contact) (x : Filter) : AnnouncementsHold (s.setFilter c x) := by
  cases c <;> exact announcementsHold_modCoach h _

theorem announcementsHold_takeEdge (c : Contact) (active : Bool) : AnnouncementsHold (takeEdge c active s) := by
  have hstored := announcementsHold_setFilter h c ⟨active, 0⟩
  unfold takeEdge
  generalize s.setFilter c ⟨active, 0⟩ = t at hstored
  unfold handOnEdge
  split
  · exact announcementsHold_pressMic hstored .d
  · exact announcementsHold_pressMic hstored .c
  · unfold alarmPress
    split
    · exact announcementsHold_setLatch hstored
    · exact hstored
  · exact announcementsHold_releaseMic hstored .d
  · exact announcementsHold_releaseMic hstored .c
  · exact hstored

theorem announcementsHold_beginBlock : AnnouncementsHold (beginBlock s) := by
  have hdue := announcementsHold_map h (g := dueEntry) fun _ _ => ⟨rfl, rfl, rfl, rfl, rfl, rfl, rfl, fun _ hr => hr⟩
  have hd := announcementsHold_modVoice_due hdue .d (f := dueVoice) fun _ => rfl
  have hc := announcementsHold_modVoice_due hd .c (f := dueVoice) fun _ => rfl
  have hr := announcementsHold_modVoice_due hc .r (f := dueVoice) fun _ => rfl
  refine announcementsHold_of_same hr id rfl rfl (fun b => ?_) rfl fun _ => rfl
  show ((s.mix.map fun m => { m with delivered := none }).get b).floor = (s.mix.get b).floor
  rw [Table.get_map]

theorem announcementsHold_carryOutCommit : AnnouncementsHold (carryOutCommit s) := by
  have hcarried := announcementsHold_mapBerths h (presence_commitBerth s)
  unfold carryOutCommit
  generalize s.setBerths (s.berths.map (commitBerth s)) = t at hcarried
  refine announcementsHold_of_same hcarried (by simp) (by simp) (by simp) (floor_of_mix (by simp)) (by simp) fun b => ?_
  exact presence_of_rest (rest_live_applyBatch (commitBatch s) t b)

theorem announcementsHold_takeTrack (p : ProgrammeNo) (k : TrackNo) : AnnouncementsHold (takeTrack p k s) := by
  unfold takeTrack
  dsimp only
  split
  · exact announcementsHold_raise (announcementsHold_modProgramme h _ _) .starved
  · exact announcementsHold_modProgramme h _ _

theorem announcementsHold_sendFrame (l : LineNo) : AnnouncementsHold (sendFrame s l) := by
  unfold sendFrame
  dsimp only
  split
  · exact announcementsHold_modLine h l _
  · exact announcementsHold_modLine h l _

end

/-- The agreement is kept by every operation, so by every command. -/
theorem commandsKeep_announcementsHold : CommandsKeep AnnouncementsHold where
  flags _ _ hs := announcementsHold_of_same hs id rfl rfl (fun _ => rfl) rfl fun _ => rfl
  link _ _ _ hs := announcementsHold_of_same hs id rfl rfl (fun _ => rfl) rfl fun _ => rfl
  boundary _ _ hs := announcementsHold_of_same hs id rfl rfl (fun _ => rfl) rfl fun _ => rfl
  reset _ _ := announcementsHold_of_same announcementsHold_reset (fun _ => rfl) rfl rfl (fun _ => rfl) rfl fun _ => rfl
  low _ hs := announcementsHold_of_same hs id rfl rfl (fun _ => rfl) rfl fun _ => rfl
  request _ hw _ hs := announcementsHold_request hw hs
  slot l signal _ hs := announcementsHold_completeSlot hs l signal
  conflict l _ hs := announcementsHold_driveConflict hs l
  media f _ hs := announcementsHold_arriveFrame hs f
  edge c v _ hs := announcementsHold_takeEdge hs c v
  sampled c _ _ _ hs := announcementsHold_setFilter hs c _
  begun _ hs := announcementsHold_beginBlock hs
  commit _ hs := announcementsHold_carryOutCommit hs
  track p k _ hs := announcementsHold_takeTrack hs p k
  voice v _ hs := announcementsHold_takeVoice hs v
  advance k _ hs := announcementsHold_advanceIfDue hs k
  mixed micD micC b _ hs := announcementsHold_mixBerth hs micD micC b
  sent l _ hs := announcementsHold_sendFrame hs l

/-- Settles O7: every operation keeps the agreement of the table with its queue, floors, buffer and voices. -/
theorem everyStepKeepsAnnouncements : Obligations.EveryStepKeepsAnnouncements :=
  fun _ _ hs hstep => commandsKeep_announcementsHold.step_keeps
    (fun _ _ h => announcementsHold_of_same h id rfl rfl (fun _ => rfl) rfl fun _ => rfl) hs hstep

end Sys2Proof.Machine
end

section
/-! PROOFS. The advance of an entry, phase by phase (R103 to R111), with the entry written as it then stands. -/

namespace Sys2Proof.Machine

/-! ## The table with another entry in one's place -/

/-- The state with `x` in the place of the entry `e`. -/
def replaced (s : State) (e x : Entry) : State := { s with ann := withEntry s.ann e.handle x }

section
variable {s : State} {e x : Entry}

theorem modEntry_replaced (hx : x.handle = e.handle) (f : Entry → Entry) :
    (replaced s e x).modEntry e.handle f = replaced s e (f x) := by
  have hentries : ((s.ann.entries.map fun y => if y.handle = e.handle then x else y).map fun y =>
      if y.handle = e.handle then f y else y) = s.ann.entries.map fun y => if y.handle = e.handle then f x else y := by
    rw [List.map_map]
    refine List.map_congr_left fun y _ => ?_
    rw [Function.comp_apply]
    by_cases hy : y.handle = e.handle
    · rw [if_pos hy, if_pos hx, if_pos hy]
    · rw [if_neg hy, if_neg hy, if_neg hy]
  exact congrArg (fun es => { s with ann := { s.ann with entries := es } }) hentries

theorem entry?_replaced (he : e ∈ s.ann.entries) (hx : x.handle = e.handle) : (replaced s e x).entry? e.handle = some x := by
  show (s.ann.entries.map fun y => if y.handle = e.handle then x else y).find? (fun y => y.handle = e.handle) = some x
  generalize s.ann.entries = es at he
  induction es with
  | nil => cases he
  | cons y ys ih =>
    rw [List.map_cons]
    by_cases hy : y.handle = e.handle
    · rw [if_pos hy]
      exact List.find?_cons_of_pos (decide_eq_true hx)
    · have hye : e ∈ ys := (List.mem_cons.1 he).resolve_left fun heq => hy (by rw [heq])
      rw [if_neg hy, List.find?_cons_of_neg (by simp [hy])]
      exact ih hye

theorem filter_replaced (hx : x.handle = e.handle) :
    ((replaced s e x).ann.entries.filter fun y => y.handle ≠ e.handle) = s.ann.entries.filter fun y => y.handle ≠ e.handle := by
  show (s.ann.entries.map fun y => if y.handle = e.handle then x else y).filter _ = _
  generalize s.ann.entries = es
  induction es with
  | nil => rfl
  | cons y ys ih =>
    rw [List.map_cons, List.filter_cons, List.filter_cons, ih]
    by_cases hy : y.handle = e.handle
    · rw [if_pos hy, if_neg (by simp [hx]), if_neg (by simp [hy])]
    · rw [if_neg hy]

theorem replaced_self {silent : List Byte} (h : TableHolds silent s) (he : e ∈ s.ann.entries) : replaced s e e = s := by
  have hentries : (s.ann.entries.map fun y => if y.handle = e.handle then e else y) = s.ann.entries := by
    refine (List.map_congr_left fun y hy => ?_).trans (List.map_id _)
    split
    next heq => rw [h.entries.eq_of_handle he hy heq, id]
    · rfl
  exact congrArg (fun es => { s with ann := { s.ann with entries := es } }) hentries

theorem modEntry_eq_replaced {silent : List Byte} (h : TableHolds silent s) (he : e ∈ s.ann.entries) (f : Entry → Entry) :
    s.modEntry e.handle f = replaced s e (f e) := by
  have hmod := modEntry_replaced (s := s) (e := e) (x := e) rfl f
  rwa [replaced_self h he] at hmod

end

/-! ## What a turn does first, and the clocks -/

/-- The entry whose advance at this block start has come, in this phase. -/
def begun (p : Phase) (x : Entry) : Entry := { x with due := false, blockPhase := some p }

/-- The entry with a block less to go. -/
def ticked (x : Entry) : Entry := { x with timer := x.timer - 1 }

section
variable {s : State} {e x : Entry} (he : e ∈ s.ann.entries) (hx : x.handle = e.handle) (n : Nat)
include he hx

theorem takeAdvance_queued_unlimited (hphase : x.phase = .queued) (hdeadline : x.deadline = 0) :
    takeAdvance (n + 1) e.handle (replaced s e x) = replaced s e (begun .queued x) := by
  rw [← modEntry_replaced hx]
  unfold takeAdvance
  simp only [entry?_replaced he hx, hphase, if_pos hdeadline]
  rfl

theorem takeAdvance_queued_ticks (hphase : x.phase = .queued) (hdeadline : x.deadline ≠ 0) (htimer : 2 ≤ x.timer) :
    takeAdvance (n + 1) e.handle (replaced s e x) = replaced s e (ticked (begun .queued x)) := by
  rw [← modEntry_replaced (x := begun .queued x) hx, ← modEntry_replaced hx]
  unfold takeAdvance
  simp only [entry?_replaced he hx, hphase, if_neg hdeadline, if_neg (Nat.not_le.2 htimer)]
  rfl

theorem takeAdvance_queued_expires (hphase : x.phase = .queued) (hdeadline : x.deadline ≠ 0) (htimer : x.timer ≤ 1) :
    takeAdvance (n + 1) e.handle (replaced s e x) = removeEntry e.handle .stale (replaced s e (begun .queued x)) := by
  rw [← modEntry_replaced hx]
  unfold takeAdvance
  simp only [entry?_replaced he hx, hphase, if_neg hdeadline, if_pos htimer]
  rfl

theorem takeAdvance_lead_ticks (hphase : x.phase = .lead) (htimer : x.timer ≠ 0) :
    takeAdvance (n + 1) e.handle (replaced s e x) = replaced s e (ticked (begun .lead x)) := by
  rw [← modEntry_replaced (x := begun .lead x) hx, ← modEntry_replaced hx]
  unfold takeAdvance
  simp only [entry?_replaced he hx, hphase, if_neg htimer]
  rfl

theorem takeAdvance_lead_chimes (hphase : x.phase = .lead) (htimer : x.timer = 0) {p : PatternNo} (hchime : x.params.chime = some p) :
    takeAdvance (n + 1) e.handle (replaced s e x) = startVoice x.source e.handle p (replaced s e (chiming (begun .lead x))) := by
  rw [← modEntry_replaced (x := begun .lead x) hx, ← modEntry_replaced hx]
  unfold takeAdvance
  simp only [entry?_replaced he hx, hphase, if_pos htimer, hchime, endLead_of_chime hchime, hx, Option.isSome_some, if_true]
  rfl

theorem takeAdvance_lead_silent (hphase : x.phase = .lead) (htimer : x.timer = 0) (hchime : x.params.chime = none) :
    takeAdvance (n + 1) e.handle (replaced s e x) =
      takeAdvance n e.handle (replaced s e { begun .lead x with phase := .live }) := by
  have hlive := modEntry_replaced (s := s) (e := e) (x := begun .lead x) hx fun y => { y with phase := .live }
  rw [← hlive, ← modEntry_replaced hx]
  unfold takeAdvance
  simp only [entry?_replaced he hx, hphase, if_pos htimer, hchime, endLead_of_silent hchime, hx, Option.isSome_none,
    Bool.false_eq_true, if_false]
  cases n <;> rfl

theorem takeAdvance_chime (hphase : x.phase = .chime) :
    takeAdvance (n + 1) e.handle (replaced s e x) = replaced s e (begun .chime x) := by
  rw [← modEntry_replaced hx]
  unfold takeAdvance
  simp only [entry?_replaced he hx, hphase]
  rfl

theorem takeAdvance_tail_ticks (hphase : x.phase = .tail) (htimer : x.timer ≠ 0) :
    takeAdvance (n + 1) e.handle (replaced s e x) = replaced s e (ticked (begun .tail x)) := by
  rw [← modEntry_replaced (x := begun .tail x) hx, ← modEntry_replaced hx]
  unfold takeAdvance
  simp only [entry?_replaced he hx, hphase, if_neg htimer]
  rfl

theorem takeAdvance_tail_leaves (hphase : x.phase = .tail) (htimer : x.timer = 0) (halone : x.source ≠ .r ∨ s.ann.queue = []) :
    takeAdvance (n + 1) e.handle (replaced s e x) =
      removeAndHandOn e.handle .completed (replaced s e (begun .tail x)) := by
  rw [← modEntry_replaced hx]
  unfold takeAdvance
  simp only [entry?_replaced he hx, hphase, if_pos htimer]
  split
  next hactive =>
    have hempty : s.ann.queue = [] := halone.resolve_left (not_not.2 (activeRecorded_iff.1 hactive).1)
    have hqueue : ((replaced s e x).modEntry e.handle fun y => { y with due := false, blockPhase := some .tail }).ann.queue.head? =
        none := congrArg List.head? hempty
    simp only [hqueue]
    rfl
  · rfl

/-- A recorded tail's end hands the source to the head of the queue, whose first advance follows at once. -/
theorem takeAdvance_tail_hands (hphase : x.phase = .tail) (htimer : x.timer = 0) (hsource : x.source = .r) {g : Byte}
    {rest : List Byte} (hqueue : s.ann.queue = g :: rest) :
    takeAdvance (n + 1) e.handle (replaced s e x) =
      takeAdvance n g (removeAndHandOn e.handle .completed (replaced s e (begun .tail x))) := by
  rw [← modEntry_replaced hx]
  unfold takeAdvance
  have hactive : activeRecorded x = true := activeRecorded_iff.2 ⟨hsource, by rw [hphase]; exact nofun⟩
  have hhead : ((replaced s e x).modEntry e.handle fun y => { y with due := false, blockPhase := some .tail }).ann.queue.head? =
      some g := congrArg List.head? hqueue
  simp only [entry?_replaced he hx, hphase, if_pos htimer, if_pos hactive, hhead]
  cases n <;> rfl

theorem takeAdvance_live (hphase : x.phase = .live) {t : State} {y : Entry} (ht : liveAdvance x (replaced s e (begun .live x)) = t)
    (hy : t.entry? e.handle = some y) :
    takeAdvance (n + 1) e.handle (replaced s e x) = if y.phase = .tail then takeAdvance n e.handle t else t := by
  have hadvanced : liveAdvance x ((replaced s e x).modEntry e.handle fun y => { y with due := false, blockPhase := some .live }) = t := by
    rw [← ht, modEntry_replaced hx]
    rfl
  rw [takeAdvance]
  simp only [entry?_replaced he hx, hphase, hadvanced, hy]

end

end Sys2Proof.Machine
end

section
/-! PROOFS. A LIVE advance and its ends, and the first advance of a tail at once (R105, R108, R110, R111). -/

namespace Sys2Proof.Machine

/-! ## A voice stopped once is stopped -/

theorem stoppedFor_again {s u : State} {e : Entry} (h : u.chimes = stoppedFor s e) : stoppedFor u e = stoppedFor s e := by
  have hvoice : ∀ v, u.voice v = (s.modChimes fun _ => stoppedFor s e).voice v := fun v => by
    cases v <;> simp only [State.voice, h] <;> rfl
  have hplays : playsFor u e.source e.handle = playsFor (s.modChimes fun _ => stoppedFor s e) e.source e.handle := by
    simp only [playsFor, hvoice]
  have hsilent : playsFor u e.source e.handle = false := by
    rw [hplays, Bool.eq_false_iff]
    intro hplaying
    obtain ⟨p, hp, hentry⟩ := playsFor_iff.1 hplaying
    have hstopped := voiceStopped_of_chimes (s := s) (t := s.modChimes fun _ => stoppedFor s e) rfl
    by_cases hown : playsFor s e.source e.handle = true
    · obtain ⟨q, hq, hqe⟩ := playsFor_iff.1 hown
      rw [hstopped.playing q hq hqe] at hp
      cases hp
    · rw [hstopped.idle fun q hq hqe => hown (playsFor_iff.2 ⟨q, hq, hqe⟩)] at hp
      exact hown (playsFor_iff.2 ⟨p, hp, hentry⟩)
  rw [stoppedFor, if_neg (by simp [hsilent]), h]

theorem stoppedFor_congr {s t : State} (h : t.chimes = s.chimes) (e : Entry) : stoppedFor t e = stoppedFor s e := by
  have hplays : ∀ v k, playsFor t v k = playsFor s v k := fun v k => by
    cases v <;> simp only [playsFor, State.voice, h]
  unfold stoppedFor
  rw [hplays, h]
  split
  · cases e.source <;> simp only [stopVoice, State.modVoice, State.modChimes, h]
  · rfl

/-- The voices after a removal: the entry's own is stopped. -/
theorem chimes_removeAndHandOn {s : State} {e : Entry} (he : s.entry? e.handle = some e) (cause : EndReason) :
    (removeAndHandOn e.handle cause s).chimes = stoppedFor s e := by
  have hremoved : (removeEntry e.handle cause s).chimes = stoppedFor s e := by
    rw [removeEntry_eq he]
    rfl
  rw [removeAndHandOn_eq he]
  split
  · rw [← hremoved]
    simp
  · exact hremoved

/-! ## Removal at a turn -/

section
variable {s : State} {e x : Entry} (he : e ∈ s.ann.entries) (hx : x.handle = e.handle)
include he hx

theorem chimes_replaced (cause : EndReason) :
    (removeAndHandOn e.handle cause (replaced s e x)).chimes = stoppedFor s x := by
  have hfound := entry?_replaced he hx
  rw [← hx] at hfound
  have hchimes := chimes_removeAndHandOn hfound cause
  rw [stoppedFor_congr (s := s) (t := replaced s e x) rfl, hx] at hchimes
  exact hchimes

theorem removedEntry_replaced (cause : EndReason) :
    RemovedEntry s (removeAndHandOn e.handle cause (replaced s e x)) x cause := by
  have hfound := entry?_replaced he hx
  rw [← hx] at hfound
  have hremoved := removedEntry_removeAndHandOn hfound cause
  rw [hx] at hremoved
  exact ⟨hremoved.frame, hremoved.finished, hremoved.event, hremoved.floors, voiceStopped_of_chimes (chimes_replaced he hx cause)⟩

theorem leftTable_replaced (cause : EndReason) (halone : x.source ≠ .r ∨ s.ann.queue = []) :
    LeftTable s (removeAndHandOn e.handle cause (replaced s e x)) x (bufferWithout x s.media.recorded) := by
  have hfound := entry?_replaced he hx
  rw [← hx] at hfound
  have hleft := leftTable_removeAndHandOn hfound cause halone
  rw [hx] at hleft
  refine ⟨hleft.entries.trans ?_, hleft.queue, hleft.recorded, hleft.flags⟩
  rw [hx]
  exact filter_replaced hx

/-! ## TAIL entered and its first advance at once (R103, R111) -/

/-- The state with the entry's voice stopped and its buffer closed. -/
def quieted (s : State) (x : Entry) : State := (s.modChimes fun _ => stoppedFor s x).modRecorded (closedFor x.source)

theorem enterTail_replaced (why : EndReason) :
    enterTail e.handle why (replaced s e x) = replaced (quieted s x) e (tailed why x) := by
  have hfound := entry?_replaced he hx
  rw [← hx] at hfound
  have htail := enterTail_eq_tailed hfound why
  rw [hx, modEntry_replaced hx, stoppedFor_congr (s := s) (t := replaced s e x) rfl] at htail
  exact htail

theorem takeAdvance_of_tail_ticks (n : Nat) {why : EndReason} (htail : 1 ≤ x.params.tail) :
    takeAdvance (n + 1) e.handle (enterTail e.handle why (replaced s e x)) =
      replaced (quieted s x) e (ticked (begun .tail (tailed why x))) := by
  rw [enterTail_replaced he hx]
  exact takeAdvance_tail_ticks (s := quieted s x) (x := tailed why x) he hx n rfl (Nat.ne_of_gt htail)

theorem takeAdvance_of_tail_leaves (n : Nat) {why : EndReason} (htail : x.params.tail = 0)
    (halone : x.source ≠ .r ∨ s.ann.queue = []) :
    takeAdvance (n + 1) e.handle (enterTail e.handle why (replaced s e x)) =
      removeAndHandOn e.handle .completed (replaced (quieted s x) e (begun .tail (tailed why x))) := by
  rw [enterTail_replaced he hx]
  exact takeAdvance_tail_leaves (s := quieted s x) (x := tailed why x) he hx n rfl htail halone

end

/-- The entry as its last block of LIVE leaves it, before its end. -/
def lastLive (e : Entry) (p : Phase) (live starved : Nat) (passed : Option Block) (q : Option Phase) (due : Bool) : Entry :=
  { e with phase := p, liveCount := live, starvation := starved, recorded := passed, blockPhase := q, due := due }

/-- An end at a block start: TAIL and its first advance, or with no tail the entry gone. -/
theorem endedAtBlockStart_takeAdvance {s : State} {e : Entry} (he : e ∈ s.ann.entries) (n : Nat) (why : EndReason) (p : Phase)
    (live starved : Nat) (passed : Option Block) (q : Option Phase) (due : Bool) :
    EndedAtBlockStart s (takeAdvance (n + 1) e.handle (enterTail e.handle why
      (replaced s e (lastLive e p live starved passed q due)))) e why live starved passed := by
  refine ⟨fun htail => ?_, fun htail halone => ?_⟩
  · rw [takeAdvance_of_tail_ticks (x := lastLive e p live starved passed q due) he rfl n htail]
    exact ⟨voiceStopped_of_chimes (s := s) (e := e) rfl, rfl⟩
  · rw [takeAdvance_of_tail_leaves (x := lastLive e p live starved passed q due) he rfl n htail halone]
    have bufferWithout_tailed : ∀ r, bufferWithout (begun .tail (tailed why (lastLive e p live starved passed q due))) r = r :=
      fun r => if_neg (by simp [holdsBuffer, begun, tailed, candidatePhase])
    have hstopped := stoppedFor_again (s := s) (u := quieted s (lastLive e p live starved passed q due)) (e := e) rfl
    have hchimes := chimes_replaced (s := quieted s (lastLive e p live starved passed q due))
      (x := begun .tail (tailed why (lastLive e p live starved passed q due))) he rfl .completed
    have hremoved := removedEntry_replaced (s := quieted s (lastLive e p live starved passed q due))
      (x := begun .tail (tailed why (lastLive e p live starved passed q due))) he rfl .completed
    have hleft := leftTable_replaced (s := quieted s (lastLive e p live starved passed q due))
      (x := begun .tail (tailed why (lastLive e p live starved passed q due))) he rfl .completed halone
    generalize removeAndHandOn e.handle .completed (replaced (quieted s (lastLive e p live starved passed q due)) e
      (begun .tail (tailed why (lastLive e p live starved passed q due)))) = t at hchimes hremoved hleft ⊢
    exact ⟨⟨hremoved.frame, hremoved.finished, hremoved.event, hremoved.floors, voiceStopped_of_chimes (hchimes.trans hstopped)⟩,
      ⟨hleft.entries, hleft.queue, hleft.recorded.trans (bufferWithout_tailed _), hleft.flags⟩⟩

/-! ## The LIVE advance (R108, R110) -/

theorem atMaximumLive_iff {x : Entry} : atMaximumLive x = true ↔ x.params.maxLive ≠ 0 ∧ x.liveCount = x.params.maxLive := by
  simp [atMaximumLive]

/-- The entry with a block more of LIVE, before its recorded block is taken. -/
def counted (x : Entry) : Entry := { x with recorded := none, liveCount := countHalf x.liveCount }

/-- The entry with a block more of LIVE that starved. -/
def starving (x : Entry) : Entry := { counted x with starvation := countTo liveStarveLimit x.starvation }

/-- The entry with a block more of LIVE that passed these samples. -/
def passing (b : RecordedBlock) (x : Entry) : Entry := { counted x with starvation := 0, recorded := some b.samples }

section
variable {s : State} {e x y : Entry} (hx : x.handle = e.handle) (hy : y.handle = e.handle)
include hx hy

theorem liveAdvance_of_full (hfull : atMaximumLive x = true) :
    liveAdvance x (replaced s e y) = enterTail e.handle .timedOut (replaced s e { y with recorded := none }) := by
  unfold liveAdvance
  simp only [hx, modEntry_replaced hy, if_pos hfull]

variable (hlasts : atMaximumLive x = false)
include hlasts

theorem liveAdvance_of_mic (hsource : x.source ≠ .r) : liveAdvance x (replaced s e y) = replaced s e (counted y) := by
  unfold liveAdvance
  simp only [hx, modEntry_replaced hy, hlasts, Bool.false_eq_true, if_false, if_pos hsource]
  exact modEntry_replaced (x := { y with recorded := none }) hy _

theorem liveAdvance_of_empty (hsource : x.source = .r) (hblocks : s.media.recorded.blocks = []) :
    liveAdvance x (replaced s e y) =
      let t := replaced s e (starving y)
      if liveStarveLimit ≤ x.starvation + 1 then enterTail e.handle .starved t else t := by
  have hempty : ∀ z, (replaced s e z).media.recorded.blocks = [] := fun _ => hblocks
  unfold liveAdvance
  simp only [hx, modEntry_replaced, hy, hlasts, Bool.false_eq_true, if_false, hsource, ne_eq, not_true, hempty, starving, counted]

theorem liveAdvance_of_block (hsource : x.source = .r) {b : RecordedBlock} {rest : List RecordedBlock}
    (hblocks : s.media.recorded.blocks = b :: rest) :
    liveAdvance x (replaced s e y) =
      let t := replaced (takeRecorded s) e (passing b y)
      if b.endMarker then enterTail e.handle .completed t else t := by
  have hblock : ∀ z, (replaced s e z).media.recorded.blocks = b :: rest := fun _ => hblocks
  have htaken : ∀ z, takeRecorded (replaced s e z) = replaced (takeRecorded s) e z := fun _ => rfl
  unfold liveAdvance
  simp only [hx, modEntry_replaced, hy, hlasts, Bool.false_eq_true, if_false, hsource, ne_eq, not_true, hblock, htaken, passing, counted]

end

/-! ## LIVE for a block more, or its end (R108, R110) -/

section
variable {s : State} {e x : Entry} (he : e ∈ s.ann.entries) (hx : x.handle = e.handle) (n : Nat) (hphase : x.phase = .live)
include he hx hphase

omit he hx in
theorem afterLiveAdvance_of_mic (hsource : x.source ≠ .r) (blocks : List RecordedBlock) :
    afterLiveAdvance blocks x = counted (begun .live x) := by
  unfold afterLiveAdvance
  cases hsrc : x.source with
  | r => exact absurd hsrc hsource
  | d => simp only [counted, begun, hphase, hsrc, countHalf, countTo, halfMax]
  | c => simp only [counted, begun, hphase, hsrc, countHalf, countTo, halfMax]

omit he hx in
theorem afterLiveAdvance_of_empty (hsource : x.source = .r) (hrun : x.starvation < 499) :
    afterLiveAdvance [] x = starving (begun .live x) := by
  have hcount : min 500 (x.starvation + 1) = x.starvation + 1 := Nat.min_eq_right (by omega)
  unfold afterLiveAdvance
  simp only [starving, counted, begun, hphase, hsource, countHalf, countTo, halfMax, liveStarveLimit, hcount]

omit he hx in
theorem afterLiveAdvance_of_block (hsource : x.source = .r) (b : RecordedBlock) (rest : List RecordedBlock) :
    afterLiveAdvance (b :: rest) x = passing b (begun .live x) := by
  unfold afterLiveAdvance
  simp only [passing, counted, begun, hphase, hsource, countHalf, countTo, halfMax]

theorem takeAdvance_live_stays (hstays : StaysLive s x) : takeAdvance (n + 1) e.handle (replaced s e x) = { s with
    ann := withEntry s.ann e.handle (afterLiveAdvance s.media.recorded.blocks x)
    media := { s.media with recorded := bufferAfterLive x.source s.media.recorded } } := by
  obtain ⟨hmax, hblocks⟩ := hstays
  have hlasts : atMaximumLive x = false := Bool.eq_false_iff.2 fun hfull => by
    obtain ⟨hne, heq⟩ := atMaximumLive_iff.1 hfull
    exact hmax.elim hne fun h => h heq
  have hnot : ∀ y : Entry, y.phase = x.phase → ¬ y.phase = .tail := fun y hy => by rw [hy, hphase]; exact nofun
  by_cases hsource : x.source = .r
  · have hblocks := hblocks hsource
    cases hrec : s.media.recorded.blocks with
    | nil =>
      rw [hrec] at hblocks
      have hstarves : ¬ liveStarveLimit ≤ x.starvation + 1 := by unfold liveStarveLimit; omega
      have hlive := liveAdvance_of_empty (s := s) (e := e) (y := begun .live x) hx hx hlasts hsource hrec
      dsimp only at hlive
      rw [if_neg hstarves] at hlive
      rw [takeAdvance_live he hx n hphase hlive (entry?_replaced (x := starving (begun .live x)) he hx),
        if_neg (hnot (starving (begun .live x)) rfl), afterLiveAdvance_of_empty hphase hsource hblocks]
      have hbuffer : bufferAfterLive x.source s.media.recorded = s.media.recorded := by
        rw [hsource]
        unfold bufferAfterLive
        rw [hrec]
      rw [hbuffer]
      rfl
    | cons b rest =>
      rw [hrec] at hblocks
      have hlive := liveAdvance_of_block (s := s) (e := e) (y := begun .live x) hx hx hlasts hsource hrec
      dsimp only at hlive
      rw [hblocks, if_neg Bool.false_ne_true] at hlive
      rw [takeAdvance_live he hx n hphase hlive
          (entry?_replaced (s := takeRecorded s) (x := passing b (begun .live x)) he hx),
        if_neg (hnot (passing b (begun .live x)) rfl), afterLiveAdvance_of_block hphase hsource]
      have hbuffer : bufferAfterLive x.source s.media.recorded = (takeRecorded s).media.recorded := by
        have htaken : (takeRecorded s).media.recorded =
            { s.media.recorded with blocks := s.media.recorded.blocks.tail, taken := s.media.recorded.taken + 1 } := rfl
        rw [hsource, htaken, hrec]
        unfold bufferAfterLive
        simp only [hrec, List.tail_cons]
      rw [hbuffer]
      rfl
  · have hlive := liveAdvance_of_mic (s := s) (e := e) (y := begun .live x) hx hx hlasts hsource
    rw [takeAdvance_live he hx n hphase hlive (entry?_replaced (x := counted (begun .live x)) he hx),
      if_neg (hnot (counted (begun .live x)) rfl), afterLiveAdvance_of_mic hphase hsource]
    have hbuffer : bufferAfterLive x.source s.media.recorded = s.media.recorded := by
      cases hsrc : x.source with
      | r => exact absurd hsrc hsource
      | d => rfl
      | c => rfl
    rw [hbuffer]
    rfl

/-- A LIVE advance that ends LIVE is followed by the first TAIL advance at once. -/
theorem takeAdvance_live_ends {u : State} {y : Entry} {why : EndReason} (hu : e ∈ u.ann.entries) (hy : y.handle = e.handle)
    (hlive : liveAdvance x (replaced s e (begun .live x)) = enterTail e.handle why (replaced u e y)) :
    takeAdvance (n + 1) e.handle (replaced s e x) = takeAdvance n e.handle (enterTail e.handle why (replaced u e y)) := by
  have hfound : (enterTail e.handle why (replaced u e y)).entry? e.handle = some (tailed why y) := by
    rw [enterTail_replaced hu hy]
    exact entry?_replaced (s := quieted u y) hu hy
  exact (takeAdvance_live he hx n hphase hlive hfound).trans (if_pos rfl)

theorem takeAdvance_live_full (hfull : atMaximumLive x = true) : takeAdvance (n + 1) e.handle (replaced s e x) =
    takeAdvance n e.handle (enterTail e.handle .timedOut (replaced s e { begun .live x with recorded := none })) :=
  takeAdvance_live_ends he hx n hphase he hx (liveAdvance_of_full (y := begun .live x) hx hx hfull)

variable (hlasts : atMaximumLive x = false) (hsource : x.source = .r)
include hlasts hsource

theorem takeAdvance_live_starves (hblocks : s.media.recorded.blocks = []) (hlimit : 499 ≤ x.starvation) :
    takeAdvance (n + 1) e.handle (replaced s e x) =
      takeAdvance n e.handle (enterTail e.handle .starved (replaced s e (starving (begun .live x)))) := by
  refine takeAdvance_live_ends (y := starving (begun .live x)) he hx n hphase he hx ?_
  rw [liveAdvance_of_empty (y := begun .live x) hx hx hlasts hsource hblocks]
  exact if_pos (by unfold liveStarveLimit; omega)

theorem takeAdvance_live_marked {b : RecordedBlock} {rest : List RecordedBlock} (hblocks : s.media.recorded.blocks = b :: rest)
    (hmarker : b.endMarker = true) :
    takeAdvance (n + 1) e.handle (replaced s e x) =
      takeAdvance n e.handle (enterTail e.handle .completed (replaced (takeRecorded s) e (passing b (begun .live x)))) := by
  refine takeAdvance_live_ends (u := takeRecorded s) (y := passing b (begun .live x)) he hx n hphase he hx ?_
  rw [liveAdvance_of_block (y := begun .live x) hx hx hlasts hsource hblocks]
  exact if_pos hmarker

end

end Sys2Proof.Machine
end

section
/-! PROOFS. Voices: what a note sounds like, and the move of a voice at a block start (R136, R139). -/

namespace Sys2Proof.Machine

/-! ## A note's block (R135, R136) -/

theorem noteSounds_noteBlock (n : Note) (phase : Nat) : NoteSounds n phase (noteBlock n phase) (phaseAfter n phase) := by
  have hperiod : ∀ t : Fin 8, tonePeriod t = [40, 48, 64, 72, 80, 96, 120, 160].getD t.val 0 := by decide
  unfold NoteSounds noteBlock phaseAfter
  cases htone : n.tone with
  | none => exact ⟨rfl, rfl⟩
  | some t =>
    refine ⟨by rw [← hperiod], fun i => ?_⟩
    dsimp only
    rw [Table.get_ofFn, ← hperiod]
    rfl

theorem startsNote_playBlock (q : Playing) (i : Nat) (n : Note) : StartsNote (playBlock n (atNote q i n)) q.entry q.pattern i n := by
  refine ⟨noteBlock n 0, phaseAfter n 0, noteSounds_noteBlock n 0, ?_⟩
  have henv : firstEnv n = if n.tone.isSome then n.a0 else 127 := by
    unfold firstEnv
    cases n.tone <;> rfl
  dsimp only
  rw [← henv]
  rfl

/-! ## The move of a voice (R136, R139) -/

/-- The note goes on a block, its envelope as its decay has it. -/
def playedOn (q : Playing) (n : Note) : Playing := decayMove n { q with blocksInto := q.blocksInto + 1 }

section
variable {q : Playing} {n : Note}

theorem playedOn_steady (h : n.tone = none ∨ n.decay = 0) : playedOn q n = { q with blocksInto := q.blocksInto + 1 } := by
  unfold playedOn decayMove
  split
  · rfl
  next t htone => rw [if_pos (h.resolve_left fun hnone => by rw [htone] at hnone; cases hnone)]

theorem playedOn_rises (htone : n.tone ≠ none) (hdecay : n.decay ≠ 0) (hstep : n.decay ≤ q.decayCounter + 1) :
    playedOn q n = { q with blocksInto := q.blocksInto + 1, decayCounter := 0, env := min mute (q.env + 1) } := by
  unfold playedOn decayMove
  split
  next hnone => exact absurd hnone htone
  · rw [if_neg hdecay, if_pos hstep]

theorem playedOn_counts (htone : n.tone ≠ none) (hdecay : n.decay ≠ 0) (hstep : ¬ n.decay ≤ q.decayCounter + 1) :
    playedOn q n = { q with blocksInto := q.blocksInto + 1, decayCounter := q.decayCounter + 1 } := by
  unfold playedOn decayMove
  split
  next hnone => exact absurd hnone htone
  · rw [if_neg hdecay, if_neg hstep]

theorem staysInNote_playBlock (q : Playing) (n : Note) : StaysInNote (playBlock n (playedOn q n)) q n := by
  have hphase : (playedOn q n).samplePhase = q.samplePhase := by
    by_cases hsteady : n.tone = none ∨ n.decay = 0
    · rw [playedOn_steady hsteady]
    · obtain ⟨htone, hdecay⟩ := not_or.1 hsteady
      by_cases hstep : n.decay ≤ q.decayCounter + 1
      · rw [playedOn_rises htone hdecay hstep]
      · rw [playedOn_counts htone hdecay hstep]
  refine ⟨noteBlock n q.samplePhase, phaseAfter n q.samplePhase, noteSounds_noteBlock n _, ?_, ?_, ?_⟩
  · rintro ⟨⟨htone, hdecay⟩, hstep⟩
    rw [playBlock, hphase, playedOn_rises htone hdecay hstep]
    rfl
  · rintro ⟨htone, hdecay⟩ hnot
    rw [playBlock, hphase, playedOn_counts htone hdecay fun hstep => hnot ⟨⟨htone, hdecay⟩, hstep⟩]
  · intro hnot
    rw [playBlock, hphase, playedOn_steady (or_iff_not_imp_left.2 fun htone => not_not.1 fun hdecay => hnot ⟨htone, hdecay⟩)]

variable {notes : List Note} (hn : notes[q.noteIndex]? = some n)
include hn

theorem voiceMove_on (hmore : q.blocksInto + 1 < n.duration) : voiceMove notes q = .on n (playedOn q n) := by
  unfold voiceMove
  simp only [hn, if_neg (Nat.not_le.2 hmore)]
  rfl

variable (hdone : n.duration ≤ q.blocksInto + 1)
include hdone

theorem voiceMove_next {m : Note} (hm : notes[q.noteIndex + 1]? = some m) :
    voiceMove notes q = .nextNote m (atNote q (q.noteIndex + 1) m) := by
  unfold voiceMove
  simp only [hn, if_pos hdone, hm]

theorem voiceMove_end (hm : notes[q.noteIndex + 1]? = none) : voiceMove notes q = .chimeEnd := by
  unfold voiceMove
  simp only [hn, if_pos hdone, hm]

end

/-! ## A voice's turn -/

section
variable {s : State} {v : Source}

theorem pendingMove_of_playing {q : Playing} (hq : (s.voice v).playing = some q) :
    pendingMove s v = some (voiceMove (s.chimes.patterns.get q.pattern) q) := by
  rw [pendingMove, hq]
  rfl

theorem takeVoice_of_not_due (hdue : (s.voice v).due = false) : takeVoice s v = s := if_neg (by simp [hdue])

variable (hdue : (s.voice v).due = true)
include hdue

theorem takeVoice_of_idle (hidle : (s.voice v).playing = none) : takeVoice s v = s.modVoice v fun x => { x with due := false } := by
  unfold takeVoice
  rw [if_pos hdue, pendingMove, hidle]

variable {q : Playing} (hq : (s.voice v).playing = some q) {m : VoiceMove}
  (hmove : voiceMove (s.chimes.patterns.get q.pattern) q = m)
include hq hmove

theorem takeVoice_of_move (hend : m ≠ .chimeEnd) : takeVoice s v = s.modVoice v fun _ => movedVoice m := by
  unfold takeVoice
  rw [if_pos hdue, pendingMove_of_playing hq, hq, hmove]
  cases m with
  | chimeEnd => exact absurd rfl hend
  | on n p => rfl
  | nextNote n p => rfl

theorem takeVoice_of_end (hend : m = .chimeEnd) : takeVoice s v = chimeEndReaches q.entry (s.modVoice v fun _ => idleVoice) := by
  unfold takeVoice
  rw [if_pos hdue, pendingMove_of_playing hq, hq, hmove, hend]

end

/-! ## The chime end (R107) -/

section
variable {s : State} {e : Entry} (he : s.entry? e.handle = some e) (hphase : e.phase = .chime)
include he hphase

theorem chimeEndReaches_early (hearly : e.earlyRelease = true) :
    chimeEndReaches e.handle s = takeAdvance (advanceFuel s) e.handle (enterTail e.handle .short s) := by
  unfold chimeEndReaches
  simp only [he, hphase, ne_eq, not_true, if_false, hearly, if_true]

theorem chimeEndReaches_live (hearly : e.earlyRelease = false) :
    chimeEndReaches e.handle s = takeAdvance (advanceFuel s) e.handle (s.modEntry e.handle fun x => { x with phase := .live }) := by
  unfold chimeEndReaches
  simp only [he, hphase, ne_eq, not_true, if_false, hearly, Bool.false_eq_true]

end

/-! ## Events of a block start taken alone (log entry 3) -/

section
variable {s : State} (hup : Up s) {c : Instr}
include hup

theorem exec_atBoundary {cause : State → Bool} {work : State → State} (hexec : exec c s = .next (atBoundary cause work s)) :
    exec c s = .next (if cause (openBoundary s) then work (openBoundary s) else s) := by
  rw [hexec]
  exact congrArg Host.Outcome.next (whenUp_of_up hup _)

variable {h : Byte} {cause : State → Bool}
  (hexec : exec c s = .next (atBoundary cause (fun t => advanceIfDue t h) s))
include hexec

theorem exec_of_no_cause (hnot : cause (openBoundary s) = false) : exec c s = .next s := by
  rw [exec_atBoundary hup hexec, hnot]
  rfl

omit hup hexec in
theorem entryCause_eq_false {o : State} {f : Entry → Bool} (hnot : ∀ e ∈ o.ann.entries, e.handle = h → e.due = false ∨ f e = false) :
    entryCause h f o = false := by
  unfold entryCause
  split
  · rfl
  next e he => rw [Bool.and_eq_false_iff]; exact hnot e (State.entry?_mem _ he) (State.entry?_handle _ he)

omit hup hexec in
theorem entryCause_of_due {o : State} (hold : AnnouncementsHold o) {e : Entry} (he : e ∈ o.ann.entries) (hdue : e.due = true)
    {f : Entry → Bool} (hf : f e = true) : entryCause e.handle f o = true := by
  unfold entryCause
  rw [entry?_of_mem hold he]
  exact Bool.and_eq_true_iff.2 ⟨hdue, hf⟩

/-- The advances an entry's turn may still take, and three more. -/
def spareFuel (s : State) : Nat := 4 * s.ann.entries.length + 1

omit hup hexec in
theorem advanceIfDue_of_due {o : State} (hold : AnnouncementsHold o) {e : Entry} (he : e ∈ o.ann.entries) (hdue : e.due = true) :
    advanceIfDue o e.handle = takeAdvance (spareFuel o + 3) e.handle (replaced o e e) := by
  unfold advanceIfDue
  rw [entry?_of_mem hold he, replaced_self (announcementsHold_iff.1 hold).1 he]
  exact if_pos hdue

theorem exec_of_cause (hold : AnnouncementsHold (openBoundary s)) {e : Entry} (he : e ∈ (openBoundary s).ann.entries)
    (hh : e.handle = h) (hdue : e.due = true) (hcause : cause (openBoundary s) = true) :
    exec c s = .next (takeAdvance (spareFuel (openBoundary s) + 3) e.handle (replaced (openBoundary s) e e)) := by
  rw [exec_atBoundary hup hexec, hcause, if_pos rfl]
  subst hh
  exact congrArg Host.Outcome.next (advanceIfDue_of_due hold he hdue)

end

end Sys2Proof.Machine
end

section
/-! PROOFS. Events of a block start taken alone: what each does to its entry or voice (R103 to R111, R136, R139). -/

namespace Sys2Proof.Machine

section
variable {s : State} (hup : Up s) (h : Byte) (hold : AnnouncementsHold (openBoundary s))
include hup

/-! ## QUEUED and TAIL (R104, R105, R111) -/

theorem exec_queueDeadlineExpiry_idle (hnot : ∀ e ∈ (openBoundary s).ann.entries, e.handle = h →
    e.due = false ∨ e.phase ≠ .queued ∨ e.deadline = 0 ∨ 1 < e.timer) : exec (.queueDeadlineExpiry h) s = .next s := by
  refine exec_of_no_cause hup rfl (entryCause_eq_false fun e he hh => (hnot e he hh).imp_right fun hno => ?_)
  unfold expiryCause
  rcases hno with hno | hno | hno
  · simp [hno]
  · simp [hno]
  · simp [Nat.not_le.2 hno]

theorem exec_tailEnd_idle (hnot : ∀ e ∈ (openBoundary s).ann.entries, e.handle = h →
    e.due = false ∨ e.phase ≠ .tail ∨ e.timer ≠ 0) : exec (.tailEnd h) s = .next s := by
  refine exec_of_no_cause hup rfl (entryCause_eq_false fun e he hh => (hnot e he hh).imp_right fun hno => ?_)
  unfold tailEndCause
  rcases hno with hno | hno <;> simp [hno]

include hold

variable {e : Entry} (he : e ∈ (openBoundary s).ann.entries) (hh : e.handle = h) (hdue : e.due = true)
include he hh hdue

theorem exec_queueDeadlineExpiry_of_due (hphase : e.phase = .queued) (hdeadline : e.deadline ≠ 0) (htimer : e.timer ≤ 1) :
    ∃ t, exec (.queueDeadlineExpiry h) s = .next t ∧ RemovedEntry (openBoundary s) t e .stale ∧
      LeftTable (openBoundary s) t e (openBoundary s).media.recorded := by
  subst hh
  have hcause : expiryCause e = true := by simp [expiryCause, hphase, hdeadline, htimer]
  refine ⟨_, exec_of_cause hup (c := .queueDeadlineExpiry e.handle) rfl hold he rfl hdue
    (entryCause_of_due hold he hdue hcause), ?_⟩
  rw [takeAdvance_queued_expires he rfl _ hphase hdeadline htimer]
  generalize openBoundary s = o at he
  have hnot : activeRecorded (begun .queued e) = false :=
    Bool.eq_false_iff.2 fun hactive => (activeRecorded_iff.1 hactive).2 hphase
  have hfound : (replaced o e (begun .queued e)).entry? e.handle = some (begun .queued e) := entry?_replaced he rfl
  have hsame : removeEntry e.handle .stale (replaced o e (begun .queued e)) =
      removeAndHandOn e.handle .stale (replaced o e (begun .queued e)) := by
    have hremoves := removeAndHandOn_eq (e := begun .queued e) hfound .stale
    rw [hnot] at hremoves
    exact hremoves.symm
  rw [hsame]
  have hremoved := removedEntry_replaced (x := begun .queued e) he rfl .stale
  have hleft := leftTable_removeEntry (e := begun .queued e) hfound .stale
  rw [show (begun .queued e).handle = e.handle from rfl, hsame] at hleft
  refine ⟨⟨hremoved.frame, hremoved.finished, hremoved.event, hremoved.floors, voiceStopped_of_chimes
    (chimes_replaced (x := begun .queued e) he rfl .stale)⟩, ⟨hleft.entries.trans ?_, hleft.queue, ?_, hleft.flags⟩⟩
  · exact filter_replaced (x := begun .queued e) rfl
  · exact hleft.recorded.trans (bufferWithout_of_queued (e := begun .queued e) hphase _)

variable (hphase : e.phase = .tail) (htimer : e.timer = 0)
include hphase htimer

theorem exec_tailEnd_of_due : exec (.tailEnd h) s =
    .next (takeAdvance (spareFuel (openBoundary s) + 3) e.handle (replaced (openBoundary s) e e)) :=
  exec_of_cause hup rfl hold he hh hdue (by
    have hcause : tailEndCause e = true := by simp [tailEndCause, hphase, htimer]
    rw [← hh]
    exact entryCause_of_due hold he hdue hcause)

theorem exec_tailEnd_leaves (halone : e.source ≠ .r ∨ (openBoundary s).ann.queue = []) :
    ∃ t, exec (.tailEnd h) s = .next t ∧ RemovedEntry (openBoundary s) t e .completed ∧
      LeftTable (openBoundary s) t e (openBoundary s).media.recorded := by
  refine ⟨_, exec_tailEnd_of_due hup h hold he hh hdue hphase htimer, ?_⟩
  rw [takeAdvance_tail_leaves he rfl _ hphase htimer halone]
  generalize openBoundary s = o at he halone
  have hremoved := removedEntry_replaced (x := begun .tail e) he rfl .completed
  have hleft := leftTable_replaced (x := begun .tail e) he rfl .completed halone
  refine ⟨⟨hremoved.frame, hremoved.finished, hremoved.event, hremoved.floors, voiceStopped_of_chimes
    (chimes_replaced (x := begun .tail e) he rfl .completed)⟩, ⟨hleft.entries, hleft.queue, ?_, hleft.flags⟩⟩
  refine hleft.recorded.trans ((bufferWithout_of_active (e := begun .tail e) ?_ _).trans (if_pos hphase))
  rw [show (begun .tail e).phase = e.phase from rfl, hphase]
  exact nofun

/-- The head of the queue made active by a tail's end takes its first LEAD advance at once (R105). -/
theorem exec_tailEnd_hands (hsource : e.source = .r) {g : Byte} {rest : List Byte} (hqueue : (openBoundary s).ann.queue = g :: rest)
    (hlead : ∀ x ∈ (openBoundary s).ann.entries, x.handle = g → 1 ≤ x.params.lead) :
    ∃ t u, exec (.tailEnd h) s = .next t ∧ RemovedEntry (openBoundary s) u e .completed ∧ HandedOn (openBoundary s) u e g rest ∧
      t = { u with ann := { u.ann with entries := u.ann.entries.map fun x =>
        if x.handle = g then { x with timer := x.timer - 1, blockPhase := some .lead, due := false } else x } } := by
  refine ⟨_, removeAndHandOn e.handle .completed (replaced (openBoundary s) e (begun .tail e)),
    exec_tailEnd_of_due hup h hold he hh hdue hphase htimer, ?_⟩
  rw [takeAdvance_tail_hands he rfl _ hphase htimer hsource hqueue]
  have hhere : replaced (openBoundary s) e (begun .tail e) = (openBoundary s).modEntry e.handle (begun .tail) :=
    (modEntry_eq_replaced (announcementsHold_iff.1 hold).1 he _).symm
  have hqueued : e.phase ≠ .queued := by rw [hphase]; exact nofun
  have hbegun : AnnouncementsHold (replaced (openBoundary s) e (begun .tail e)) := by
    rw [hhere]
    exact announcementsHold_modEntry_of_phase hold he ⟨rfl, rfl, rfl, rfl⟩ rfl (fun hq => absurd hq hqueued) ⟨rfl, rfl⟩
  generalize openBoundary s = o at *
  have hmem : begun .tail e ∈ (replaced o e (begun .tail e)).ann.entries := State.entry?_mem _ (entry?_replaced he rfl)
  have hremoved := removedEntry_replaced (x := begun .tail e) he rfl .completed
  have hhanded : HandedOn (replaced o e (begun .tail e)) (removeAndHandOn e.handle .completed (replaced o e (begun .tail e)))
      (begun .tail e) g rest := handedOn_removeAndHandOn hbegun hmem .completed hqueued hsource hqueue
  have hu : AnnouncementsHold (removeAndHandOn e.handle .completed (replaced o e (begun .tail e))) :=
    announcementsHold_removeAndHandOn hbegun hmem .completed
  have hentries : (removeAndHandOn e.handle .completed (replaced o e (begun .tail e))).ann.entries =
      (o.ann.entries.filter fun x => x.handle ≠ e.handle).map fun x =>
        if x.handle = g then { x with phase := .lead, timer := x.params.lead } else x := by
    rw [hhanded.entries]
    exact congrArg (List.map _) (filter_replaced (x := begun .tail e) rfl)
  refine ⟨⟨hremoved.frame, hremoved.finished, hremoved.event, hremoved.floors, voiceStopped_of_chimes
    (chimes_replaced (x := begun .tail e) he rfl .completed)⟩,
    ⟨hentries, hhanded.queue, hhanded.recorded, hhanded.flags⟩, ?_⟩
  obtain ⟨x, hx, hxg, hxq⟩ := (hold.queueRight g).1 (by rw [hqueue]; exact List.mem_cons_self ..)
  have hxe : x.handle ≠ e.handle := fun heq => hqueued (by rw [← (announcementsHold_iff.1 hold).1.entries.eq_of_handle he hx heq]; exact hxq)
  have hy : leading x ∈ (removeAndHandOn e.handle .completed (replaced o e (begun .tail e))).ann.entries := by
    rw [hentries]
    exact List.mem_map.2 ⟨x, List.mem_filter.2 ⟨hx, decide_eq_true hxe⟩, if_pos hxg⟩
  have htime : (leading x).timer ≠ 0 := Nat.ne_of_gt (hlead x hx hxg)
  generalize removeAndHandOn e.handle .completed (replaced o e (begun .tail e)) = u at hu hy ⊢
  have hticks := takeAdvance_lead_ticks hy rfl (spareFuel o + 1) rfl htime
  have hticked := modEntry_eq_replaced (announcementsHold_iff.1 hu).1 hy fun z => ticked (begun .lead z)
  rw [replaced_self (announcementsHold_iff.1 hu).1 hy, ← hticked] at hticks
  have hg : (leading x).handle = g := hxg
  rw [hg] at hticks
  exact hticks

end

end Sys2Proof.Machine
end

section
/-! PROOFS. Events of a block start taken alone: LEAD's end, LIVE's ends, and the moves of a voice (R106 to R110, R139). -/

namespace Sys2Proof.Machine

section
variable {s : State} (hup : Up s) (h : Byte) (hold : AnnouncementsHold (openBoundary s))
include hup

theorem exec_leadEnd_idle (hnot : ∀ e ∈ (openBoundary s).ann.entries, e.handle = h →
    e.due = false ∨ e.phase ≠ .lead ∨ e.timer ≠ 0) : exec (.leadEnd h) s = .next s := by
  refine exec_of_no_cause hup rfl (entryCause_eq_false fun e he hh => (hnot e he hh).imp_right fun hno => ?_)
  unfold leadEndCause
  rcases hno with hno | hno <;> simp [hno]

theorem exec_maximumLiveReached_idle (hnot : ∀ e ∈ (openBoundary s).ann.entries, e.handle = h →
    e.due = false ∨ e.phase ≠ .live ∨ ¬ (e.params.maxLive ≠ 0 ∧ e.liveCount = e.params.maxLive)) :
    exec (.maximumLiveReached h) s = .next s := by
  refine exec_of_no_cause hup rfl (entryCause_eq_false fun e he hh => (hnot e he hh).imp_right fun hno => ?_)
  unfold maximumCause
  rcases hno with hno | hno
  · simp [hno]
  · rw [← atMaximumLive_iff, Bool.not_eq_true] at hno
    rw [hno, Bool.and_false]

theorem exec_starvationRunLimit_idle (hnot : ∀ e ∈ (openBoundary s).ann.entries, e.handle = h →
    e.due = false ∨ e.phase ≠ .live ∨ e.source ≠ .r ∨ (e.params.maxLive ≠ 0 ∧ e.liveCount = e.params.maxLive) ∨
      (openBoundary s).media.recorded.blocks ≠ [] ∨ e.starvation < 499) : exec (.starvationRunLimit h) s = .next s := by
  refine exec_of_no_cause hup (cause := fun t => entryCause h (starvationCause t) t) rfl
    (entryCause_eq_false fun e he hh => (hnot e he hh).imp_right fun hno => ?_)
  unfold starvationCause
  rcases hno with hno | hno | hno | hno | hno
  · simp [hno]
  · simp [hno]
  · simp [atMaximumLive_iff.2 hno]
  · simp [hno]
  · have hbelow : ¬ liveStarveLimit ≤ e.starvation + 1 := by unfold liveStarveLimit; omega
    simp [hbelow]

include hold

variable {e : Entry} (he : e ∈ (openBoundary s).ann.entries) (hh : e.handle = h) (hdue : e.due = true)
include he hh hdue

/-! ## LEAD's end (R106, R138) -/

section
variable (hphase : e.phase = .lead) (htimer : e.timer = 0)
include hphase htimer

theorem exec_leadEnd_of_due : exec (.leadEnd h) s =
    .next (takeAdvance (spareFuel (openBoundary s) + 3) e.handle (replaced (openBoundary s) e e)) :=
  exec_of_cause hup rfl hold he hh hdue (by
    have hcause : leadEndCause e = true := by simp [leadEndCause, hphase, htimer]
    rw [← hh]
    exact entryCause_of_due hold he hdue hcause)

theorem exec_leadEnd_chimes {p : PatternNo} {n : Note} {rest : List Note} (hchime : e.params.chime = some p)
    (hnotes : (openBoundary s).chimes.patterns.get p = n :: rest) :
    ∃ t, exec (.leadEnd h) s = .next t ∧
      t = { openBoundary s with
        ann := withEntry (openBoundary s).ann h { e with phase := .chime, blockPhase := some .chime, due := false }
        chimes := t.chimes } ∧
      OnlyVoice (openBoundary s) t e.source ∧ StartsNote (t.voice e.source) h p 0 n := by
  refine ⟨_, exec_leadEnd_of_due hup h hold he hh hdue hphase htimer, ?_⟩
  rw [takeAdvance_lead_chimes he rfl _ hphase htimer hchime]
  generalize openBoundary s = o at *
  have hstarts : (replaced o e (chiming (begun .lead e))).chimes.patterns.get p = n :: rest := hnotes
  rw [startVoice_of_notes hstarts, hh]
  refine ⟨?_, ⟨patterns_modVoice .., fun w hw => ?_⟩, ?_⟩
  · subst hh
    rfl
  · rw [State.voice_modVoice, if_neg (Ne.symm hw)]
    cases w <;> rfl
  · rw [State.voice_modVoice, if_pos rfl]
    exact startsNote_playBlock ⟨h, p, 0, 0, 0, 0, 0⟩ 0 n

theorem exec_leadEnd_live (hchime : e.params.chime = none) (hstays : StaysLive (openBoundary s) e) :
    ∃ t, exec (.leadEnd h) s = .next t ∧ TookLiveAdvance (openBoundary s) t e := by
  refine ⟨_, exec_leadEnd_of_due hup h hold he hh hdue hphase htimer, ?_⟩
  rw [takeAdvance_lead_silent he rfl _ hphase htimer hchime]
  exact takeAdvance_live_stays (x := { begun .lead e with phase := .live }) he rfl _ rfl hstays

end

/-! ## LIVE's ends (R108, R110) -/

variable (hphase : e.phase = .live)
include hphase

theorem exec_maximumLiveReached_ends (hfull : e.params.maxLive ≠ 0 ∧ e.liveCount = e.params.maxLive) :
    ∃ t, exec (.maximumLiveReached h) s = .next t ∧
      EndedAtBlockStart (openBoundary s) t e .timedOut e.liveCount e.starvation none := by
  have hmax := atMaximumLive_iff.2 hfull
  have hcause : maximumCause e = true := by simp [maximumCause, hphase, hmax]
  refine ⟨_, exec_of_cause hup rfl hold he hh hdue (by rw [← hh]; exact entryCause_of_due hold he hdue hcause), ?_⟩
  rw [takeAdvance_live_full he rfl _ hphase hmax]
  exact endedAtBlockStart_takeAdvance he _ .timedOut e.phase e.liveCount e.starvation none (some .live) false

theorem exec_starvationRunLimit_ends (hnot : ¬ (e.params.maxLive ≠ 0 ∧ e.liveCount = e.params.maxLive)) (hsource : e.source = .r)
    (hblocks : (openBoundary s).media.recorded.blocks = []) (hlimit : 499 ≤ e.starvation) :
    ∃ t, exec (.starvationRunLimit h) s = .next t ∧
      EndedAtBlockStart (openBoundary s) t e .starved (min 65535 (e.liveCount + 1)) 500 none := by
  have hlasts : atMaximumLive e = false := Bool.eq_false_iff.2 fun hfull => hnot (atMaximumLive_iff.1 hfull)
  have hcause : starvationCause (openBoundary s) e = true := by
    have hreached : liveStarveLimit ≤ e.starvation + 1 := by unfold liveStarveLimit; omega
    simp [starvationCause, hphase, hsource, hlasts, hblocks, hreached]
  refine ⟨_, exec_of_cause hup (cause := fun t => entryCause h (starvationCause t) t) rfl hold he hh hdue
    (by rw [← hh]; exact entryCause_of_due hold he hdue hcause), ?_⟩
  rw [takeAdvance_live_starves he rfl _ hphase hlasts hsource hblocks hlimit]
  have hcount : countTo liveStarveLimit e.starvation = 500 := by unfold countTo liveStarveLimit; omega
  have hlast : starving (begun .live e) = lastLive e e.phase (countHalf e.liveCount) 500 none (some .live) false := by
    rw [← hcount]
    rfl
  rw [hlast]
  exact endedAtBlockStart_takeAdvance he _ .starved e.phase (countHalf e.liveCount) 500 none (some .live) false

end

/-! ## The moves of a voice (R139) -/

section
variable {s : State} (hup : Up s) (v : Source)
include hup

/-- An event of a voice that is not the voice's move does nothing. -/
theorem exec_voice_idle {c : Instr} {f : VoiceMove → Bool}
    (hexec : exec c s = .next (atBoundary (voiceCause v f) (fun t => takeVoice t v) s))
    (hnot : ((openBoundary s).voice v).due = false ∨ ((openBoundary s).voice v).playing = none ∨
      ∀ m, pendingMove (openBoundary s) v = some m → f m = false) : exec c s = .next s := by
  rw [exec_atBoundary hup hexec, if_neg]
  unfold voiceCause
  rcases hnot with hdue | hidle | hmove
  · simp [hdue]
  · simp [pendingMove, hidle]
  · cases hp : pendingMove (openBoundary s) v with
    | none => simp
    | some m => simp [hmove m hp]

variable (hdue : ((openBoundary s).voice v).due = true) {q : Playing} (hq : ((openBoundary s).voice v).playing = some q)
include hq

theorem exec_voice_other {c : Instr} {f : VoiceMove → Bool}
    (hexec : exec c s = .next (atBoundary (voiceCause v f) (fun t => takeVoice t v) s))
    (hnot : f (voiceMove ((openBoundary s).chimes.patterns.get q.pattern) q) = false) : exec c s = .next s :=
  exec_voice_idle hup v hexec (.inr (.inr fun m hm => by
    rw [pendingMove_of_playing hq] at hm
    rw [← Option.some.inj hm]
    exact hnot))

include hdue

theorem exec_voice_fires {c : Instr} {f : VoiceMove → Bool}
    (hexec : exec c s = .next (atBoundary (voiceCause v f) (fun t => takeVoice t v) s))
    (hfires : f (voiceMove ((openBoundary s).chimes.patterns.get q.pattern) q) = true) :
    exec c s = .next (takeVoice (openBoundary s) v) := by
  rw [exec_atBoundary hup hexec, if_pos]
  unfold voiceCause
  rw [hdue, pendingMove_of_playing hq, Bool.true_and]
  exact hfires

end

section
variable {s : State} {v : Source}

/-- A voice that goes on plays its block, and nothing else changes. -/
theorem moved_of_takeVoice (hdue : (s.voice v).due = true) {q : Playing} (hq : (s.voice v).playing = some q) {m : VoiceMove}
    (hmove : voiceMove (s.chimes.patterns.get q.pattern) q = m) (hend : m ≠ .chimeEnd) :
    takeVoice s v = { s with chimes := (takeVoice s v).chimes } ∧ OnlyVoice s (takeVoice s v) v ∧
      (takeVoice s v).voice v = movedVoice m := by
  rw [takeVoice_of_move hdue hq hmove hend]
  refine ⟨rfl, ⟨patterns_modVoice .., fun w hw => ?_⟩, ?_⟩
  · rw [State.voice_modVoice, if_neg (Ne.symm hw)]
  · rw [State.voice_modVoice, if_pos rfl]

variable {q : Playing} {n : Note}

theorem isDecayStep_playedOn (q : Playing) (n : Note) : isDecayStep (.on n (playedOn q n)) = true ↔
    n.tone ≠ none ∧ n.decay ≠ 0 ∧ n.decay ≤ q.decayCounter + 1 := by
  by_cases hsteady : n.tone = none ∨ n.decay = 0
  · rw [playedOn_steady hsteady]
    rcases hsteady with htone | hdecay <;> simp [isDecayStep, *]
  · obtain ⟨htone, hdecay⟩ := not_or.1 hsteady
    have hsome : n.tone.isSome = true := Option.isSome_iff_ne_none.2 htone
    by_cases hstep : n.decay ≤ q.decayCounter + 1
    · rw [playedOn_rises htone hdecay hstep]
      simp [isDecayStep, hsome, htone, hdecay, hstep]
    · rw [playedOn_counts htone hdecay hstep]
      simp [isDecayStep, hstep]

end

/-- The chime end of an entry reached at a block start. -/
theorem exec_chimeEnd_reaches {o : State} (hold : AnnouncementsHold o) {v : Source} {q : Playing} (hdue : (o.voice v).due = true)
    (hq : (o.voice v).playing = some q) (hend : voiceMove (o.chimes.patterns.get q.pattern) q = .chimeEnd) {e : Entry}
    (he : e ∈ o.ann.entries) (hh : e.handle = q.entry) :
    (e.earlyRelease = true → EndedAtBlockStart (o.modVoice v fun _ => ⟨none, none, false⟩) (takeVoice o v) e .short e.liveCount
      e.starvation e.recorded) ∧
    (e.earlyRelease = false → StaysLive (o.modVoice v fun _ => ⟨none, none, false⟩) e →
      TookLiveAdvance (o.modVoice v fun _ => ⟨none, none, false⟩) (takeVoice o v) e) := by
  obtain ⟨hidle, -⟩ := tableHolds_idle hold hq
  obtain ⟨x, hx, hxq, -, hxphase⟩ := hold.voices v q hq
  have hphase : e.phase = .chime := by rw [(announcementsHold_iff.1 hold).1.entries.eq_of_handle hx he (hh.trans hxq.symm)]; exact hxphase
  rw [takeVoice_of_end hdue hq hend rfl, ← hh]
  have he : e ∈ (o.modVoice v fun _ => idleVoice).ann.entries := he
  show (e.earlyRelease = true → EndedAtBlockStart (o.modVoice v fun _ => idleVoice) _ e .short _ _ _) ∧
    (e.earlyRelease = false → StaysLive (o.modVoice v fun _ => idleVoice) e → TookLiveAdvance (o.modVoice v fun _ => idleVoice) _ e)
  generalize (o.modVoice v fun _ => idleVoice) = i at hidle he ⊢
  have hfound := entry?_of_table hidle he
  refine ⟨fun hearly => ?_, fun hearly hstays => ?_⟩
  · rw [chimeEndReaches_early hfound hphase hearly]
    have hended := endedAtBlockStart_takeAdvance he (spareFuel i + 2) .short e.phase e.liveCount e.starvation e.recorded
      e.blockPhase e.due
    have hsame : replaced i e (lastLive e e.phase e.liveCount e.starvation e.recorded e.blockPhase e.due) = i := replaced_self hidle he
    rwa [hsame] at hended
  · rw [chimeEndReaches_live hfound hphase hearly, modEntry_eq_replaced hidle he]
    exact takeAdvance_live_stays (x := { e with phase := .live }) he rfl (spareFuel i + 2) rfl hstays

end Sys2Proof.Machine
end

section
/-! PROOFS. What the advances of other entries leave of an entry: its record, its source's voice and, for a recorded one, its
buffer. -/

namespace Sys2Proof.Machine

/-- Between `s` and `t` nothing of this entry has changed, nor its source's voice, nor its buffer. -/
structure Beside (e : Entry) (s t : State) : Prop where
  entry : e ∈ s.ann.entries → e ∈ t.ann.entries
  voice : t.voice e.source = s.voice e.source
  recorded : e.source = .r → t.media.recorded = s.media.recorded

theorem Beside.refl (e : Entry) (s : State) : Beside e s s := ⟨id, rfl, fun _ => rfl⟩

theorem Beside.trans {e : Entry} {s t u : State} (h : Beside e s t) (k : Beside e t u) : Beside e s u :=
  ⟨fun he => k.entry (h.entry he), k.voice.trans h.voice, fun hr => (k.recorded hr).trans (h.recorded hr)⟩

/-! ## No operation of a turn brings an entry -/

/-- Every entry of `t` was one of `s`, of the same source. -/
structure Kept (s t : State) : Prop where
  names : ∀ y ∈ t.ann.entries, ∃ x ∈ s.ann.entries, x.handle = y.handle ∧ x.source = y.source

theorem Kept.of_entries {s t : State} (h : t.ann.entries = s.ann.entries) : Kept s t :=
  ⟨fun y hy => ⟨y, by rwa [← h], rfl, rfl⟩⟩

theorem Kept.trans {s t u : State} (h : Kept s t) (k : Kept t u) : Kept s u := by
  refine ⟨fun z hz => ?_⟩
  obtain ⟨y, hy, hyz, hsyz⟩ := k.names z hz
  obtain ⟨x, hx, hxy, hsxy⟩ := h.names y hy
  exact ⟨x, hx, hxy.trans hyz, hsxy.trans hsyz⟩

/-- A change that leaves an entry its handle and its source. -/
def KeepsName (f : Entry → Entry) : Prop := ∀ x, (f x).handle = x.handle ∧ (f x).source = x.source

theorem kept_modEntry {s : State} (k : Byte) {f : Entry → Entry} (hf : KeepsName f) : Kept s (s.modEntry k f) := by
  refine ⟨fun y hy => ?_⟩
  obtain ⟨x, hx, rfl⟩ := List.mem_map.1 hy
  split
  · exact ⟨x, hx, (hf x).1.symm, (hf x).2.symm⟩
  · exact ⟨x, hx, rfl, rfl⟩

theorem kept_enterTail (k : Byte) (why : EndReason) (s : State) : Kept s (enterTail k why s) := by
  cases hfind : s.entry? k with
  | none =>
    have hsame : enterTail k why s = s := by
      unfold enterTail
      rw [hfind]
    exact .of_entries (by rw [hsame])
  | some x =>
    obtain rfl := State.entry?_handle _ hfind
    rw [enterTail_eq_tailed hfind]
    exact (kept_modEntry x.handle (f := tailed why) fun _ => ⟨rfl, rfl⟩).trans (.of_entries rfl)

theorem kept_removeEntry (k : Byte) (cause : EndReason) (s : State) : Kept s (removeEntry k cause s) := by
  cases hfind : s.entry? k with
  | none =>
    have hsame : removeEntry k cause s = s := by
      unfold removeEntry
      rw [hfind]
    exact .of_entries (by rw [hsame])
  | some x =>
    obtain rfl := State.entry?_handle _ hfind
    refine ⟨fun y hy => ?_⟩
    rw [(leftTable_removeEntry hfind cause).entries] at hy
    exact ⟨y, List.mem_of_mem_filter hy, rfl, rfl⟩

theorem kept_handOn (s : State) : Kept s (handOn s) := by
  cases hhead : s.ann.queue with
  | nil => exact .of_entries (by rw [handOn_of_empty hhead])
  | cons g rest =>
    rw [handOn_eq_leading hhead]
    have hqueue : Kept s (s.modAnn fun a => { a with queue := rest }) := .of_entries rfl
    exact (hqueue.trans (kept_modEntry g (f := leading) fun _ => ⟨rfl, rfl⟩)).trans (.of_entries rfl)

theorem kept_removeAndHandOn (k : Byte) (cause : EndReason) (s : State) : Kept s (removeAndHandOn k cause s) := by
  unfold removeAndHandOn
  split
  · exact .of_entries rfl
  · split
    · exact (kept_removeEntry k cause s).trans (kept_handOn _)
    · exact kept_removeEntry k cause s

theorem kept_endLead (e : Entry) (s : State) : Kept s (endLead e s) := by
  cases hchime : e.params.chime with
  | none =>
    rw [endLead_of_silent hchime]
    exact kept_modEntry e.handle fun _ => ⟨rfl, rfl⟩
  | some p =>
    rw [endLead_of_chime hchime]
    exact (kept_modEntry (f := chiming) e.handle fun _ => ⟨rfl, rfl⟩).trans (.of_entries (by simp))

theorem kept_liveAdvance (e : Entry) (s : State) : Kept s (liveAdvance e s) := by
  have hnote := kept_modEntry (s := s) (f := fun x => { x with recorded := none }) e.handle fun _ => ⟨rfl, rfl⟩
  unfold liveAdvance
  dsimp only
  generalize (s.modEntry e.handle fun x => { x with recorded := none }) = t at hnote ⊢
  split
  · exact hnote.trans (kept_enterTail ..)
  · have hcount := hnote.trans (kept_modEntry (s := t) (f := fun x => { x with liveCount := countHalf x.liveCount }) e.handle
      fun _ => ⟨rfl, rfl⟩)
    generalize (t.modEntry e.handle fun x => { x with liveCount := countHalf x.liveCount }) = u at hcount ⊢
    split
    · exact hcount
    · split
      · have hstarved := hcount.trans (kept_modEntry (s := u)
          (f := fun x => { x with starvation := countTo liveStarveLimit x.starvation }) e.handle fun _ => ⟨rfl, rfl⟩)
        split
        · exact hstarved.trans (kept_enterTail ..)
        · exact hstarved
      next b _ _ =>
        have htaken : Kept s (takeRecorded u) := hcount.trans (.of_entries rfl)
        have hpassed := htaken.trans (kept_modEntry (f := fun x => { x with starvation := 0, recorded := some b.samples }) e.handle
          fun _ => ⟨rfl, rfl⟩)
        split
        · exact hpassed.trans (kept_enterTail ..)
        · exact hpassed

theorem kept_takeAdvance (n : Nat) (k : Byte) (s : State) : Kept s (takeAdvance n k s) := by
  induction n generalizing s k with
  | zero => exact .of_entries rfl
  | succ n ih =>
    unfold takeAdvance
    split
    · exact .of_entries rfl
    next x _ =>
      have hfirst := kept_modEntry (s := s) (f := fun y => { y with due := false, blockPhase := some x.phase }) k
        fun _ => ⟨rfl, rfl⟩
      have hcount := hfirst.trans (kept_modEntry (f := fun y => { y with timer := y.timer - 1 }) k fun _ => ⟨rfl, rfl⟩)
      dsimp only
      generalize (s.modEntry k fun y => { y with due := false, blockPhase := some x.phase }) = t at hfirst hcount ⊢
      cases x.phase with
      | queued =>
        dsimp only
        split
        · exact hfirst
        · split
          · exact hfirst.trans (kept_removeEntry ..)
          · exact hcount
      | lead =>
        dsimp only
        split
        · split
          · exact hfirst.trans (kept_endLead ..)
          · exact (hfirst.trans (kept_endLead ..)).trans (ih ..)
        · exact hcount
      | chime => exact hfirst
      | live =>
        dsimp only
        split
        · exact hfirst.trans (kept_liveAdvance ..)
        · split
          · exact (hfirst.trans (kept_liveAdvance ..)).trans (ih ..)
          · exact hfirst.trans (kept_liveAdvance ..)
      | tail =>
        dsimp only
        split
        · have hgone := hfirst.trans (kept_removeAndHandOn k .completed _)
          split
          · split
            · exact hgone
            · exact hgone.trans (ih ..)
          · exact hgone
        · exact hcount

/-- No entry with this handle is of this entry's source. -/
def OtherSource (e : Entry) (k : Byte) (s : State) : Prop := ∀ x ∈ s.ann.entries, x.handle = k → x.source ≠ e.source

theorem OtherSource.kept {e : Entry} {k : Byte} {s t : State} (h : OtherSource e k s) (hkept : Kept s t) : OtherSource e k t :=
  fun y hy hk => by
    obtain ⟨x, hx, hxy, hsource⟩ := hkept.names y hy
    rw [← hsource]
    exact h x hx (hxy.trans hk)

/-! ## The operations of another entry -/

section
variable {e : Entry} {k : Byte} (hk : k ≠ e.handle) {s : State}

include hk in
theorem beside_modEntry (f : Entry → Entry) : Beside e s (s.modEntry k f) :=
  ⟨fun he => List.mem_map.2 ⟨e, he, if_neg (Ne.symm hk)⟩, by simp, fun _ => rfl⟩

theorem beside_takeRecorded (hsource : e.source ≠ .r) : Beside e s (takeRecorded s) :=
  ⟨id, by cases e.source <;> rfl, fun hr => absurd hr hsource⟩

include hk in
theorem beside_enterTail (hother : OtherSource e k s) (why : EndReason) : Beside e s (enterTail k why s) := by
  cases hfind : s.entry? k with
  | none =>
    have hsame : enterTail k why s = s := by
      unfold enterTail
      rw [hfind]
    rw [hsame]
    exact .refl e s
  | some x =>
    have hsource := hother x (State.entry?_mem _ hfind) (State.entry?_handle _ hfind)
    obtain rfl := State.entry?_handle _ hfind
    have hentered := enteredTail_enterTail hfind why
    generalize enterTail x.handle why s = t at hentered ⊢
    refine ⟨fun he => ?_, hentered.voices.others _ (Ne.symm hsource), fun hr => ?_⟩
    · rw [hentered.frame]
      exact List.mem_map.2 ⟨e, he, if_neg (Ne.symm hk)⟩
    · rw [hentered.frame]
      exact closedFor_of_mic (fun hx => hsource (hx.trans hr.symm)) _

theorem beside_modVoice {v : Source} (hv : v ≠ e.source) (f : Voice → Voice) : Beside e s (s.modVoice v f) := by
  refine ⟨id, ?_, fun _ => rfl⟩
  rw [State.voice_modVoice, if_neg hv]

include hk in
theorem beside_endLead {x : Entry} (hx : x.handle = k) (hsource : x.source ≠ e.source) : Beside e s (endLead x s) := by
  have hk : x.handle ≠ e.handle := by rw [hx]; exact hk
  cases hchime : x.params.chime with
  | none =>
    rw [endLead_of_silent hchime]
    exact beside_modEntry hk _
  | some p =>
    rw [endLead_of_chime hchime]
    refine (beside_modEntry hk chiming).trans ?_
    unfold startVoice
    split
    · exact beside_modVoice hsource _
    · exact beside_modVoice hsource _

include hk in
theorem beside_liveAdvance {x : Entry} (hx : x.handle = k) (hsource : x.source ≠ e.source) (hother : OtherSource e k s) :
    Beside e s (liveAdvance x s) := by
  subst hx
  have hnote := beside_modEntry (s := s) hk fun y => { y with recorded := none }
  have hnoted := hother.kept (kept_modEntry x.handle (f := fun y => { y with recorded := none }) fun _ => ⟨rfl, rfl⟩)
  unfold liveAdvance
  dsimp only
  generalize (s.modEntry x.handle fun y => { y with recorded := none }) = t at hnote hnoted ⊢
  split
  · exact hnote.trans (beside_enterTail hk hnoted _)
  · have hcount := hnote.trans (beside_modEntry (s := t) hk fun y => { y with liveCount := countHalf y.liveCount })
    have hcounted := hnoted.kept (kept_modEntry x.handle (f := fun y => { y with liveCount := countHalf y.liveCount }) fun _ => ⟨rfl, rfl⟩)
    generalize (t.modEntry x.handle fun y => { y with liveCount := countHalf y.liveCount }) = u at hcount hcounted ⊢
    split
    · exact hcount
    next hrecorded =>
      have hmic : e.source ≠ .r := fun hr => hsource ((not_not.1 hrecorded).trans hr.symm)
      split
      · have hstarved := hcount.trans (beside_modEntry (s := u) hk fun y =>
          { y with starvation := countTo liveStarveLimit y.starvation })
        split
        · exact hstarved.trans (beside_enterTail hk (hcounted.kept (kept_modEntry x.handle
            (f := fun y => { y with starvation := countTo liveStarveLimit y.starvation }) fun _ => ⟨rfl, rfl⟩)) _)
        · exact hstarved
      next b _ _ =>
        have hpassed := (hcount.trans (beside_takeRecorded hmic)).trans
          (beside_modEntry (s := takeRecorded u) hk fun y => { y with starvation := 0, recorded := some b.samples })
        split
        · exact hpassed.trans (beside_enterTail hk (OtherSource.kept (s := takeRecorded u) hcounted (kept_modEntry x.handle
            (f := fun y => { y with starvation := 0, recorded := some b.samples }) fun _ => ⟨rfl, rfl⟩)) _)
        · exact hpassed

include hk in
/-- Another entry that leaves stops at most its own source's voice, and a waiting one stops none. -/
theorem beside_removeEntry {x : Entry} (hx : s.entry? k = some x)
    (hquiet : x.source ≠ e.source ∨ x.phase = .queued ∧ playsFor s x.source x.handle = false) (cause : EndReason) :
    Beside e s (removeEntry k cause s) := by
  obtain rfl := State.entry?_handle _ hx
  have hremoved := removedEntry_removeEntry hx cause
  have hleft := leftTable_removeEntry hx cause
  generalize removeEntry x.handle cause s = t at hremoved hleft ⊢
  refine ⟨fun he => ?_, ?_, fun hr => ?_⟩
  · rw [hleft.entries]
    exact List.mem_filter.2 ⟨he, decide_eq_true (Ne.symm hk)⟩
  · by_cases hsource : x.source = e.source
    · obtain ⟨-, hsilent⟩ := hquiet.resolve_left (not_not.2 hsource)
      rw [← hsource]
      refine hremoved.voices.idle fun p hp hpx => ?_
      rw [playsFor_iff.2 ⟨p, hp, hpx⟩] at hsilent
      cases hsilent
    · exact hremoved.voices.others _ (Ne.symm hsource)
  · rw [hleft.recorded]
    refine if_neg ?_
    rcases hquiet with hsource | ⟨hqueued, -⟩
    · rw [holdsBuffer_of_mic fun hxr => hsource (hxr.trans hr.symm)]
      exact Bool.false_ne_true
    · simp [holdsBuffer, hqueued, candidatePhase]

theorem beside_handOn (hsource : e.source ≠ .r) (hqueue : e.handle ∉ s.ann.queue) : Beside e s (handOn s) := by
  cases hhead : s.ann.queue with
  | nil =>
    rw [handOn_of_empty hhead]
    exact .refl e s
  | cons g rest =>
    rw [handOn_of_head hhead]
    have hg : e.handle ≠ g := fun heq => hqueue (by rw [hhead, heq]; exact List.mem_cons_self ..)
    exact ⟨fun he => List.mem_map.2 ⟨e, he, if_neg hg⟩, by cases e.source <;> rfl, fun hr => absurd hr hsource⟩

end

/-! ## Another entry's advance -/

/-- A waiting entry has no voice. -/
theorem playsFor_of_queued {s : State} (h : AnnouncementsHold s) {x : Entry} (hx : x ∈ s.ann.entries) (hqueued : x.phase = .queued)
    (v : Source) : playsFor s v x.handle = false := Bool.eq_false_iff.2 fun hplays => by
  obtain ⟨p, hp, hpx⟩ := playsFor_iff.1 hplays
  obtain ⟨y, hy, hyp, -, hchime⟩ := h.voices v p hp
  rw [(announcementsHold_iff.1 h).1.entries.eq_of_handle hx hy (hyp.trans hpx), hqueued] at hchime
  cases hchime

theorem not_mem_queue_of_mic {s : State} (h : AnnouncementsHold s) {e : Entry} (he : e ∈ s.ann.entries) (hsource : e.source ≠ .r) :
    e.handle ∉ s.ann.queue := handle_not_mem_queue h he fun hq => hsource (h.queuedRecorded e he hq)

/-- An entry's advance passes by an entry of another source, and a waiting entry's passes by every other. -/
theorem beside_takeAdvance (n : Nat) {s : State} (h : AnnouncementsHold s) {e : Entry} (he : e ∈ s.ann.entries) {k : Byte}
    (hk : k ≠ e.handle) (hother : ∀ x, s.entry? k = some x → x.source ≠ e.source ∨ x.phase = .queued) :
    Beside e s (takeAdvance n k s) := by
  induction n generalizing s k with
  | zero => exact .refl e s
  | succ n ih =>
    unfold takeAdvance
    split
    · exact .refl e s
    next x hx =>
      have hapart := hother x hx
      have hmem := State.entry?_mem _ hx
      obtain rfl := State.entry?_handle _ hx
      have hbegun : AnnouncementsHold (s.modEntry x.handle fun y => { y with due := false, blockPhase := some x.phase }) :=
        announcementsHold_modEntry_of_phase h hmem ⟨rfl, rfl, rfl, rfl⟩ rfl (fun hq => hq) ⟨rfl, rfl⟩
      have hbegunMem : { x with due := false, blockPhase := some x.phase } ∈
          (s.modEntry x.handle fun y => { y with due := false, blockPhase := some x.phase }).ann.entries :=
        List.mem_map.2 ⟨x, hmem, if_pos rfl⟩
      have hfirst := beside_modEntry (s := s) hk fun y => { y with due := false, blockPhase := some x.phase }
      have hcount : ∀ {t : State}, Beside e s t → Beside e s (t.modEntry x.handle fun y => { y with timer := y.timer - 1 }) :=
        fun ht => ht.trans (beside_modEntry hk _)
      dsimp only
      generalize (s.modEntry x.handle fun y => { y with due := false, blockPhase := some x.phase }) = t at hbegun hbegunMem hfirst ⊢
      have hfound : t.entry? x.handle = some { x with due := false, blockPhase := some x.phase } := entry?_of_mem hbegun hbegunMem
      have het := hfirst.entry he
      have hactive : x.phase ≠ .queued → OtherSource e x.handle t := fun hphase y hy hyx => by
        rw [(announcementsHold_iff.1 hbegun).1.entries.eq_of_handle hbegunMem hy hyx]
        exact hapart.resolve_right hphase
      cases hphase : x.phase with
      | queued =>
        dsimp only
        split
        · exact hfirst
        · split
          · refine hfirst.trans (beside_removeEntry hk hfound (.inr ⟨hphase, ?_⟩) .stale)
            exact playsFor_of_queued hbegun hbegunMem hphase _
          · exact hcount hfirst
      | lead =>
        have hsource := hapart.resolve_right (by rw [hphase]; exact nofun)
        dsimp only
        split
        · have hled := announcementsHold_endLead hbegun hbegunMem hphase (e := x) rfl rfl
          have hbeside := hfirst.trans (beside_endLead (s := t) hk (x := x) rfl hsource)
          split
          · exact hbeside
          · have hstill := (hactive (by rw [hphase]; exact nofun)).kept (kept_endLead x t)
            exact hbeside.trans (ih hled (hbeside.entry he) hk fun y hy =>
              .inl (hstill y (State.entry?_mem _ hy) (State.entry?_handle _ hy)))
        · exact hcount hfirst
      | chime => exact hfirst
      | live =>
        have hqueued : x.phase ≠ .queued := by rw [hphase]; exact nofun
        have hsource := hapart.resolve_right hqueued
        dsimp only
        have hlive : AnnouncementsHold (liveAdvance x t) := announcementsHold_liveAdvance hbegun fun y hy => by
          rw [hfound] at hy
          cases hy
          exact hqueued
        have hbeside := hfirst.trans (beside_liveAdvance (s := t) hk (x := x) rfl hsource (hactive hqueued))
        split
        · exact hbeside
        · split
          · have hstill := (hactive hqueued).kept (kept_liveAdvance x t)
            exact hbeside.trans (ih hlive (hbeside.entry he) hk fun y hy =>
              .inl (hstill y (State.entry?_mem _ hy) (State.entry?_handle _ hy)))
          · exact hbeside
      | tail =>
        have hqueued : x.phase ≠ .queued := by rw [hphase]; exact nofun
        have hsource := hapart.resolve_right hqueued
        dsimp only
        split
        · have hgone := announcementsHold_removeAndHandOn hbegun hbegunMem .completed
          have hremoved := hfirst.trans (beside_removeEntry hk hfound (.inl hsource) .completed)
          have hhanded := removeAndHandOn_eq (e := { x with due := false, blockPhase := some x.phase }) hfound .completed
          split
          next hactive =>
            have hrecorded : x.source = .r := (activeRecorded_iff.1 hactive).1
            have hmic : e.source ≠ .r := fun hr => hsource (hrecorded.trans hr.symm)
            have hbeside : Beside e s (removeAndHandOn x.handle .completed t) := by
              have hqueue : e.handle ∉ (removeEntry x.handle .completed t).ann.queue := fun hin => by
                have hleft := leftTable_removeEntry (e := { x with due := false, blockPhase := some x.phase }) hfound .completed
                rw [hleft.queue] at hin
                exact not_mem_queue_of_mic hbegun het hmic (List.mem_of_mem_filter hin)
              have hactive : activeRecorded { x with due := false, blockPhase := some x.phase } = true := hactive
              rw [hhanded, if_pos hactive]
              exact hremoved.trans (beside_handOn hmic hqueue)
            split
            · exact hbeside
            next g hg =>
              have hqueue : g ∈ t.ann.queue := List.mem_of_mem_head? hg
              refine hbeside.trans (ih hgone (hbeside.entry he) (fun heq => ?_) fun y hy => .inl ?_)
              · rw [heq] at hqueue
                exact not_mem_queue_of_mic hbegun het hmic hqueue
              · obtain ⟨z, hz, hzy, hsame⟩ := (kept_removeAndHandOn x.handle .completed t).names y (State.entry?_mem _ hy)
                obtain ⟨w, hw, hwg, hwq⟩ := (hbegun.queueRight g).1 hqueue
                have hzw : z = w := (announcementsHold_iff.1 hbegun).1.entries.eq_of_handle hw hz
                  (hzy.trans ((State.entry?_handle _ hy).trans hwg.symm))
                rw [← hsame, hzw, hbegun.queuedRecorded w hw hwq]
                exact Ne.symm hmic
          next hnot =>
            have hnot : ¬ activeRecorded { x with due := false, blockPhase := some x.phase } = true := hnot
            rw [if_neg hnot] at hhanded
            rw [← hhanded] at hremoved
            exact hremoved
        · exact hcount hfirst

end Sys2Proof.Machine
end

section
/-! PROOFS. The turns of a block start, one after the other: what they leave of an entry before and after its own (R103). -/

namespace Sys2Proof.Machine

/-! ## Turns of other entries and of other voices -/

theorem kept_advanceIfDue (k : Byte) (s : State) : Kept s (advanceIfDue s k) := by
  unfold advanceIfDue
  split
  · exact .of_entries rfl
  · split
    · exact kept_takeAdvance ..
    · exact .of_entries rfl

section
variable {s : State} (h : AnnouncementsHold s) {e : Entry} (he : e ∈ s.ann.entries)
include h he

theorem beside_advanceIfDue {k : Byte} (hk : k ≠ e.handle)
    (hother : ∀ x, s.entry? k = some x → x.source ≠ e.source ∨ x.phase = .queued) : Beside e s (advanceIfDue s k) := by
  unfold advanceIfDue
  split
  · exact .refl e s
  · split
    · exact beside_takeAdvance _ h he hk hother
    · exact .refl e s

/-- Of the entries with a handle other than an active one's, those of its source wait. -/
theorem other_of_active (hphase : e.phase ≠ .queued) {k : Byte} (hk : k ≠ e.handle) :
    ∀ x, s.entry? k = some x → x.source ≠ e.source ∨ x.phase = .queued := fun x hx => by
  rw [or_iff_not_imp_right]
  intro hqueued hsource
  have hsame := (announcementsHold_iff.1 h).1.entries.eq_of_source he (State.entry?_mem _ hx) hphase hqueued hsource
  exact hk ((State.entry?_handle _ hx).symm.trans (congrArg Entry.handle hsame))

theorem beside_takeVoice {v : Source} (hv : v ≠ e.source) : Beside e s (takeVoice s v) := by
  cases hdue : (s.voice v).due with
  | false =>
    rw [takeVoice_of_not_due hdue]
    exact .refl e s
  | true =>
    cases hq : (s.voice v).playing with
    | none =>
      rw [takeVoice_of_idle hdue hq]
      exact beside_modVoice hv _
    | some q =>
      by_cases hend : voiceMove (s.chimes.patterns.get q.pattern) q = .chimeEnd
      · rw [takeVoice_of_end hdue hq rfl hend]
        obtain ⟨hidle, -⟩ := tableHolds_idle h hq
        obtain ⟨x, hx, hxq, hxv, hxphase⟩ := h.voices v q hq
        obtain ⟨htail, hlive⟩ := announcementsHold_afterChime h hq hx hxq hxphase
        have hfirst : Beside e s (s.modVoice v fun _ => idleVoice) := beside_modVoice hv _
        have hother : OtherSource e x.handle s := fun y hy hyx => by
          rw [(announcementsHold_iff.1 h).1.entries.eq_of_handle hx hy hyx, hxv]
          exact hv
        have hk : x.handle ≠ e.handle := fun heq => hother e he heq.symm rfl
        have hother : OtherSource e x.handle (s.modVoice v fun _ => idleVoice) := hother
        have hx : x ∈ (s.modVoice v fun _ => idleVoice).ann.entries := hx
        rw [← hxq] at hidle ⊢
        generalize (s.modVoice v fun _ => idleVoice) = i at *
        have hturn : ∀ {t : State} (n : Nat), AnnouncementsHold t → Beside e i t → Kept i t →
            Beside e s (takeAdvance n x.handle t) := fun n ht hbeside hkept =>
          (hfirst.trans hbeside).trans (beside_takeAdvance n ht ((hfirst.trans hbeside).entry he) hk fun y hy =>
            .inl (hother.kept hkept y (State.entry?_mem _ hy) (State.entry?_handle _ hy)))
        have hfound := entry?_of_table hidle hx
        cases hearly : x.earlyRelease with
        | true =>
          rw [chimeEndReaches_early hfound hxphase hearly]
          exact hturn _ htail (beside_enterTail hk hother _) (kept_enterTail ..)
        | false =>
          rw [chimeEndReaches_live hfound hxphase hearly]
          exact hturn _ hlive (beside_modEntry hk _) (kept_modEntry x.handle fun _ => ⟨rfl, rfl⟩)
      · rw [takeVoice_of_move hdue hq rfl hend]
        exact beside_modVoice hv _

end

theorem kept_takeVoice (v : Source) (s : State) : Kept s (takeVoice s v) := by
  have hends : ∀ k, Kept s (chimeEndReaches k (s.modVoice v fun _ => idleVoice)) := fun k => by
    have hidle : Kept s (s.modVoice v fun _ => idleVoice) := .of_entries rfl
    unfold chimeEndReaches
    split
    · exact hidle
    · split
      · exact hidle
      · split
        · exact (hidle.trans (kept_enterTail ..)).trans (kept_takeAdvance ..)
        · exact (hidle.trans (kept_modEntry (f := fun x => { x with phase := .live }) k fun _ => ⟨rfl, rfl⟩)).trans
            (kept_takeAdvance ..)
  unfold takeVoice
  split
  · split
    · exact hends _
    · exact .of_entries rfl
    · exact .of_entries rfl
  · exact .of_entries rfl

/-! ## An active entry while others take their turns -/

/-- The entry stands so in a table that agrees, with this buffer if it is recorded. -/
structure Stands (e : Entry) (r : RecordedBuffer) (s : State) : Prop where
  hold : AnnouncementsHold s
  entry : e ∈ s.ann.entries
  recorded : e.source = .r → s.media.recorded = r

section
variable {e : Entry} {r : RecordedBuffer} {s : State} (h : Stands e r s)
include h

theorem Stands.beside {t : State} (hbeside : Beside e s t) (ht : AnnouncementsHold t) : Stands e r t :=
  ⟨ht, hbeside.entry h.entry, fun hr => (hbeside.recorded hr).trans (h.recorded hr)⟩

variable (hphase : e.phase ≠ .queued)
include hphase

theorem stands_advanceIfDue {k : Byte} (hk : k ≠ e.handle) : Stands e r (advanceIfDue s k) :=
  h.beside (beside_advanceIfDue h.hold h.entry hk (other_of_active h.hold h.entry hphase hk))
    (announcementsHold_advanceIfDue h.hold k)

/-- An entry not in CHIME has no voice, so no voice's turn changes it. -/
theorem stands_takeVoice (hchime : e.phase ≠ .chime) (v : Source) : Stands e r (takeVoice s v) := by
  have hkept := announcementsHold_takeVoice h.hold v
  by_cases hv : v = e.source
  · cases hdue : (s.voice v).due with
    | false => rwa [takeVoice_of_not_due hdue]
    | true =>
      cases hq : (s.voice v).playing with
      | none =>
        rw [takeVoice_of_idle hdue hq] at hkept ⊢
        exact ⟨hkept, h.entry, h.recorded⟩
      | some q =>
        obtain ⟨x, hx, -, hxv, hxphase⟩ := h.hold.voices v q hq
        have hsame := (announcementsHold_iff.1 h.hold).1.entries.eq_of_source h.entry hx hphase
          (by rw [hxphase]; exact nofun) (hxv.trans hv)
        rw [hsame] at hxphase
        exact absurd hxphase hchime
  · exact h.beside (beside_takeVoice h.hold h.entry hv) hkept

end

/-! ## A waiting entry behind an active one that stays -/

/-- Before its turn at a block start or after it, the entry does not leave the table in it. -/
def Lasting (a : Entry) : Prop := (a.phase ≠ .tail → 1 ≤ a.params.tail) ∧ (a.phase = .tail → a.due = true → 1 ≤ a.timer)

/-- The entry's next advances do not take it out of the table. -/
def StaysOn (a : Entry) : Prop := (a.phase ≠ .tail → 1 ≤ a.params.tail) ∧ (a.phase = .tail → 1 ≤ a.timer)

theorem StaysOn.lasting {a : Entry} (h : StaysOn a) : Lasting a := ⟨h.1, fun htail _ => h.2 htail⟩

/-- The table with a lasting active entry in one's place. -/
def LeavesLasting (s : State) (x : Entry) (t : State) : Prop :=
  ∃ a, t.ann.entries = (replaced s x a).ann.entries ∧ a.handle = x.handle ∧ activeRecorded a = true ∧ Lasting a

theorem afterLiveAdvance_keys (blocks : List RecordedBlock) (y : Entry) :
    (afterLiveAdvance blocks y).handle = y.handle ∧ (afterLiveAdvance blocks y).source = y.source ∧
      (afterLiveAdvance blocks y).params = y.params ∧ (afterLiveAdvance blocks y).phase = .live := by
  unfold afterLiveAdvance
  dsimp only
  split
  · exact ⟨rfl, rfl, rfl, rfl⟩
  · exact ⟨rfl, rfl, rfl, rfl⟩
  · exact ⟨rfl, rfl, rfl, rfl⟩

section
variable {s : State} {x y : Entry} (hx : x ∈ s.ann.entries) (hy : y.handle = x.handle) (hsource : y.source = .r)
include hx hy hsource

theorem leavesLasting_enterTail (n : Nat) (htail : 1 ≤ y.params.tail) (why : EndReason) {u : State}
    (hu : u.ann.entries = s.ann.entries) : LeavesLasting s x (takeAdvance n x.handle (enterTail x.handle why (replaced u x y))) := by
  have hux : x ∈ u.ann.entries := by rw [hu]; exact hx
  have hentries : ∀ z, (replaced (quieted u y) x z).ann.entries = (replaced s x z).ann.entries := fun z =>
    congrArg (List.map fun w : Entry => if w.handle = x.handle then z else w) hu
  cases n with
  | zero =>
    refine ⟨tailed why y, ?_, hy, activeRecorded_iff.2 ⟨hsource, nofun⟩, fun hne => absurd rfl hne, fun _ _ => htail⟩
    rw [← hentries, ← enterTail_replaced hux hy]
    rfl
  | succ n =>
    refine ⟨ticked (begun .tail (tailed why y)), ?_, hy, activeRecorded_iff.2 ⟨hsource, nofun⟩, fun hne => absurd rfl hne,
      fun _ hdue => Bool.noConfusion hdue⟩
    rw [← hentries, takeAdvance_of_tail_ticks hux hy n htail]

theorem leavesLasting_live (n : Nat) (htail : 1 ≤ y.params.tail) (hphase : y.phase = .live) :
    LeavesLasting s x (takeAdvance n x.handle (replaced s x y)) := by
  have hne : ∀ z : Entry, z.phase = .live → z.params = y.params → Lasting z := fun z hz hp =>
    ⟨fun _ => by rw [hp]; exact htail, fun ht => by rw [hz] at ht; cases ht⟩
  cases n with
  | zero => exact ⟨y, rfl, hy, activeRecorded_iff.2 ⟨hsource, by rw [hphase]; exact nofun⟩, hne y hphase rfl⟩
  | succ n =>
    cases hmax : atMaximumLive y with
    | true =>
      rw [takeAdvance_live_full hx hy n hphase hmax]
      exact leavesLasting_enterTail (y := { begun .live y with recorded := none }) hx hy hsource n htail _ rfl
    | false =>
      by_cases hstays : StaysLive s y
      · rw [takeAdvance_live_stays hx hy n hphase hstays]
        obtain ⟨hhandle, hsame, hparams, hlive⟩ := afterLiveAdvance_keys s.media.recorded.blocks y
        exact ⟨afterLiveAdvance s.media.recorded.blocks y, rfl, hhandle.trans hy,
          activeRecorded_iff.2 ⟨hsame.trans hsource, by rw [hlive]; exact nofun⟩, hne _ hlive hparams⟩
      · have hlasts : y.params.maxLive = 0 ∨ y.liveCount ≠ y.params.maxLive := by
          rw [or_iff_not_imp_left]
          intro h0 heq
          rw [atMaximumLive_iff.2 ⟨h0, heq⟩] at hmax
          cases hmax
        cases hblocks : s.media.recorded.blocks with
        | nil =>
          have hlimit : 499 ≤ y.starvation := Nat.not_lt.1 fun hlt => hstays ⟨hlasts, fun _ => by rw [hblocks]; exact hlt⟩
          rw [takeAdvance_live_starves hx hy n hphase hmax hsource hblocks hlimit]
          exact leavesLasting_enterTail (y := starving (begun .live y)) hx hy hsource n htail _ rfl
        | cons b rest =>
          have hmarker : b.endMarker = true := by
            rw [← Bool.not_eq_false]
            exact fun hclear => hstays ⟨hlasts, fun _ => by rw [hblocks]; exact hclear⟩
          rw [takeAdvance_live_marked hx hy n hphase hmax hsource hblocks hmarker]
          exact leavesLasting_enterTail (y := passing b (begun .live y)) hx hy hsource n htail _ rfl

theorem leavesLasting_takeAdvance (n : Nat) (hqueued : y.phase ≠ .queued) (hstays : StaysOn y) :
    LeavesLasting s x (takeAdvance n x.handle (replaced s x y)) := by
  have hactive : ∀ z : Entry, z.source = y.source → z.phase ≠ .queued → activeRecorded z = true := fun z hz hp =>
    activeRecorded_iff.2 ⟨hz.trans hsource, hp⟩
  obtain ⟨htail, htimer⟩ := hstays
  cases n with
  | zero => exact ⟨y, rfl, hy, hactive y rfl hqueued, StaysOn.lasting ⟨htail, htimer⟩⟩
  | succ n =>
    cases hphase : y.phase with
    | queued => exact absurd hphase hqueued
    | lead =>
      have htail := htail (by rw [hphase]; exact nofun)
      have hlead : ∀ z : Entry, z.phase ≠ .tail → z.params = y.params → Lasting z := fun z hz hp =>
        ⟨fun _ => by rw [hp]; exact htail, fun ht => absurd ht hz⟩
      by_cases hzero : y.timer = 0
      · cases hchime : y.params.chime with
        | none =>
          rw [takeAdvance_lead_silent hx hy n hphase hzero hchime]
          exact leavesLasting_live (y := { begun .lead y with phase := .live }) hx hy hsource n htail rfl
        | some p =>
          rw [takeAdvance_lead_chimes hx hy n hphase hzero hchime]
          exact ⟨chiming (begun .lead y), by simp, hy, hactive _ rfl nofun, hlead _ nofun rfl⟩
      · rw [takeAdvance_lead_ticks hx hy n hphase hzero]
        have hstill : (ticked (begun .lead y)).phase = .lead := hphase
        exact ⟨ticked (begun .lead y), rfl, hy, hactive _ rfl (by rw [hstill]; exact nofun), hlead _ (by rw [hstill]; exact nofun) rfl⟩
    | chime =>
      rw [takeAdvance_chime hx hy n hphase]
      have hstill : (begun .chime y).phase = .chime := hphase
      exact ⟨begun .chime y, rfl, hy, hactive _ rfl (by rw [hstill]; exact nofun),
        fun _ => htail (by rw [hphase]; exact nofun), fun ht => by rw [hstill] at ht; cases ht⟩
    | live => exact leavesLasting_live hx hy hsource (n + 1) (htail (by rw [hphase]; exact nofun)) hphase
    | tail =>
      rw [takeAdvance_tail_ticks hx hy n hphase (Nat.ne_of_gt (htimer hphase))]
      have hstill : (ticked (begun .tail y)).phase = .tail := hphase
      exact ⟨ticked (begun .tail y), rfl, hy, hactive _ rfl (by rw [hstill]; exact nofun), fun hne => absurd hstill hne,
        fun _ hdue => Bool.noConfusion hdue⟩

end

/-- The entry waits behind an active one that does not leave at this block start. -/
structure Waits (e : Entry) (s : State) : Prop where
  hold : AnnouncementsHold s
  entry : e ∈ s.ann.entries
  active : ∃ a ∈ s.ann.entries, activeRecorded a = true ∧ Lasting a

section
variable {e : Entry} {s : State} (h : Waits e s) (hphase : e.phase = .queued)
include h hphase

/-- The active entry has taken its turn. -/
theorem Waits.leavesLasting {a : Entry} (hactive : activeRecorded a = true) (ha : a ∈ s.ann.entries) {t : State}
    (ht : AnnouncementsHold t) (hlasting : LeavesLasting s a t) : Waits e t := by
  obtain ⟨b, hentries, hb, hbactive, hblasts⟩ := hlasting
  have hne : e.handle ≠ a.handle := fun heq => by
    rw [← (announcementsHold_iff.1 h.hold).1.entries.eq_of_handle ha h.entry heq, ] at hactive
    exact (activeRecorded_iff.1 hactive).2 hphase
  refine ⟨ht, ?_, b, ?_, hbactive, hblasts⟩
  · rw [hentries]
    exact List.mem_map.2 ⟨e, h.entry, if_neg hne⟩
  · rw [hentries]
    exact List.mem_map.2 ⟨a, ha, if_pos rfl⟩

theorem waits_advanceIfDue {k : Byte} (hk : k ≠ e.handle) : Waits e (advanceIfDue s k) := by
  obtain ⟨a, ha, hactive, hlasting⟩ := h.active
  obtain ⟨hsource, hqueued⟩ := activeRecorded_iff.1 hactive
  have hnext := announcementsHold_advanceIfDue h.hold k
  by_cases hka : k = a.handle
  · subst hka
    cases hdue : a.due with
    | true =>
      refine h.leavesLasting hphase hactive ha hnext ?_
      rw [advanceIfDue_of_due h.hold ha hdue]
      exact leavesLasting_takeAdvance ha rfl hsource _ hqueued ⟨hlasting.1, fun ht => hlasting.2 ht hdue⟩
    | false =>
      have hsame : advanceIfDue s a.handle = s := by
        unfold advanceIfDue
        rw [entry?_of_mem h.hold ha]
        exact if_neg (by simp [hdue])
      rwa [hsame]
  · have hother := other_of_active h.hold ha hqueued hka
    have hrecorded : e.source = a.source := (h.hold.queuedRecorded e h.entry hphase).trans hsource.symm
    have hbeside := beside_advanceIfDue h.hold h.entry hk fun x hx => (hother x hx).imp_left fun hne => by rw [hrecorded]; exact hne
    exact ⟨hnext, hbeside.entry h.entry, a, (beside_advanceIfDue h.hold ha hka hother).entry ha, hactive, hlasting⟩

theorem waits_takeVoice (v : Source) : Waits e (takeVoice s v) := by
  obtain ⟨a, ha, hactive, hlasting⟩ := h.active
  obtain ⟨hsource, hqueued⟩ := activeRecorded_iff.1 hactive
  have hnext := announcementsHold_takeVoice h.hold v
  by_cases hv : v = .r
  · have hkeeps : (takeVoice s v).ann = s.ann → Waits e (takeVoice s v) := fun hann =>
      ⟨hnext, by rw [hann]; exact h.entry, a, by rw [hann]; exact ha, hactive, hlasting⟩
    cases hdue : (s.voice v).due with
    | false => exact hkeeps (by rw [takeVoice_of_not_due hdue])
    | true =>
      cases hq : (s.voice v).playing with
      | none => exact hkeeps (by rw [takeVoice_of_idle hdue hq]; rfl)
      | some q =>
        by_cases hend : voiceMove (s.chimes.patterns.get q.pattern) q = .chimeEnd
        · refine h.leavesLasting hphase hactive ha hnext ?_
          obtain ⟨hidle, -⟩ := tableHolds_idle h.hold hq
          obtain ⟨x, hx, hxq, hxv, hxphase⟩ := h.hold.voices v q hq
          have hxa : x = a := (announcementsHold_iff.1 h.hold).1.entries.eq_of_source ha hx hqueued (by rw [hxphase]; exact nofun)
            (hxv.trans (hv.trans hsource.symm))
          subst hxa
          have htail := hlasting.1 (by rw [hxphase]; exact nofun)
          rw [takeVoice_of_end hdue hq rfl hend, ← hxq]
          have hi : x ∈ (s.modVoice v fun _ => idleVoice).ann.entries := ha
          have hfound := entry?_of_table hidle hi
          cases hearly : x.earlyRelease with
          | true =>
            rw [chimeEndReaches_early hfound hxphase hearly]
            have hlast := leavesLasting_enterTail ha rfl hsource (advanceFuel (s.modVoice v fun _ => idleVoice)) htail .short
              (u := s.modVoice v fun _ => idleVoice) rfl
            rwa [replaced_self hidle hi] at hlast
          | false =>
            rw [chimeEndReaches_live hfound hxphase hearly, modEntry_eq_replaced hidle hi]
            exact leavesLasting_live (s := s.modVoice v fun _ => idleVoice) (y := { x with phase := .live }) hi rfl hsource _ htail rfl
        · exact hkeeps (by rw [takeVoice_of_move hdue hq rfl hend]; rfl)
  · have hrecorded := h.hold.queuedRecorded e h.entry hphase
    exact ⟨hnext, (beside_takeVoice h.hold h.entry (by rw [hrecorded]; exact hv)).entry h.entry, a,
      (beside_takeVoice h.hold ha (by rw [hsource]; exact hv)).entry ha, hactive, hlasting⟩

end

/-! ## Turns in order -/

/-- In turns of which one is its own: what holds before it, what it makes of that, and what holds after it. -/
theorem forEach_turn_of_mem {α : Type} {f : State → α → State} {P Q : State → Prop} {xs : List α} (hnodup : xs.Nodup) {a : α}
    (ha : a ∈ xs) (hbefore : ∀ t x, x ≠ a → P t → P (f t x)) (hown : ∀ t, P t → Q (f t a))
    (hafter : ∀ t x, x ≠ a → Q t → Q (f t x)) {s : State} (hs : P s) : Q (forEach xs f s) := by
  induction xs generalizing s with
  | nil => cases ha
  | cons x xs ih =>
    obtain ⟨hx, hnodup⟩ := List.nodup_cons.1 hnodup
    by_cases hxa : x = a
    · subst hxa
      exact forEach_invariant Q xs (fun t y hy ht => hafter t y (fun heq => hx (heq ▸ hy)) ht) (hown s hs)
    · exact ih hnodup ((List.mem_cons.1 ha).resolve_left (Ne.symm hxa)) (hbefore s x hxa hs)

end Sys2Proof.Machine
end

section
/-! PROOFS. The rest of a block start around the turns: what opens it and the mixes change no more of an entry than who hears
it (R131). -/

namespace Sys2Proof.Machine

/-! ## Audiences alone -/

theorem SameButAudience.refl (e : Entry) : SameButAudience e e := rfl

theorem SameButAudience.trans {e f g : Entry} (h : SameButAudience e f) (k : SameButAudience f g) : SameButAudience e g := by
  unfold SameButAudience at *
  rw [k, h]

/-- Between `s` and `t` entries change no more than their audiences, and buffer and voices nothing. -/
structure Heard (s t : State) : Prop where
  entries : ∃ g : Entry → Entry, (∀ e, SameButAudience e (g e)) ∧ t.ann.entries = s.ann.entries.map g
  recorded : t.media.recorded = s.media.recorded
  chimes : t.chimes = s.chimes

theorem Heard.of_same {s t : State} (hann : t.ann = s.ann) (hrecorded : t.media.recorded = s.media.recorded)
    (hchimes : t.chimes = s.chimes) : Heard s t :=
  ⟨⟨id, fun e => .refl e, by rw [hann, List.map_id]⟩, hrecorded, hchimes⟩

theorem Heard.trans {s t u : State} (h : Heard s t) (k : Heard t u) : Heard s u := by
  obtain ⟨⟨f, hf, hfs⟩, hrecorded, hchimes⟩ := h
  obtain ⟨⟨g, hg, hgs⟩, krecorded, kchimes⟩ := k
  exact ⟨⟨g ∘ f, fun e => (hf e).trans (hg _), by rw [hgs, hfs, List.map_map]⟩, krecorded.trans hrecorded, kchimes.trans hchimes⟩

theorem Heard.forEach {α : Type} {f : State → α → State} (hf : ∀ t x, Heard t (f t x)) (xs : List α) (s : State) :
    Heard s (forEach xs f s) :=
  forEach_invariant (Heard s) xs (fun t x _ ht => ht.trans (hf t x)) (.of_same rfl rfl rfl)

theorem Heard.mem {s t : State} (h : Heard s t) {e : Entry} (he : e ∈ s.ann.entries) :
    ∃ f ∈ t.ann.entries, SameButAudience e f := by
  obtain ⟨g, hg, hgs⟩ := h.entries
  exact ⟨g e, by rw [hgs]; exact List.mem_map_of_mem he, hg e⟩

theorem sameButAudience_heardLess (k : Byte) (e : Entry) : SameButAudience e (heardLess k e) := by
  unfold heardLess
  split <;> rfl

theorem sameButAudience_heardMore (k : Byte) (e : Entry) : SameButAudience e (heardMore k e) := by
  unfold heardMore
  split <;> rfl

theorem sameButAudience_unheard (o : Option Byte) (e : Entry) : SameButAudience e (unheard o e) := by
  cases o with
  | none => rfl
  | some k => exact sameButAudience_heardLess k e

theorem heard_notify (v : Presence) (b : BerthNo) (s : State) : Heard s (notify v b s) := by
  by_cases hchanged : s.presence b = v
  · have hsame : notify v b s = s := if_pos hchanged
    rw [hsame]
    exact .of_same rfl rfl rfl
  · refine ⟨?_, by simp, by simp⟩
    rw [ann_notify hchanged]
    split
    · rw [unheardAnn_eq]
      exact ⟨_, sameButAudience_unheard _, rfl⟩
    · exact ⟨id, fun e => .refl e, (List.map_id _).symm⟩

theorem heard_completeSilent (l : LineNo) (s : State) : Heard s (completeSlot l .silent s) := by
  have hlost : ∀ b t, Heard t (applyOutcome b .silent t) := fun b t => by
    show Heard t (applyLost .silent b t)
    have hlink : ∀ f, Heard t (t.modLinkOf b f) := fun _ => .of_same rfl rfl rfl
    unfold applyLost
    dsimp only
    split
    · exact (hlink _).trans (heard_notify .absent b _)
    · exact hlink _
  unfold completeSlot
  dsimp only
  split
  · have hline : ∀ f, Heard s (s.modLine l f) := fun _ => .of_same rfl rfl rfl
    split
    · exact (hline _).trans (hlost _ _)
    · exact hline _
  · exact .of_same rfl rfl rfl

theorem heard_completeOpenSlots (s : State) : Heard s (completeOpenSlots s) := Heard.forEach (fun t l => heard_completeSilent l t) _ s

theorem heard_evaluateFloor (b : BerthNo) (s : State) : Heard s (evaluateFloor b s) := by
  have hmix : ∀ f, Heard s (s.modMix b f) := fun _ => .of_same rfl rfl rfl
  unfold evaluateFloor
  split
  next e _ =>
    split
    · exact hmix _
    · refine ⟨⟨_, fun x => ?_, congrArg Announcer.entries (ann_changeFloor b e s)⟩, by simp, by simp⟩
      exact (sameButAudience_unheard _ x).trans (sameButAudience_heardMore _ _)
  · split
    · exact .of_same rfl rfl rfl
    next e _ =>
      split
      · exact hmix _
      · exact ⟨⟨heardLess e.handle, sameButAudience_heardLess e.handle, rfl⟩, rfl, rfl⟩

theorem heard_mixBerth (micD micC : Block) (b : BerthNo) (s : State) : Heard s (mixBerth micD micC s b) := by
  unfold mixBerth
  split
  · have hevaluated := heard_evaluateFloor b s
    dsimp only
    generalize evaluateFloor b s = t at hevaluated ⊢
    split
    · exact hevaluated.trans (.of_same rfl rfl rfl)
    · exact hevaluated.trans (.of_same rfl rfl rfl)
  · exact .of_same rfl rfl rfl

theorem heard_takeBerths (micD micC : Block) (first : List BerthNo) (s : State) : Heard s (takeBerths micD micC first s) :=
  Heard.forEach (fun t b => heard_mixBerth micD micC b t) _ s

/-! ## Before the turns of voices and entries -/

/-- A block start with its voices and entries still to come. -/
def beforeTurns (s : State) : State := takeTracks (takeAge (takeCommit (openBoundary s)))

section
variable {s : State}

theorem announcementsHold_beforeTurns (h : AnnouncementsHold s) : AnnouncementsHold (beforeTurns s) := by
  have keeps := commandsKeep_announcementsHold
  refine forEach_invariant AnnouncementsHold _ (fun t x _ ht => ?_) (keeps.takeAge_keeps (keeps.takeCommit_keeps (keeps.openBoundary_keeps h)))
  unfold takeTrackIfDue
  split
  · exact announcementsHold_takeTrack ht _ _
  · exact ht

theorem announcementsHold_afterAdvances (h : AnnouncementsHold s) : AnnouncementsHold (afterAdvances s) := by
  have hvoices : AnnouncementsHold (takeVoices (beforeTurns s)) :=
    forEach_invariant AnnouncementsHold _ (fun t v _ ht => announcementsHold_takeVoice ht v) (announcementsHold_beforeTurns h)
  exact forEach_invariant AnnouncementsHold _ (fun t k _ ht => announcementsHold_advanceIfDue ht k) hvoices

variable (hclosed : s.boundary.opened = false)
include hclosed

theorem entries_beforeTurns : ∃ g : Entry → Entry, (∀ e, SameButAudience e (g e)) ∧
    (beforeTurns s).ann.entries = s.ann.entries.map (dueEntry ∘ g) := by
  obtain ⟨g, hg, hgs⟩ := (heard_completeOpenSlots s).entries
  have hann : (beforeTurns s).ann = (beginBlock (completeOpenSlots s)).ann := by
    rw [beforeTurns, openBoundary_of_closed hclosed]
    simp
  refine ⟨g, hg, ?_⟩
  rw [hann, ← List.map_map, ← hgs]
  rfl

theorem recorded_beforeTurns : (beforeTurns s).media.recorded = s.media.recorded := by
  have hage : (takeAge (takeCommit (openBoundary s))).media = (openBoundary s).media := by simp
  rw [beforeTurns, (mediaRest_takeTracks _).1, hage, openBoundary_of_closed hclosed]
  exact (heard_completeOpenSlots s).recorded

theorem voice_beforeTurns (v : Source) : (beforeTurns s).voice v = dueVoice (s.voice v) ∧
    (beforeTurns s).chimes.patterns = s.chimes.patterns := by
  have hchimes : (beforeTurns s).chimes = (beginBlock (completeOpenSlots s)).chimes := by
    rw [beforeTurns, openBoundary_of_closed hclosed]
    simp
  have hopened := (heard_completeOpenSlots s).chimes
  refine ⟨?_, ?_⟩
  · cases v <;> simp only [State.voice, hchimes, beginBlock, hopened]
  · rw [hchimes]
    show (completeOpenSlots s).chimes.patterns = _
    rw [hopened]

/-- Each entry is due its turn, as it stands but for who hears it. -/
theorem mem_beforeTurns {e : Entry} (he : e ∈ s.ann.entries) : ∃ f ∈ (beforeTurns s).ann.entries, SameButAudience (dueEntry e) f := by
  obtain ⟨g, hg, hgs⟩ := entries_beforeTurns hclosed
  refine ⟨dueEntry (g e), by rw [hgs]; exact List.mem_map_of_mem he, ?_⟩
  rw [hg e]
  rfl

theorem of_mem_beforeTurns {f : Entry} (hf : f ∈ (beforeTurns s).ann.entries) : ∃ e ∈ s.ann.entries, SameButAudience (dueEntry e) f := by
  obtain ⟨g, hg, hgs⟩ := entries_beforeTurns hclosed
  rw [hgs] at hf
  obtain ⟨e, he, rfl⟩ := List.mem_map.1 hf
  refine ⟨e, he, ?_⟩
  rw [Function.comp_apply, hg e]
  rfl

end

/-! ## From the turns to the end of the block start -/

/-- One entry's own turn, with the voices' and the other entries' turns before it and after it. -/
theorem afterAdvances_of_turns {P Q : State → Prop} {k : Byte} {s : State} (hs : P (beforeTurns s))
    (hvoice : ∀ t v, P t → P (takeVoice t v)) (hmem : ∀ t, P t → AnnouncementsHold t ∧ ∃ e ∈ t.ann.entries, e.handle = k)
    (hbefore : ∀ t x, x ≠ k → P t → P (advanceIfDue t x)) (hown : ∀ t, P t → Q (advanceIfDue t k))
    (hafter : ∀ t x, x ≠ k → Q t → Q (advanceIfDue t x)) : Q (afterAdvances s) := by
  have hvoices : P (takeVoices (beforeTurns s)) := forEach_invariant P _ (fun t v _ ht => hvoice t v ht) hs
  have hturns : afterAdvances s = takeEntries (takeVoices (beforeTurns s)) := rfl
  rw [hturns]
  generalize takeVoices (beforeTurns s) = u at hvoices
  obtain ⟨hold, e, he, hek⟩ := hmem u hvoices
  exact forEach_turn_of_mem hold.handles.1 (List.mem_map.2 ⟨e, he, hek⟩) hbefore hown hafter hvoices

/-- The part when a block start is over. -/
def afterBlockStart (micD micC : Block) (first : List BerthNo) (s : State) : State :=
  closeBoundary (takeFrames (afterMixes micD micC first s))

theorem heard_afterBlockStart (micD micC : Block) (first : List BerthNo) (s : State) :
    Heard (afterAdvances s) (afterBlockStart micD micC first s) := by
  have hmixes := heard_takeBerths micD micC first (afterAdvances s)
  unfold afterBlockStart afterMixes
  generalize takeBerths micD micC first (afterAdvances s) = t at hmixes ⊢
  exact hmixes.trans (.of_same (by simp) (by simp) (by simp))

/-- An active entry with no voice: what its own turn makes of it and of its buffer is what the block start leaves. -/
theorem afterBlockStart_of_own (micD micC : Block) (first : List BerthNo) {s : State} (hclosed : s.boundary.opened = false)
    (h : AnnouncementsHold s) {e : Entry} (he : e ∈ s.ann.entries) (hqueued : e.phase ≠ .queued) (hchime : e.phase ≠ .chime)
    {f : Entry} {r : RecordedBuffer} (hf : f.handle = e.handle ∧ f.source = e.source ∧ f.phase ≠ .queued)
    (hown : ∀ t x, SameButAudience (dueEntry e) x → Stands x s.media.recorded t →
      ∃ y, SameButAudience f y ∧ y ∈ (advanceIfDue t e.handle).ann.entries ∧
        (e.source = .r → (advanceIfDue t e.handle).media.recorded = r)) :
    (∃ y ∈ (afterBlockStart micD micC first s).ann.entries, SameButAudience f y) ∧
      (e.source = .r → (afterBlockStart micD micC first s).media.recorded = r) := by
  obtain ⟨hhandle, hsource, hphase⟩ := hf
  obtain ⟨x, hx, hex⟩ := mem_beforeTurns hclosed he
  have hxkeys : x.handle = e.handle ∧ x.source = e.source ∧ x.phase = e.phase := by
    rw [hex]
    exact ⟨rfl, rfl, rfl⟩
  obtain ⟨hxh, hxs, hxp⟩ := hxkeys
  have hstands : Stands x s.media.recorded (beforeTurns s) :=
    ⟨announcementsHold_beforeTurns h, hx, fun _ => recorded_beforeTurns hclosed⟩
  have hafter : ∃ y, SameButAudience f y ∧ Stands y r (afterAdvances s) := by
    refine afterAdvances_of_turns (P := Stands x s.media.recorded) (Q := fun t => ∃ y, SameButAudience f y ∧ Stands y r t)
      (k := e.handle) hstands (fun t v ht => stands_takeVoice ht (by rwa [hxp]) (by rwa [hxp]) v)
      (fun t ht => ⟨ht.hold, x, ht.entry, hxh⟩) (fun t k hk ht => stands_advanceIfDue ht (by rwa [hxp]) (by rwa [hxh]))
      (fun t ht => ?_) (fun t k hk ⟨y, hfy, ht⟩ => ⟨y, hfy, stands_advanceIfDue ht ?_ ?_⟩)
    · obtain ⟨y, hfy, hy, hr⟩ := hown t x hex ht
      refine ⟨y, hfy, announcementsHold_advanceIfDue ht.hold _, hy, fun hyr => hr ?_⟩
      rw [← hsource, ← hyr, hfy]
    · rw [hfy]
      exact hphase
    · rw [hfy]
      show k ≠ f.handle
      rwa [hhandle]
  obtain ⟨y, hfy, hy⟩ := hafter
  have hheard := heard_afterBlockStart micD micC first s
  obtain ⟨z, hz, hyz⟩ := hheard.mem hy.entry
  refine ⟨⟨z, hz, hfy.trans hyz⟩, fun hr => hheard.recorded.trans (hy.recorded ?_)⟩
  rw [hfy]
  exact hsource.trans hr

end Sys2Proof.Machine
end

section
/-! PROOFS. What a block start makes of an entry in each phase, and of a voice. -/

namespace Sys2Proof.Machine

/-! ## Entries of which the turn only counts a block -/

theorem mem_replaced {s : State} {e x : Entry} (he : e ∈ s.ann.entries) (hx : x.handle = e.handle) :
    x ∈ (replaced s e x).ann.entries := State.entry?_mem _ (entry?_replaced he hx)

/-- The own turn of a due entry that stands so. -/
theorem advanceIfDue_of_stands {e x : Entry} {r : RecordedBuffer} {t : State} (hex : SameButAudience (dueEntry e) x)
    (ht : Stands x r t) : advanceIfDue t e.handle = takeAdvance (spareFuel t + 3) x.handle (replaced t x x) := by
  have hh : x.handle = e.handle := by rw [hex]; rfl
  have hdue : x.due = true := by rw [hex]; rfl
  rw [← hh]
  exact advanceIfDue_of_due ht.hold ht.entry hdue

section
variable (micD micC : Block) (first : List BerthNo) {s : State} (hclosed : s.boundary.opened = false) (h : AnnouncementsHold s)
  {e : Entry} (he : e ∈ s.ann.entries)
include hclosed h he

theorem afterBlockStart_lead (hphase : e.phase = .lead) (htimer : 1 ≤ e.timer) :
    ∃ f ∈ (afterBlockStart micD micC first s).ann.entries, SameButAudience
      { e with timer := e.timer - 1, recorded := none, blockPhase := some .lead, due := false } f := by
  refine (afterBlockStart_of_own micD micC first hclosed h he (by rw [hphase]; exact nofun) (by rw [hphase]; exact nofun)
    (f := ticked (begun .lead (dueEntry e))) (r := s.media.recorded) ⟨rfl, rfl, ?_⟩ fun t x hex ht => ?_).1
  · show e.phase ≠ .queued
    rw [hphase]
    exact nofun
  · have hxphase : x.phase = .lead := by rw [hex]; exact hphase
    have hxtimer : x.timer ≠ 0 := by rw [hex]; exact Nat.ne_of_gt htimer
    have hsource : x.source = e.source := by rw [hex]; rfl
    rw [advanceIfDue_of_stands hex ht, takeAdvance_lead_ticks ht.entry rfl _ hxphase hxtimer]
    refine ⟨ticked (begun .lead x), ?_, mem_replaced ht.entry rfl, fun hr => ht.recorded (hsource.trans hr)⟩
    rw [hex]
    rfl

theorem afterBlockStart_tail (hphase : e.phase = .tail) (htimer : 1 ≤ e.timer) :
    ∃ f ∈ (afterBlockStart micD micC first s).ann.entries, SameButAudience
      { e with timer := e.timer - 1, recorded := none, blockPhase := some .tail, due := false } f := by
  refine (afterBlockStart_of_own micD micC first hclosed h he (by rw [hphase]; exact nofun) (by rw [hphase]; exact nofun)
    (f := ticked (begun .tail (dueEntry e))) (r := s.media.recorded) ⟨rfl, rfl, ?_⟩ fun t x hex ht => ?_).1
  · show e.phase ≠ .queued
    rw [hphase]
    exact nofun
  · have hxphase : x.phase = .tail := by rw [hex]; exact hphase
    have hxtimer : x.timer ≠ 0 := by rw [hex]; exact Nat.ne_of_gt htimer
    have hsource : x.source = e.source := by rw [hex]; rfl
    rw [advanceIfDue_of_stands hex ht, takeAdvance_tail_ticks ht.entry rfl _ hxphase hxtimer]
    refine ⟨ticked (begun .tail x), ?_, mem_replaced ht.entry rfl, fun hr => ht.recorded (hsource.trans hr)⟩
    rw [hex]
    rfl

/-! ## A waiting entry -/

/-- What a block start makes of an entry that goes on waiting. -/
def waited (e : Entry) : Entry :=
  { e with timer := if e.deadline = 0 then e.timer else e.timer - 1, recorded := none, blockPhase := some .queued, due := false }

theorem waits_beforeTurns (hphase : e.phase = .queued) (hactive : ActiveStays s) {x : Entry} (hx : x ∈ (beforeTurns s).ann.entries) :
    Waits x (beforeTurns s) := by
  have hqueue : s.ann.queue ≠ [] := List.ne_nil_of_mem ((h.queueRight e.handle).2 ⟨e, he, rfl, hphase⟩)
  obtain ⟨a, ha, haactive⟩ := h.queueBusy hqueue
  obtain ⟨y, hy, hay⟩ := mem_beforeTurns hclosed ha
  obtain ⟨htimer, htail⟩ := hactive a ha haactive
  refine ⟨announcementsHold_beforeTurns h, hx, y, hy, ?_, StaysOn.lasting ⟨?_, ?_⟩⟩
  · rw [hay]
    exact haactive
  · rw [hay]
    exact htail
  · rw [hay]
    exact htimer

theorem afterBlockStart_queued (hphase : e.phase = .queued) (hleft : e.deadline = 0 ∨ 2 ≤ e.timer) (hactive : ActiveStays s) :
    ∃ f ∈ (afterBlockStart micD micC first s).ann.entries, SameButAudience (waited e) f := by
  obtain ⟨x, hx, hex⟩ := mem_beforeTurns hclosed he
  have hxh : x.handle = e.handle := by rw [hex]; rfl
  have hxphase : x.phase = .queued := by rw [hex]; exact hphase
  have hxdue : x.due = true := by rw [hex]; rfl
  have hwaited : SameButAudience (waited e) (waited x) := by rw [hex]; rfl
  have hafter : Waits (waited x) (afterAdvances s) := by
    refine afterAdvances_of_turns (P := Waits x) (k := e.handle) (waits_beforeTurns hclosed h he hphase hactive hx)
      (fun t v ht => waits_takeVoice ht hxphase v) (fun t ht => ⟨ht.hold, x, ht.entry, hxh⟩)
      (fun t k hk ht => waits_advanceIfDue ht hxphase (by rwa [hxh])) (fun t ht => ?_)
      (fun t k hk ht => waits_advanceIfDue ht hxphase (by show k ≠ x.handle; rwa [hxh]))
    have hkept := announcementsHold_advanceIfDue ht.hold e.handle
    have hturn : advanceIfDue t e.handle = replaced t x (waited x) := by
      rw [← hxh, advanceIfDue_of_due ht.hold ht.entry hxdue]
      have hnone : x.recorded = none := by rw [hex]; rfl
      by_cases hdeadline : x.deadline = 0
      · rw [takeAdvance_queued_unlimited ht.entry rfl _ hxphase hdeadline]
        simp only [waited, begun, if_pos hdeadline, ← hnone]
      · have htimer : 2 ≤ x.timer := by
          rw [hex] at hdeadline ⊢
          exact hleft.resolve_left hdeadline
        rw [takeAdvance_queued_ticks ht.entry rfl _ hxphase hdeadline htimer]
        simp only [waited, begun, ticked, if_neg hdeadline, ← hnone]
    rw [hturn] at hkept ⊢
    obtain ⟨a, ha, haactive, hlasting⟩ := ht.active
    have hne : a.handle ≠ x.handle := fun heq => by
      rw [(announcementsHold_iff.1 ht.hold).1.entries.eq_of_handle ht.entry ha heq] at haactive
      exact (activeRecorded_iff.1 haactive).2 hxphase
    exact ⟨hkept, mem_replaced ht.entry rfl, a, List.mem_map.2 ⟨a, ha, if_neg hne⟩, haactive, hlasting⟩
  obtain ⟨z, hz, hyz⟩ := (heard_afterBlockStart micD micC first s).mem hafter.entry
  exact ⟨z, hz, hwaited.trans hyz⟩

end

/-- Settles O43: each waiting entry and each tail has one turn at a block start, in which its time runs out or down. -/
theorem deadlineExpiryAndTailEnd : Obligations.DeadlineExpiryAndTailEnd := by
  refine ⟨fun s h hup hold => ⟨exec_queueDeadlineExpiry_idle hup h, exec_tailEnd_idle hup h, fun e he hh hdue => ⟨?_, ?_, ?_⟩⟩,
    fun s micD micC first hup hclosed hold => ⟨_, exec_blockStart hup micD micC first, fun e he => ⟨?_, ?_⟩⟩⟩
  · exact exec_queueDeadlineExpiry_of_due hup h hold he hh hdue
  · exact exec_tailEnd_leaves hup h hold he hh hdue
  · exact fun g rest hphase htimer hsource hqueue => exec_tailEnd_hands hup h hold he hh hdue hphase htimer hsource hqueue
  · exact afterBlockStart_queued micD micC first hclosed hold he
  · exact afterBlockStart_tail micD micC first hclosed hold he

/-- Settles O44: a LEAD that has run out ends in CHIME or in LIVE at its turn, and one with time left counts down. -/
theorem leadEndStartsChimeOrLive : Obligations.LeadEndStartsChimeOrLive := by
  refine ⟨fun s h hup hold => ⟨exec_leadEnd_idle hup h, fun e he hh hdue hphase htimer => ⟨?_, ?_⟩⟩,
    fun s micD micC first hup hclosed hold => ⟨_, exec_blockStart hup micD micC first, fun e he => ?_⟩⟩
  · exact fun p n rest hchime hnotes => exec_leadEnd_chimes hup h hold he hh hdue hphase htimer hchime hnotes
  · exact fun hchime hstays => exec_leadEnd_live hup h hold he hh hdue hphase htimer hchime hstays
  · exact afterBlockStart_lead micD micC first hclosed hold he

end Sys2Proof.Machine
end

section
/-! PROOFS. LIVE at a block start, its end by the marker, and the voices' turns (R65, R66, R108, R110, R136, R139). -/

namespace Sys2Proof.Machine

/-! ## LIVE that goes on (R108) -/

/-- What a LIVE advance makes of an entry does not depend on its audience, nor for a microphone on the recorded buffer. -/
theorem sameButAudience_afterLiveAdvance {e x : Entry} (hex : SameButAudience (dueEntry e) x) {blocks blocks' : List RecordedBlock}
    (hblocks : e.source = .r → blocks' = blocks) : SameButAudience (afterLiveAdvance blocks e) (afterLiveAdvance blocks' x) := by
  have hsame : SameButAudience (afterLiveAdvance blocks' e) (afterLiveAdvance blocks' x) := by
    rw [hex]
    unfold SameButAudience afterLiveAdvance dueEntry
    dsimp only
    cases e.source with
    | r => cases blocks' <;> rfl
    | d => rfl
    | c => rfl
  have hbuffer : afterLiveAdvance blocks' e = afterLiveAdvance blocks e := by
    unfold afterLiveAdvance
    cases hsource : e.source with
    | r => rw [hblocks hsource]
    | d => rfl
    | c => rfl
  rwa [hbuffer] at hsame

section
variable (micD micC : Block) (first : List BerthNo) {s : State} (hclosed : s.boundary.opened = false) (h : AnnouncementsHold s)
  {e : Entry} (he : e ∈ s.ann.entries) (hphase : e.phase = .live)
include hclosed h he hphase

theorem afterBlockStart_live (hstays : StaysLive s e) :
    (∃ f ∈ (afterBlockStart micD micC first s).ann.entries,
      SameButAudience (afterLiveAdvance s.media.recorded.blocks e) f) ∧
    (e.source = .r → (afterBlockStart micD micC first s).media.recorded = bufferAfterLive .r s.media.recorded) := by
  obtain ⟨hhandle, hsource, -, hlive⟩ := afterLiveAdvance_keys s.media.recorded.blocks e
  refine afterBlockStart_of_own micD micC first hclosed h he (by rw [hphase]; exact nofun) (by rw [hphase]; exact nofun)
    ⟨hhandle, hsource, by rw [hlive]; exact nofun⟩ fun t x hex ht => ?_
  have hxphase : x.phase = .live := by rw [hex]; exact hphase
  have hxsource : x.source = e.source := by rw [hex]; rfl
  have hrecorded : e.source = .r → t.media.recorded = s.media.recorded := fun hr => ht.recorded (hxsource.trans hr)
  have hxstays : StaysLive t x := by
    obtain ⟨hmax, hblocks⟩ := hstays
    refine ⟨by rw [hex]; exact hmax, fun hr => ?_⟩
    have hr := hxsource.symm.trans hr
    rw [hrecorded hr, hex]
    exact hblocks hr
  rw [advanceIfDue_of_stands hex ht, takeAdvance_live_stays ht.entry rfl _ hxphase hxstays]
  refine ⟨_, sameButAudience_afterLiveAdvance hex fun hr => congrArg RecordedBuffer.blocks (hrecorded hr),
    mem_replaced ht.entry (afterLiveAdvance_keys _ x).1, fun hr => ?_⟩
  show bufferAfterLive x.source t.media.recorded = _
  rw [hxsource, hr, hrecorded hr]

/-! ## The end marker (R65, R66, R110) -/

omit hclosed h he hphase in
theorem recorded_takeRecorded {t : State} {b : RecordedBlock} {rest : List RecordedBlock} (hblocks : t.media.recorded.blocks = b :: rest) :
    (takeRecorded t).media.recorded = bufferAfterLive .r t.media.recorded := by
  have htaken : (takeRecorded t).media.recorded =
      { t.media.recorded with blocks := t.media.recorded.blocks.tail, taken := t.media.recorded.taken + 1 } := rfl
  rw [htaken]
  unfold bufferAfterLive
  rw [hblocks]
  rfl

variable {b : RecordedBlock} {rest : List RecordedBlock} (hsource : e.source = .r)
  (hlasts : e.params.maxLive = 0 ∨ e.liveCount ≠ e.params.maxLive) (hblocks : s.media.recorded.blocks = b :: rest)
  (hmarker : b.endMarker = true)
include hsource hlasts hblocks hmarker

omit hclosed h he in
/-- The own turn of a recorded entry that takes the end marker. -/
theorem marked_of_stands {x : Entry} {t : State} (hex : SameButAudience (dueEntry e) x) (ht : Stands x s.media.recorded t) :
    advanceIfDue t e.handle = takeAdvance (spareFuel t + 2) x.handle
      (enterTail x.handle .completed (replaced (takeRecorded t) x (passing b (begun .live x)))) := by
  have hxsource : x.source = .r := by rw [hex]; exact hsource
  have hxphase : x.phase = .live := by rw [hex]; exact hphase
  have hxlasts : atMaximumLive x = false := Bool.eq_false_iff.2 fun hfull => by
    obtain ⟨hne, heq⟩ := atMaximumLive_iff.1 hfull
    rw [hex] at hne heq
    exact hlasts.elim hne fun hno => hno heq
  have htblocks : t.media.recorded.blocks = b :: rest := by rw [ht.recorded hxsource, hblocks]
  rw [advanceIfDue_of_stands hex ht, takeAdvance_live_marked ht.entry rfl _ hxphase hxlasts hxsource htblocks hmarker]

theorem afterBlockStart_marked (htail : 1 ≤ e.params.tail) :
    (afterBlockStart micD micC first s).media.recorded = flushedTo none (bufferAfterLive .r s.media.recorded) ∧
    ∃ f ∈ (afterBlockStart micD micC first s).ann.entries, SameButAudience
      (afterEnd e .completed (min 65535 (e.liveCount + 1)) 0 (some b.samples)) f := by
  obtain ⟨hentry, hrecorded⟩ := afterBlockStart_of_own micD micC first hclosed h he (by rw [hphase]; exact nofun)
    (by rw [hphase]; exact nofun) (f := afterEnd e .completed (min 65535 (e.liveCount + 1)) 0 (some b.samples))
    (r := flushedTo none (bufferAfterLive .r s.media.recorded)) ⟨rfl, rfl, nofun⟩ fun t x hex ht => by
      have hxsource : x.source = .r := by rw [hex]; exact hsource
      have hxtail : 1 ≤ x.params.tail := by rw [hex]; exact htail
      have htblocks : t.media.recorded.blocks = b :: rest := by rw [ht.recorded hxsource, hblocks]
      rw [marked_of_stands hphase hsource hlasts hblocks hmarker hex ht,
        takeAdvance_of_tail_ticks (s := takeRecorded t) (x := passing b (begun .live x)) ht.entry rfl _ hxtail]
      refine ⟨ticked (begun .tail (tailed .completed (passing b (begun .live x)))), ?_,
        mem_replaced (s := quieted (takeRecorded t) (passing b (begun .live x))) ht.entry rfl, fun _ => ?_⟩
      · rw [hex]
        rfl
      · show closedFor x.source (takeRecorded t).media.recorded = _
        rw [hxsource, recorded_takeRecorded htblocks, ht.recorded hxsource]
        rfl
  exact ⟨hrecorded hsource, hentry⟩

/-- The entry has left the table, and its end is announced. -/
structure Gone (k : Byte) (t : State) : Prop where
  absent : ∀ y ∈ t.ann.entries, y.handle ≠ k
  flagged : t.flag .annFinished = true

omit hclosed h he hphase hsource hlasts hblocks hmarker in
theorem Gone.later {k : Byte} {t u : State} {es : List Event} (hgone : Gone k t) (hkept : Kept t u) (hraises : Raises es t u) :
    Gone k u :=
  ⟨fun y hy => by
    obtain ⟨x, hx, hxy, -⟩ := hkept.names y hy
    rw [← hxy]
    exact hgone.absent x hx, hraises.grown _ hgone.flagged⟩

omit hclosed h he hphase hsource hlasts hblocks hmarker in
theorem gone_removeAndHandOn {t : State} {x y : Entry} (hx : x ∈ t.ann.entries) (hy : y.handle = x.handle) (cause : EndReason) :
    Gone x.handle (removeAndHandOn x.handle cause (replaced t x y)) := by
  refine ⟨fun z hz => ?_, (removedEntry_replaced hx hy cause).event⟩
  have hfound := entry?_replaced hx hy
  rw [← hy] at hfound ⊢
  have hentries := (leftTable_removeEntry hfound cause).entries
  have hkept : Kept (removeEntry y.handle cause (replaced t x y)) (removeAndHandOn y.handle cause (replaced t x y)) := by
    rw [removeAndHandOn_eq hfound]
    split
    · exact kept_handOn _
    · exact .of_entries rfl
  rw [← hy] at hz
  obtain ⟨w, hw, hwz, -⟩ := hkept.names z hz
  rw [hentries] at hw
  rw [← hwz]
  exact of_decide_eq_true (List.mem_filter.1 hw).2

theorem afterBlockStart_marked_gone (htail : e.params.tail = 0) :
    (afterBlockStart micD micC first s).flag .annFinished = true ∧
    ∀ f ∈ (afterBlockStart micD micC first s).ann.entries, f.handle ≠ e.handle := by
  obtain ⟨x, hx, hex⟩ := mem_beforeTurns hclosed he
  have hxh : x.handle = e.handle := by rw [hex]; rfl
  have hxphase : x.phase = .live := by rw [hex]; exact hphase
  have hxsource : x.source = .r := by rw [hex]; exact hsource
  have hxqueued : x.phase ≠ .queued := by rw [hxphase]; exact nofun
  have hafter : Gone e.handle (afterAdvances s) := by
    refine afterAdvances_of_turns (P := Stands x s.media.recorded) (k := e.handle)
      ⟨announcementsHold_beforeTurns h, hx, fun _ => recorded_beforeTurns hclosed⟩
      (fun t v ht => stands_takeVoice ht hxqueued (by rw [hxphase]; exact nofun) v)
      (fun t ht => ⟨ht.hold, x, ht.entry, hxh⟩) (fun t k hk ht => stands_advanceIfDue ht hxqueued (by rwa [hxh]))
      (fun t ht => ?_) fun t k hk ht => ht.later (kept_advanceIfDue k t) (raises_advanceIfDue k t)
    have hxtail : x.params.tail = 0 := by rw [hex]; exact htail
    rw [marked_of_stands hphase hsource hlasts hblocks hmarker hex ht, ← hxh]
    by_cases hqueue : t.ann.queue = []
    · rw [takeAdvance_of_tail_leaves (s := takeRecorded t) (x := passing b (begun .live x)) ht.entry rfl _ hxtail (.inr hqueue)]
      exact gone_removeAndHandOn (t := quieted (takeRecorded t) (passing b (begun .live x)))
        (y := begun .tail (tailed .completed (passing b (begun .live x)))) ht.entry rfl _
    · obtain ⟨g, gs, hg⟩ := List.exists_cons_of_ne_nil hqueue
      rw [enterTail_replaced (s := takeRecorded t) (x := passing b (begun .live x)) ht.entry rfl,
        takeAdvance_tail_hands (s := quieted (takeRecorded t) (passing b (begun .live x)))
          (x := tailed .completed (passing b (begun .live x))) ht.entry rfl (spareFuel t + 1) rfl hxtail hxsource hg]
      exact (gone_removeAndHandOn (t := quieted (takeRecorded t) (passing b (begun .live x)))
        (y := begun .tail (tailed .completed (passing b (begun .live x)))) ht.entry rfl _).later
        (kept_takeAdvance ..) (raises_takeAdvance ..)
  have hheard := heard_afterBlockStart micD micC first s
  refine ⟨?_, fun f hf => ?_⟩
  · have hmixed := (raises_takeBerths micD micC first (afterAdvances s)).grown .annFinished hafter.flagged
    have hevents : (afterBlockStart micD micC first s).events = (afterMixes micD micC first s).events := by
      unfold afterBlockStart
      generalize afterMixes micD micC first s = t
      simp
    rw [State.flag, hevents]
    exact hmixed
  · obtain ⟨g, hg, hgs⟩ := hheard.entries
    rw [hgs] at hf
    obtain ⟨y, hy, rfl⟩ := List.mem_map.1 hf
    rw [hg y]
    exact hafter.absent y hy

end

/-- Settles O45: LIVE goes on a block at its turn or ends in it, by its maximum, its starvation or the end marker. -/
theorem liveEndsByMaximumOrStarvation : Obligations.LiveEndsByMaximumOrStarvation := by
  refine ⟨fun s h hup hold => ⟨exec_maximumLiveReached_idle hup h, exec_starvationRunLimit_idle hup h,
      fun e he hh hdue hphase => ⟨?_, ?_⟩⟩,
    fun s micD micC first hup hclosed hold => ⟨_, exec_blockStart hup micD micC first, fun e he hphase => ⟨?_, ?_⟩⟩⟩
  · exact exec_maximumLiveReached_ends hup h hold he hh hdue hphase
  · exact exec_starvationRunLimit_ends hup h hold he hh hdue hphase
  · exact afterBlockStart_live micD micC first hclosed hold he hphase
  · exact fun b rest hsource hlasts hblocks hmarker =>
      ⟨afterBlockStart_marked micD micC first hclosed hold he hphase hsource hlasts hblocks hmarker,
        afterBlockStart_marked_gone micD micC first hclosed hold he hphase hsource hlasts hblocks hmarker⟩

end Sys2Proof.Machine
end

section
/-! PROOFS. A voice at a block start: its own turn, and the others' turns that pass it by (R136, R139). -/

namespace Sys2Proof.Machine

/-- A source's voice plays so for an entry in CHIME, in a table that agrees. -/
structure Sounding (v : Source) (w : Voice) (t : State) : Prop where
  hold : AnnouncementsHold t
  chiming : ∃ y ∈ t.ann.entries, y.source = v ∧ y.phase = .chime
  voice : t.voice v = w

section
variable {v : Source} {w : Voice} {t : State} (h : Sounding v w t)
include h

theorem sounding_takeVoice {u : Source} (hu : u ≠ v) : Sounding v w (takeVoice t u) := by
  obtain ⟨y, hy, rfl, hchime⟩ := h.chiming
  have hbeside := beside_takeVoice h.hold hy hu
  exact ⟨announcementsHold_takeVoice h.hold u, ⟨y, hbeside.entry hy, rfl, hchime⟩, hbeside.voice.trans h.voice⟩

/-- The advances of entries leave a sounding voice as it is: its own entry's advance only notes the turn. -/
theorem sounding_advanceIfDue (k : Byte) : Sounding v w (advanceIfDue t k) := by
  obtain ⟨y, hy, rfl, hchime⟩ := h.chiming
  have hkept := announcementsHold_advanceIfDue h.hold k
  by_cases hk : k = y.handle
  · subst hk
    cases hdue : y.due with
    | true =>
      have hturn : advanceIfDue t y.handle = replaced t y (begun .chime y) := by
        rw [advanceIfDue_of_due h.hold hy hdue]
        exact takeAdvance_chime hy rfl _ hchime
      rw [hturn] at hkept ⊢
      refine ⟨hkept, ⟨begun .chime y, mem_replaced hy rfl, rfl, hchime⟩, ?_⟩
      rw [← h.voice]
      cases y.source <;> rfl
    | false =>
      have hsame : advanceIfDue t y.handle = t := by
        unfold advanceIfDue
        rw [entry?_of_mem h.hold hy]
        exact if_neg (by simp [hdue])
      rw [hsame]
      exact ⟨h.hold, ⟨y, hy, rfl, hchime⟩, h.voice⟩
  · have hbeside := beside_advanceIfDue h.hold hy hk (other_of_active h.hold hy (by rw [hchime]; exact nofun) hk)
    exact ⟨hkept, ⟨y, hbeside.entry hy, rfl, hchime⟩, hbeside.voice.trans h.voice⟩

end

/-- A voice that goes on makes its move in its own turn, and plays so to the end of the block start. -/
theorem voice_afterBlockStart (micD micC : Block) (first : List BerthNo) {s : State} (hclosed : s.boundary.opened = false)
    (h : AnnouncementsHold s) {v : Source} {q : Playing} (hq : (s.voice v).playing = some q) {m : VoiceMove}
    (hmove : voiceMove (s.chimes.patterns.get q.pattern) q = m) (hend : m ≠ .chimeEnd) :
    (afterBlockStart micD micC first s).voice v = movedVoice m := by
  have hbegun := announcementsHold_beforeTurns h
  obtain ⟨hvoice, hpatterns⟩ := voice_beforeTurns hclosed v
  have hplays : ((beforeTurns s).voice v).playing = some q := by rw [hvoice]; exact hq
  obtain ⟨e, he, -, hev, hchime⟩ := hbegun.voices v q hplays
  have hturns : Sounding v (movedVoice m) (takeVoices (beforeTurns s)) := by
    refine forEach_turn_of_mem (f := takeVoice)
      (P := fun t => Sounding v (dueVoice (s.voice v)) t ∧ t.chimes.patterns = s.chimes.patterns) (Q := Sounding v (movedVoice m))
      (xs := [.d, .c, .r]) (a := v) (by decide) (by cases v <;> decide) (fun t u hu ⟨ht, hp⟩ => ⟨sounding_takeVoice ht hu, ?_⟩)
      (fun t ⟨ht, hp⟩ => ?_) (fun t u hu ht => sounding_takeVoice ht hu) ⟨⟨hbegun, ⟨e, he, hev, hchime⟩, hvoice⟩, hpatterns⟩
    · exact (patterns_of_fixtures (fixtures_takeVoice t u)).trans hp
    · have hdue : (t.voice v).due = true := by rw [ht.voice]; rfl
      have htq : (t.voice v).playing = some q := by rw [ht.voice]; exact hq
      have htmove : voiceMove (t.chimes.patterns.get q.pattern) q = m := by rw [hp]; exact hmove
      have hkept := announcementsHold_takeVoice ht.hold v
      rw [takeVoice_of_move hdue htq htmove hend] at hkept ⊢
      exact ⟨hkept, ht.chiming, by rw [State.voice_modVoice, if_pos rfl]⟩
  have hentries : Sounding v (movedVoice m) (afterAdvances s) :=
    forEach_invariant (Sounding v (movedVoice m)) _ (fun t k _ ht => sounding_advanceIfDue ht k) hturns
  have hchimes := (heard_afterBlockStart micD micC first s).chimes
  rw [← hentries.voice]
  cases v <;> simp only [State.voice, hchimes]

/-- Settles O47: a voice has one turn at a block start, in which it stays in its note, goes to the next, or ends its chime. -/
theorem voiceAdvances : Obligations.VoiceAdvances := by
  refine ⟨fun s v hup hold => ?_, fun s micD micC first hup hclosed hold =>
    ⟨_, exec_blockStart hup micD micC first, fun v q n hq hn => ⟨fun hmore => ?_, fun m hdone hm => ?_⟩⟩⟩
  · intro o
    have hdecay : exec (.envelopeDecayStep v) s = .next (atBoundary (voiceCause v isDecayStep) (fun t => takeVoice t v) s) := rfl
    have hnote : exec (.chimeNoteEnd v) s = .next (atBoundary (voiceCause v isNextNote) (fun t => takeVoice t v) s) := rfl
    have hchime : exec (.chimeEnd v) s = .next (atBoundary (voiceCause v isChimeEnd) (fun t => takeVoice t v) s) := rfl
    refine ⟨fun hidle => ?_, fun q n hdue hq hn => ?_⟩
    · exact ⟨exec_voice_idle hup v hdecay (hidle.imp_right .inl), exec_voice_idle hup v hnote (hidle.imp_right .inl),
        exec_voice_idle hup v hchime (hidle.imp_right .inl)⟩
    intro next
    have hdone_or : q.blocksInto + 1 < n.duration ∨ n.duration ≤ q.blocksInto + 1 := Nat.lt_or_ge _ _
    refine ⟨fun hnot => ?_, fun hmore htone hdec hstep => ?_, fun hnot => ?_, fun m hdone hm => ⟨?_, ?_⟩, fun hmore => ?_,
      fun hdone hm e he hh => ?_⟩
    · refine exec_voice_other hup v hq hdecay ?_
      rcases hdone_or with hmore | hdone
      · rw [voiceMove_on hn hmore, Bool.eq_false_iff, Ne, isDecayStep_playedOn]
        rintro ⟨htone, hdec, hstep⟩
        rcases hnot with hnot | hnot | hnot | hnot
        · omega
        · exact htone hnot
        · exact hdec hnot
        · omega
      · cases hm : next with
        | none =>
          rw [voiceMove_end hn hdone hm]
          rfl
        | some m =>
          rw [voiceMove_next hn hdone hm]
          rfl
    · have hmove := voiceMove_on hn hmore
      obtain ⟨hframe, honly, hvoice⟩ := moved_of_takeVoice hdue hq hmove nofun
      refine ⟨_, exec_voice_fires hup v hdue hq hdecay (by rw [hmove, isDecayStep_playedOn]; exact ⟨htone, hdec, hstep⟩), hframe, honly, ?_⟩
      rw [hvoice]
      exact staysInNote_playBlock q n
    · refine exec_voice_other hup v hq hnote ?_
      rcases hdone_or with hmore | hdone
      · rw [voiceMove_on hn hmore]
        rfl
      · rw [voiceMove_end hn hdone (hnot.resolve_left (Nat.not_lt.2 hdone))]
        rfl
    · refine exec_voice_other hup v hq hchime ?_
      rw [voiceMove_next hn hdone hm]
      rfl
    · have hmove := voiceMove_next hn hdone hm
      obtain ⟨hframe, honly, hvoice⟩ := moved_of_takeVoice hdue hq hmove nofun
      refine ⟨_, exec_voice_fires hup v hdue hq hnote (by rw [hmove]; rfl), hframe, honly, ?_⟩
      rw [hvoice]
      exact startsNote_playBlock q _ m
    · refine exec_voice_other hup v hq hchime ?_
      rw [voiceMove_on hn hmore]
      rfl
    · have hmove := voiceMove_end hn hdone hm
      have hfires := exec_voice_fires hup v hdue hq hchime (by rw [hmove]; rfl)
      obtain ⟨hearly, hlive⟩ := exec_chimeEnd_reaches hold hdue hq hmove he hh
      exact ⟨fun h => ⟨_, hfires, hearly h⟩, fun h hstays => ⟨_, hfires, hlive h hstays⟩⟩
  · have hvoice := voice_afterBlockStart micD micC first hclosed hold hq (voiceMove_on hn hmore) nofun
    unfold afterBlockStart at hvoice
    rw [hvoice]
    exact staysInNote_playBlock q n
  · have hvoice := voice_afterBlockStart micD micC first hclosed hold hq (voiceMove_next hn hdone hm) nofun
    unfold afterBlockStart at hvoice
    rw [hvoice]
    exact startsNote_playBlock q _ m

end Sys2Proof.Machine
end

section
/-! PROOFS. The turn of a berth at a block start: it looks at the berth's own record, at the entries but for who hears them, and
at nothing that another berth's turn changes (R120, R124, R147 to R152). -/

namespace Sys2Proof.Machine

/-! ## The berths in their turns -/

theorem nodup_eraseDups {α : Type} [BEq α] [LawfulBEq α] (xs : List α) : xs.eraseDups.Nodup := by
  generalize hn : xs.length = n
  induction n using Nat.strongRecOn generalizing xs with
  | ind n ih =>
    cases xs with
    | nil => exact List.nodup_nil
    | cons x xs =>
      rw [List.eraseDups_cons]
      refine List.nodup_cons.2 ⟨fun hx => ?_, ih _ ?_ _ rfl⟩
      · have hfilter := (List.mem_filter.1 (List.mem_eraseDups.1 hx)).2
        simp at hfilter
      · rw [← hn]
        exact Nat.lt_succ_of_le (List.length_filter_le ..)

theorem nodup_berthOrder (first : List BerthNo) : (berthOrder first).Nodup := by
  refine List.nodup_append'.2 ⟨nodup_eraseDups first, (List.nodup_finRange berthCount).filter _, fun b hb hrest => ?_⟩
  have hnot := (List.mem_filter.1 hrest).2
  rw [Bool.not_eq_true', ← Bool.not_eq_true, List.contains_iff_mem] at hnot
  exact hnot (List.mem_eraseDups.1 hb)

theorem mem_berthOrder (first : List BerthNo) (b : BerthNo) : b ∈ berthOrder first := by
  by_cases hb : b ∈ first
  · exact List.mem_append_left _ (List.mem_eraseDups.2 hb)
  · refine List.mem_append_right _ (List.mem_filter.2 ⟨List.mem_finRange b, ?_⟩)
    rw [Bool.not_eq_true', ← Bool.not_eq_true, List.contains_iff_mem]
    exact hb

/-! ## What a berth's turn looks at -/

/-- An entry without its audience. -/
def deaf (e : Entry) : Entry := { e with audience := 0, peak := 0 }

/-- The state with every berth's record as this one's, no audiences and no event flags. -/
def berthView (b : BerthNo) (s : State) : State :=
  { s with
    ann := { s.ann with entries := s.ann.entries.map deaf }
    mix := .fill berthCount (s.mixOf b)
    events := { s.events with flags := 0 } }

/-- The state with every berth's record this one. -/
def withMix (s : State) (m : MixState) : State := { s with mix := .fill berthCount m }

theorem map_deaf_of_sameButAudience {es : List Entry} {g : Entry → Entry} (hg : ∀ e, SameButAudience e (g e)) :
    (es.map g).map deaf = es.map deaf := by
  rw [List.map_map]
  refine List.map_congr_left fun e _ => ?_
  rw [Function.comp_apply, hg e]
  rfl

theorem berthView_changed {s : State} {es : List Entry} (hes : es.map deaf = s.ann.entries.map deaf) (mix : Table MixState berthCount)
    (flags : BitVec 13) (b : BerthNo) :
    berthView b { s with ann := { s.ann with entries := es }, mix := mix, events := { s.events with flags := flags } } =
      withMix (berthView b s) (mix.get b) :=
  congrArg (fun xs => { s with
    ann := { s.ann with entries := xs }, mix := .fill berthCount (mix.get b), events := { s.events with flags := 0 } }) hes

theorem bestOf_map_deaf (es : List Entry) : bestOf (es.map deaf) = (bestOf es).map deaf := by
  induction es with
  | nil => rfl
  | cons e es ih =>
    rw [List.map_cons, bestOf, ih, bestOf]
    cases bestOf es with
    | none => rfl
    | some f =>
      have hrank : outranks (deaf f) (deaf e) = outranks f e := rfl
      simp only [Option.map_some, hrank]
      split <;> rfl

theorem candidates_berthView (b : BerthNo) (s : State) : candidates (berthView b s) b = (candidates s b).map deaf :=
  List.filter_map ..

theorem entry?_berthView (b : BerthNo) (s : State) (k : Byte) : (berthView b s).entry? k = (s.entry? k).map deaf :=
  List.find?_map ..

theorem mixOf_berthView (b : BerthNo) (s : State) : (berthView b s).mixOf b = s.mixOf b := Table.get_fill ..

theorem mixOf_withMix (s : State) (m : MixState) (b : BerthNo) : (withMix s m).mixOf b = m := Table.get_fill ..

theorem floorEntry?_berthView (b : BerthNo) (s : State) : (berthView b s).floorEntry? b = (s.floorEntry? b).map deaf := by
  unfold State.floorEntry?
  rw [mixOf_berthView]
  cases (s.mixOf b).floor with
  | none => rfl
  | some k => exact entry?_berthView b s k

/-! ## The evaluation (R124, R126 to R128) -/

/-- The berth's floor goes to, or stays with, this entry. -/
def takenMix (e : Entry) (m : MixState) : MixState :=
  { m with
    gate := if m.floor = some e.handle ∨ m.floor = none then m.gate else mute
    floor := some e.handle
    duckTarget := e.params.duck
    gateTarget := gateTargetFor (phaseRead e)
    duckStep := e.params.attack
    gateStep := e.params.attack }

/-- The berth keeps its floor through the tail of this entry, or loses it. -/
def leavingMix (e : Entry) (m : MixState) : MixState :=
  { m with
    gate := if phaseRead e = .tail then m.gate else mute
    floor := if phaseRead e = .tail then m.floor else none
    duckTarget := 0
    gateTarget := mute
    duckStep := e.params.release
    gateStep := e.params.release }

/-- What an evaluation makes of a berth's record, by the best candidate and the entry of its floor. -/
def evaluatedMix : Option Entry → Option Entry → MixState → MixState
  | some e, _, m => takenMix e m
  | none, some e, m => leavingMix e m
  | none, none, m => m

theorem mixOf_dropFloorAudience (b c : BerthNo) (s : State) : (dropFloorAudience b s).mixOf c = s.mixOf c := by
  rw [dropFloorAudience_eq]
  rfl

theorem mixOf_evaluateFloor (b : BerthNo) (s : State) : (evaluateFloor b s).mixOf b =
    evaluatedMix (bestOf (candidates s b)) (s.floorEntry? b) (s.mixOf b) := by
  unfold evaluateFloor
  cases bestOf (candidates s b) with
  | some e =>
    dsimp only
    split
    next hkeeps =>
      unfold keepFloor
      rw [State.mixOf_modMix_same]
      show _ = takenMix e (s.mixOf b)
      unfold takenMix
      rw [if_pos (Or.inl hkeeps), ← hkeeps]
    next hchanges =>
      unfold changeFloor
      rw [State.mixOf_modMix_same]
      have hsame : (gainAudience e.handle (dropFloorAudience b s)).mixOf b = s.mixOf b := mixOf_dropFloorAudience b b s
      have hgate : (if (s.mixOf b).floor = some e.handle ∨ (s.mixOf b).floor = none then (s.mixOf b).gate else mute) =
          if (s.mixOf b).floor.isSome then mute else (s.mixOf b).gate := by
        cases hfloor : (s.mixOf b).floor with
        | none => rfl
        | some k =>
          rw [hfloor] at hchanges
          rw [if_neg (fun hor => hor.elim hchanges nofun)]
          rfl
      rw [hsame]
      show _ = takenMix e (s.mixOf b)
      unfold takenMix
      rw [hgate]
  | none =>
    dsimp only
    cases s.floorEntry? b with
    | none => rfl
    | some e =>
      show _ = leavingMix e (s.mixOf b)
      dsimp only
      unfold leavingMix
      split
      · unfold fadeFloor
        rw [State.mixOf_modMix_same]
      · unfold loseFloor
        rw [State.mixOf_modMix_same]
        rfl

theorem evaluatedMix_map_deaf (best had : Option Entry) (m : MixState) :
    evaluatedMix (best.map deaf) (had.map deaf) m = evaluatedMix best had m := by
  cases best with
  | some e => rfl
  | none => cases had <;> rfl

theorem mixOf_evaluateFloor_of_ne {b c : BerthNo} (hc : b ≠ c) (s : State) : (evaluateFloor b s).mixOf c = s.mixOf c := by
  unfold evaluateFloor
  split
  · split
    · unfold keepFloor
      rw [State.mixOf_modMix, if_neg hc]
    · unfold changeFloor
      rw [State.mixOf_modMix, if_neg hc]
      exact mixOf_dropFloorAudience b c s
  · split
    · rfl
    · split
      · unfold fadeFloor
        rw [State.mixOf_modMix, if_neg hc]
      · unfold loseFloor
        rw [State.mixOf_modMix, if_neg hc]
        rfl

theorem evaluateFloor_eq (b : BerthNo) (s : State) : ∃ es mix,
    evaluateFloor b s = { s with ann := { s.ann with entries := es }, mix := mix } := by
  unfold evaluateFloor
  split
  · split
    · exact ⟨s.ann.entries, _, rfl⟩
    · unfold changeFloor
      rw [dropFloorAudience_eq, unheardAnn_eq]
      exact ⟨_, _, rfl⟩
  · split
    · exact ⟨s.ann.entries, s.mix, rfl⟩
    · split
      · exact ⟨s.ann.entries, _, rfl⟩
      · exact ⟨_, _, rfl⟩

/-! ## The whole turn -/

section
variable (micD micC : Block)

theorem mixInputs_berthView (b : BerthNo) (s : State) : mixInputs micD micC (berthView b s) b = mixInputs micD micC s b := by
  unfold mixInputs
  simp only [floorEntry?_berthView, mixOf_berthView]
  cases s.floorEntry? b with
  | none => rfl
  | some e => rfl

theorem mixBerth_of_absent {b : BerthNo} {s : State} (h : s.presence b ≠ .present) : mixBerth micD micC s b = s := if_neg h

/-- A PRESENT berth's turn: evaluated, ramped, mixed, and CLIP raised if a sum was limited. -/
theorem mixBerth_of_present {b : BerthNo} {s : State} (h : s.presence b = .present) : mixBerth micD micC s b =
    let u := (evaluateFloor b s).modMix b rampMix
    let x := mixInputs micD micC u b
    if clips x.programme x.announcement x.chime x.ap x.aa x.ac then raise .clip (u.modMix b (writeMix x))
    else u.modMix b (writeMix x) := if_pos h

/-- The record before the mix is written: evaluated and ramped. -/
def rampedMix (s : State) (b : BerthNo) : MixState := rampMix ((evaluateFloor b s).mixOf b)

theorem berthView_ramped (b : BerthNo) (s : State) :
    berthView b ((evaluateFloor b s).modMix b rampMix) = withMix (berthView b s) (rampedMix s b) := by
  obtain ⟨g, hg, hgs⟩ := (heard_evaluateFloor b s).entries
  have hmix : ((evaluateFloor b s).modMix b rampMix).mixOf b = rampedMix s b := State.mixOf_modMix_same ..
  obtain ⟨es, mix, heq⟩ := evaluateFloor_eq b s
  have hes : es.map deaf = s.ann.entries.map deaf := by
    have hentries : es = s.ann.entries.map g := by rw [← hgs, heq]
    rw [hentries, map_deaf_of_sameButAudience hg]
  rw [heq] at hmix ⊢
  have hview := berthView_changed hes (mix.modify b rampMix) s.events.flags b
  have hget : (mix.modify b rampMix).get b = rampedMix s b := hmix
  rw [hget] at hview
  exact hview

/-- What a PRESENT berth's turn makes of its record. -/
theorem mixOf_mixBerth_of_present {b : BerthNo} {s : State} (h : s.presence b = .present) : (mixBerth micD micC s b).mixOf b =
    writeMix (mixInputs micD micC (withMix (berthView b s) (rampedMix s b)) b) (rampedMix s b) := by
  have hview := berthView_ramped b s
  have hinputs := mixInputs_berthView micD micC b ((evaluateFloor b s).modMix b rampMix)
  have hmix : ((evaluateFloor b s).modMix b rampMix).mixOf b = rampedMix s b := State.mixOf_modMix_same ..
  rw [hview] at hinputs
  rw [mixBerth_of_present micD micC h]
  dsimp only
  rw [← hinputs]
  generalize (evaluateFloor b s).modMix b rampMix = u at hmix
  split
  · show (u.modMix b _).mixOf b = _
    rw [State.mixOf_modMix_same, hmix]
  · rw [State.mixOf_modMix_same, hmix]

theorem mixOf_mixBerth_of_ne {b c : BerthNo} (hc : b ≠ c) (s : State) : (mixBerth micD micC s b).mixOf c = s.mixOf c := by
  by_cases h : s.presence b = .present
  · have hevaluated := mixOf_evaluateFloor_of_ne hc s
    rw [mixBerth_of_present micD micC h]
    dsimp only
    generalize evaluateFloor b s = t at hevaluated ⊢
    split
    · show ((t.modMix b _).modMix b _).mixOf c = _
      rw [State.mixOf_modMix, if_neg hc, State.mixOf_modMix, if_neg hc, hevaluated]
    · rw [State.mixOf_modMix, if_neg hc, State.mixOf_modMix, if_neg hc, hevaluated]
  · rw [mixBerth_of_absent micD micC h]

theorem mixBerth_eq (b : BerthNo) (s : State) : ∃ es mix flags, mixBerth micD micC s b =
    { s with ann := { s.ann with entries := es }, mix := mix, events := { s.events with flags := flags } } := by
  by_cases h : s.presence b = .present
  · rw [mixBerth_of_present micD micC h]
    obtain ⟨es, mix, heq⟩ := evaluateFloor_eq b s
    rw [heq]
    dsimp only
    generalize mixInputs micD micC _ b = x
    split
    · exact ⟨es, _, _, rfl⟩
    · exact ⟨es, _, s.events.flags, rfl⟩
  · rw [mixBerth_of_absent micD micC h]
    exact ⟨s.ann.entries, s.mix, s.events.flags, rfl⟩

theorem berthView_mixBerth (b c : BerthNo) (s : State) :
    berthView c (mixBerth micD micC s b) = withMix (berthView c s) ((mixBerth micD micC s b).mixOf c) := by
  obtain ⟨g, hg, hgs⟩ := (heard_mixBerth micD micC b s).entries
  obtain ⟨es, mix, flags, heq⟩ := mixBerth_eq micD micC b s
  have hes : es.map deaf = s.ann.entries.map deaf := by
    have hentries : es = s.ann.entries.map g := by rw [← hgs, heq]
    rw [hentries, map_deaf_of_sameButAudience hg]
  rw [heq]
  exact berthView_changed hes mix flags c

theorem presence_berthView (b c : BerthNo) (s : State) : (berthView b s).presence c = s.presence c := rfl

theorem rampedMix_berthView (b : BerthNo) (s : State) : rampedMix (berthView b s) b = rampedMix s b := by
  unfold rampedMix
  rw [mixOf_evaluateFloor, mixOf_evaluateFloor, candidates_berthView, bestOf_map_deaf, floorEntry?_berthView, mixOf_berthView,
    evaluatedMix_map_deaf]

theorem mixOf_mixBerth_congr {b : BerthNo} {s t : State} (h : berthView b s = berthView b t) :
    (mixBerth micD micC s b).mixOf b = (mixBerth micD micC t b).mixOf b := by
  have hpresence : s.presence b = t.presence b := by
    rw [← presence_berthView b b s, h, presence_berthView]
  have hmix : s.mixOf b = t.mixOf b := by rw [← mixOf_berthView b s, h, mixOf_berthView]
  by_cases hp : t.presence b = .present
  · rw [mixOf_mixBerth_of_present micD micC (hpresence.trans hp), mixOf_mixBerth_of_present micD micC hp,
      ← rampedMix_berthView b s, ← rampedMix_berthView b t, h]
  · rw [mixBerth_of_absent micD micC (by rw [hpresence]; exact hp), mixBerth_of_absent micD micC hp, hmix]

/-- Each berth's record after all the turns is what its own turn makes of it, taken first. -/
theorem berthView_takeBerths (first : List BerthNo) (s : State) (b : BerthNo) :
    berthView b (takeBerths micD micC first s) = berthView b (mixBerth micD micC s b) := by
  refine forEach_own_turn berthView (f := mixBerth micD micC) (fun t u c h => ?_) (fun t c d hc => ?_) (nodup_berthOrder first) s
    (mem_berthOrder first b)
  · rw [berthView_mixBerth, berthView_mixBerth, h, mixOf_mixBerth_congr micD micC h]
  · rw [berthView_mixBerth, mixOf_mixBerth_of_ne micD micC hc]
    rfl

theorem mixOf_takeBerths (first : List BerthNo) (s : State) (b : BerthNo) :
    (takeBerths micD micC first s).mixOf b = (mixBerth micD micC s b).mixOf b := by
  rw [← mixOf_berthView, berthView_takeBerths, mixOf_berthView]

end

end Sys2Proof.Machine
end

section
/-! PROOFS. Floors after a block start: who has them, what targets and steps they set, and who is heard by how many (O48). -/

namespace Sys2Proof.Machine

/-! ## The best candidate (R124) -/

theorem outranks_asymm {e f : Entry} (h : outranks e f = true) : outranks f e = false := Bool.eq_false_iff.2 fun k => by
  rw [outranks_iff] at h k
  simp only [BitVec.lt_def] at h k
  omega

/-- No candidate outranks the best one. -/
theorem not_outranks_bestOf {es : List Entry} {f : Entry} (hf : bestOf es = some f) : ∀ x ∈ es, outranks x f = false := by
  induction es generalizing f with
  | nil => cases hf
  | cons e es ih =>
    unfold bestOf at hf
    have hself : ∀ y, outranks y y = false := fun y => Bool.eq_false_iff.2 fun h => by
      have hnot := outranks_asymm h
      rw [h] at hnot
      cases hnot
    cases hbest : bestOf es with
    | none =>
      rw [hbest] at hf
      cases hf
      intro x hx
      rcases List.mem_cons.1 hx with rfl | hx
      · exact hself x
      · cases es with
        | nil => cases hx
        | cons y ys =>
          unfold bestOf at hbest
          split at hbest
          · cases hbest
          · split at hbest <;> cases hbest
    | some g =>
      rw [hbest] at hf
      dsimp only at hf
      split at hf
      next hge =>
        cases hf
        intro x hx
        rcases List.mem_cons.1 hx with rfl | hx
        · exact outranks_asymm hge
        · exact ih hbest x hx
      next hge =>
        cases hf
        intro x hx
        rcases List.mem_cons.1 hx with rfl | hx
        · exact hself x
        · refine Bool.eq_false_iff.2 fun hxe => hge ?_
          have hxg := ih hbest x hx
          by_contra hnot
          have hxg' := outranks_of_outranks_of_not hxe (Bool.eq_false_iff.2 hnot)
          rw [hxg] at hxg'
          cases hxg'

theorem mem_candidates {s : State} {b : BerthNo} {e : Entry} : e ∈ candidates s b ↔ IsCandidate s b e := by
  have hphase : ∀ p : Phase, candidatePhase p = true ↔ p = .lead ∨ p = .chime ∨ p = .live := fun p => by
    cases p <;> simp [candidatePhase]
  rw [candidates, List.mem_filter, Bool.and_eq_true, hphase]
  exact Iff.rfl

theorem bestOf_candidates {s : State} (h : AnnouncementsHold s) {b : BerthNo} {e : Entry} (he : IsBest s b e) :
    bestOf (candidates s b) = some e := by
  obtain ⟨hcandidate, hbest⟩ := he
  cases hf : bestOf (candidates s b) with
  | none =>
    have hempty : candidates s b = [] := by
      cases hes : candidates s b with
      | nil => rfl
      | cons y ys =>
        rw [hes] at hf
        unfold bestOf at hf
        split at hf
        · cases hf
        · split at hf <;> cases hf
    have hmem := mem_candidates.2 hcandidate
    rw [hempty] at hmem
    cases hmem
  | some f =>
    have hfmem := mem_candidates.1 (mem_of_bestOf hf)
    by_cases hhandle : f.handle = e.handle
    · rw [(announcementsHold_iff.1 h).1.entries.eq_of_handle hcandidate.1 hfmem.1 hhandle]
    · have hranks := outranks_iff.2 ((hbest f hfmem hhandle).imp_right fun hsame => ⟨hsame.1.symm, hsame.2⟩)
      rw [not_outranks_bestOf hf e (mem_candidates.2 hcandidate)] at hranks
      cases hranks

theorem bestOf_no_candidates {s : State} {b : BerthNo} (h : ∀ e, ¬ IsCandidate s b e) : bestOf (candidates s b) = none := by
  cases hf : bestOf (candidates s b) with
  | none => rfl
  | some f => exact absurd (mem_candidates.1 (mem_of_bestOf hf)) (h f)

/-! ## A berth's record (R126 to R128, R147) -/

theorem rampedTo_rampTo (target step v : Nat) : RampedTo target step v (rampTo target step v) := by
  unfold RampedTo rampTo
  refine ⟨fun hlt => if_pos hlt, fun hgt => ?_, fun heq => ?_⟩
  · rw [if_neg (Nat.lt_asymm hgt), if_pos hgt]
  · rw [heq, if_neg (Nat.lt_irrefl _), if_neg (Nat.lt_irrefl _)]

theorem events_afterBlockStart (micD micC : Block) (first : List BerthNo) (s : State) :
    (afterBlockStart micD micC first s).events = (afterMixes micD micC first s).events := by
  unfold afterBlockStart
  generalize afterMixes micD micC first s = t
  simp

theorem mixOf_afterBlockStart (micD micC : Block) (first : List BerthNo) (s : State) (b : BerthNo) :
    (afterBlockStart micD micC first s).mixOf b = (mixBerth micD micC (afterAdvances s) b).mixOf b := by
  have hframes : (afterBlockStart micD micC first s).mix = (afterMixes micD micC first s).mix := by
    unfold afterBlockStart
    generalize afterMixes micD micC first s = t
    simp
  rw [← mixOf_takeBerths micD micC first]
  exact congrArg (fun m : Table MixState berthCount => m.get b) hframes

/-- What a mix that is written leaves of the record that it is made from. -/
structure Ramped (m n : MixState) : Prop where
  floor : n.floor = m.floor
  duckTarget : n.duckTarget = m.duckTarget
  gateTarget : n.gateTarget = m.gateTarget
  duckStep : n.duckStep = m.duckStep
  gateStep : n.gateStep = m.gateStep
  duck : RampedTo m.duckTarget m.duckStep m.duck n.duck
  gate : RampedTo m.gateTarget m.gateStep m.gate n.gate

theorem ramped_writeMix (x : MixInputs) (m : MixState) : Ramped m (writeMix x (rampMix m)) :=
  ⟨rfl, rfl, rfl, rfl, rfl, rampedTo_rampTo .., rampedTo_rampTo ..⟩

section
variable (micD micC : Block) (first : List BerthNo) (s : State) (b : BerthNo)

theorem mixOf_afterBlockStart_of_absent (h : (afterAdvances s).presence b ≠ .present) :
    (afterBlockStart micD micC first s).mixOf b = (afterAdvances s).mixOf b := by
  rw [mixOf_afterBlockStart, mixBerth_of_absent micD micC h]

theorem ramped_afterBlockStart (h : (afterAdvances s).presence b = .present) :
    Ramped (evaluatedMix (bestOf (candidates (afterAdvances s) b)) ((afterAdvances s).floorEntry? b) ((afterAdvances s).mixOf b))
      ((afterBlockStart micD micC first s).mixOf b) := by
  rw [mixOf_afterBlockStart, mixOf_mixBerth_of_present micD micC h, rampedMix, mixOf_evaluateFloor]
  exact ramped_writeMix _ _

theorem gateTargetFor_candidate {p : Phase} (h : p = .lead ∨ p = .chime ∨ p = .live) :
    gateTargetFor p = if p = .lead then 127 else 0 := by
  rcases h with rfl | rfl | rfl <;> rfl

end

/-- What the evaluation and the ramp of a block start leave of a PRESENT berth's record. -/
theorem floor_of_evaluation {o : State} (hold : AnnouncementsHold o) {b : BerthNo} {n : MixState}
    (h : Ramped (evaluatedMix (bestOf (candidates o b)) (o.floorEntry? b) (o.mixOf b)) n) :
    (∀ e, IsBest o b e →
      n.floor = some e.handle ∧ n.duckTarget = e.params.duck ∧ n.duckStep = e.params.attack ∧
      n.gateStep = e.params.attack ∧ n.gateTarget = (if phaseRead e = .lead then 127 else 0) ∧
      RampedTo n.duckTarget n.duckStep (o.mixOf b).duck n.duck ∧
      RampedTo n.gateTarget n.gateStep
        (if (o.mixOf b).floor = none ∨ (o.mixOf b).floor = some e.handle then (o.mixOf b).gate else 127) n.gate) ∧
    ((∀ e, ¬ IsCandidate o b e) → (o.mixOf b).floor = none → Ramped (o.mixOf b) n) ∧
    ((∀ e, ¬ IsCandidate o b e) → ∀ e ∈ o.ann.entries, (o.mixOf b).floor = some e.handle →
      Ramped (leavingMix e (o.mixOf b)) n) := by
  refine ⟨fun e he => ?_, fun hnone hfloor => ?_, fun hnone e he hfloor => ?_⟩
  · rw [bestOf_candidates hold he] at h
    have h : Ramped (takenMix e (o.mixOf b)) n := h
    have hgate : (if (o.mixOf b).floor = some e.handle ∨ (o.mixOf b).floor = none then (o.mixOf b).gate else mute) =
        if (o.mixOf b).floor = none ∨ (o.mixOf b).floor = some e.handle then (o.mixOf b).gate else 127 :=
      if_congr Or.comm rfl rfl
    refine ⟨h.floor, h.duckTarget, h.duckStep, h.gateStep, h.gateTarget.trans (gateTargetFor_candidate he.1.2.1), ?_, ?_⟩
    · rw [h.duckTarget, h.duckStep]
      exact h.duck
    · rw [h.gateTarget, h.gateStep, ← hgate]
      exact h.gate
  · have hentry : o.floorEntry? b = none := by rw [State.floorEntry?, hfloor]; rfl
    rw [bestOf_no_candidates hnone, hentry] at h
    exact h
  · have hentry : o.floorEntry? b = some e := by
      rw [State.floorEntry?, hfloor]
      exact entry?_of_mem hold he
    rw [bestOf_no_candidates hnone, hentry] at h
    exact h

end Sys2Proof.Machine
end

section
/-! PROOFS. Audiences and peaks after a block start follow the floors gained and lost (R131). -/

namespace Sys2Proof.Machine

/-! ## One berth's turn -/

/-- The entry after a berth has come to hear the handle `q`, if any. -/
def gained (q : Option Byte) (x : Entry) : Entry :=
  match q with
  | some k => heardMore k x
  | none => x

/-- The entry after a berth's floor has gone from `p` to `q`. -/
def rehear (p q : Option Byte) (x : Entry) : Entry := if p = q then x else gained q (unheard p x)

theorem map_rehear_same (p : Option Byte) (es : List Entry) : es.map (rehear p p) = es := by
  refine (List.map_congr_left fun x _ => ?_).trans (List.map_id es)
  exact if_pos rfl

theorem entries_evaluateFloor (b : BerthNo) (s : State) : (evaluateFloor b s).ann.entries =
    s.ann.entries.map (rehear (s.mixOf b).floor ((evaluateFloor b s).mixOf b).floor) := by
  have hsame : ∀ t : State, t.ann.entries = s.ann.entries → (t.mixOf b).floor = (s.mixOf b).floor →
      t.ann.entries = s.ann.entries.map (rehear (s.mixOf b).floor (t.mixOf b).floor) := fun t hentries hfloor => by
    rw [hentries, hfloor, map_rehear_same]
  unfold evaluateFloor
  split
  next e _ =>
    split
    next hkeeps =>
      refine hsame _ rfl ?_
      unfold keepFloor
      rw [State.mixOf_modMix_same, hkeeps]
    next hchanges =>
      have hfloor : ((changeFloor b e s).mixOf b).floor = some e.handle := by
        unfold changeFloor
        rw [State.mixOf_modMix_same]
      rw [hfloor, ann_changeFloor]
      refine List.map_congr_left fun x _ => ?_
      unfold rehear
      rw [if_neg hchanges]
      rfl
  · split
    · exact hsame _ rfl rfl
    next e he =>
      split
      · refine hsame _ rfl ?_
        unfold fadeFloor
        rw [State.mixOf_modMix_same]
      · obtain ⟨k, hk, hfound⟩ := Option.bind_eq_some_iff.1 he
        have hfloor : ((loseFloor b e s).mixOf b).floor = none := by
          unfold loseFloor
          rw [State.mixOf_modMix_same]
        rw [hfloor, hk]
        have hlost : (loseFloor b e s).ann.entries = s.ann.entries.map (heardLess e.handle) := rfl
        rw [hlost, State.entry?_handle _ hfound]
        rfl

theorem entries_mixBerth (micD micC : Block) (b : BerthNo) (s : State) : (mixBerth micD micC s b).ann.entries =
    s.ann.entries.map (rehear (s.mixOf b).floor ((mixBerth micD micC s b).mixOf b).floor) := by
  by_cases h : s.presence b = .present
  · have hevaluated := entries_evaluateFloor b s
    have hentries : (mixBerth micD micC s b).ann.entries = (evaluateFloor b s).ann.entries := by
      rw [mixBerth_of_present micD micC h]
      dsimp only
      split <;> rfl
    rw [hentries, hevaluated, mixOf_mixBerth_of_present micD micC h]
    rfl
  · rw [mixBerth_of_absent micD micC h, map_rehear_same]

/-! ## Floors gained and lost -/

/-- The berths that come to have this entry as their floor. -/
def joined (k : Byte) (p q : BerthNo → Option Byte) : Nat := allBerths.countP fun b => decide (q b = some k ∧ p b ≠ some k)

theorem joined_same (k : Byte) (p : BerthNo → Option Byte) : joined k p p = 0 :=
  List.countP_eq_zero.2 fun _ _ hb => (of_decide_eq_true hb).2 (of_decide_eq_true hb).1

section
variable {p q q' : BerthNo → Option Byte} {b : BerthNo} (hb : q b = p b) (hothers : ∀ c, c ≠ b → q' c = q c) (k : Byte)
include hb hothers

theorem joined_gain : joined k p q' = joined k p q + if q' b = some k ∧ p b ≠ some k then 1 else 0 := by
  have hmem : b ∈ allBerths := List.mem_finRange b
  have hchange := countP_one_change (xs := allBerths) (List.nodup_finRange berthCount) (b := b)
    (p := fun c => decide (q' c = some k ∧ p c ≠ some k)) (q := fun c => decide (q c = some k ∧ p c ≠ some k))
    fun c hc => by rw [hothers c hc]
  have hnot : ¬ (p b = some k ∧ p b ≠ some k) := fun h => h.2 h.1
  simp only [hmem, true_and, decide_eq_true_eq, hb, if_neg hnot] at hchange
  exact hchange

theorem joined_loss : joined k q' p = joined k q p + if p b = some k ∧ q' b ≠ some k then 1 else 0 := by
  have hmem : b ∈ allBerths := List.mem_finRange b
  have hchange := countP_one_change (xs := allBerths) (List.nodup_finRange berthCount) (b := b)
    (p := fun c => decide (p c = some k ∧ q' c ≠ some k)) (q := fun c => decide (p c = some k ∧ q c ≠ some k))
    fun c hc => by rw [hothers c hc]
  have hnot : ¬ (p b = some k ∧ p b ≠ some k) := fun h => h.2 h.1
  simp only [hmem, true_and, decide_eq_true_eq, hb, if_neg hnot] at hchange
  exact hchange

end

/-- What the turns so far, from floors `p` to floors `q`, have made of an entry's audience and peak. -/
structure Reheard (p q : BerthNo → Option Byte) (e f : Entry) : Prop where
  same : SameButAudience e f
  audience : f.audience + joined e.handle q p = e.audience + joined e.handle p q
  peakLow : max e.peak f.audience ≤ f.peak
  peakHigh : f.peak ≤ max e.peak (e.audience + joined e.handle p q)
  noGain : joined e.handle p q = 0 → f.peak = e.peak
  noLoss : joined e.handle q p = 0 → f.peak = max e.peak f.audience

/-- An entry's audience and peak after a berth's floor has gone from `o` to `v`. -/
theorem rehear_cases (o v : Option Byte) (x : Entry) :
    (o = some x.handle ∧ v ≠ some x.handle ∧ rehear o v x = { x with audience := x.audience - 1 }) ∨
    (o ≠ some x.handle ∧ v = some x.handle ∧
      rehear o v x = { x with audience := x.audience + 1, peak := max x.peak (x.audience + 1) }) ∨
    ((o = some x.handle ↔ v = some x.handle) ∧ rehear o v x = x) := by
  have hless : unheard o x = if o = some x.handle then { x with audience := x.audience - 1 } else x := by
    cases o with
    | none => rfl
    | some k => exact if_congr (by simp [eq_comm]) rfl rfl
  by_cases hov : o = v
  · exact .inr (.inr ⟨by rw [hov], if_pos hov⟩)
  · have hrehear : rehear o v x = gained v (unheard o x) := if_neg hov
    by_cases ho : o = some x.handle
    · have hv : v ≠ some x.handle := fun hv => hov (ho.trans hv.symm)
      refine .inl ⟨ho, hv, ?_⟩
      rw [hrehear, hless, if_pos ho]
      cases v with
      | none => rfl
      | some k => exact if_neg fun hk => hv (congrArg some hk.symm)
    · by_cases hv : v = some x.handle
      · refine .inr (.inl ⟨ho, hv, ?_⟩)
        rw [hrehear, hless, if_neg ho, hv]
        exact if_pos rfl
      · refine .inr (.inr ⟨⟨fun h => absurd h ho, fun h => absurd h hv⟩, ?_⟩)
        rw [hrehear, hless, if_neg ho]
        cases v with
        | none => rfl
        | some k => exact if_neg fun hk => hv (congrArg some hk.symm)

theorem Reheard.step {p q q' : BerthNo → Option Byte} {b : BerthNo} (hb : q b = p b) (hothers : ∀ c, c ≠ b → q' c = q c)
    {e f : Entry} (h : Reheard p q e f) (hheard : q b = some f.handle → 1 ≤ f.audience) :
    Reheard p q' e (rehear (q b) (q' b) f) := by
  have hhandle : f.handle = e.handle := by rw [h.same]
  have hgain := joined_gain hb hothers e.handle
  have hloss := joined_loss hb hothers e.handle
  obtain ⟨hsame, haudience, hlow, hhigh, hnoGain, hnoLoss⟩ := h
  rw [← hhandle] at hgain hloss haudience hhigh hnoGain hnoLoss
  rw [← hb] at hgain hloss
  rcases rehear_cases (q b) (q' b) f with ⟨ho, hv, hf⟩ | ⟨ho, hv, hf⟩ | ⟨hiff, hf⟩
  · have hone := hheard ho
    rw [if_neg fun hgained => hv hgained.1] at hgain
    rw [if_pos ⟨ho, hv⟩] at hloss
    rw [hf]
    refine ⟨by rw [hsame]; rfl, ?_, ?_, ?_, ?_, ?_⟩ <;> simp only [← hhandle] <;> omega
  · rw [if_pos ⟨hv, ho⟩] at hgain
    rw [if_neg fun hlost => ho hlost.1] at hloss
    rw [hf]
    refine ⟨by rw [hsame]; rfl, ?_, ?_, ?_, ?_, ?_⟩ <;> simp only [← hhandle] <;> omega
  · rw [if_neg fun hgained => hgained.2 (hiff.2 hgained.1)] at hgain
    rw [if_neg fun hlost => hlost.2 (hiff.1 hlost.1)] at hloss
    rw [hf]
    refine ⟨hsame, ?_, hlow, ?_, ?_, ?_⟩ <;> simp only [← hhandle] <;> omega

/-- The floors of a state. -/
def seats (s : State) (b : BerthNo) : Option Byte := (s.mixOf b).floor

theorem reheard_forEach (micD micC : Block) {o : State} {bs : List BerthNo} (hnodup : bs.Nodup) {t : State}
    (ht : AnnouncementsHold t) (hleft : ∀ b ∈ bs, seats t b = seats o b)
    (h : ∀ e ∈ o.ann.entries, ∃ f ∈ t.ann.entries, Reheard (seats o) (seats t) e f) :
    ∀ e ∈ o.ann.entries, ∃ f ∈ (forEach bs (mixBerth micD micC) t).ann.entries,
      Reheard (seats o) (seats (forEach bs (mixBerth micD micC) t)) e f := by
  induction bs generalizing t with
  | nil => exact h
  | cons b bs ih =>
    obtain ⟨hb, hnodup⟩ := List.nodup_cons.1 hnodup
    have hothers : ∀ c, c ≠ b → seats (mixBerth micD micC t b) c = seats t c := fun c hc =>
      congrArg MixState.floor (mixOf_mixBerth_of_ne micD micC (Ne.symm hc) t)
    refine ih hnodup (announcementsHold_mixBerth ht micD micC b) (fun c hc => ?_) fun e he => ?_
    · rw [hothers c fun heq => hb (heq ▸ hc)]
      exact hleft c (List.mem_cons_of_mem _ hc)
    · obtain ⟨f, hf, hreheard⟩ := h e he
      refine ⟨rehear (seats t b) (seats (mixBerth micD micC t b) b) f, ?_,
        hreheard.step (hleft b (List.mem_cons_self ..)) hothers fun hseat => ?_⟩
      · rw [entries_mixBerth]
        exact List.mem_map_of_mem hf
      · obtain ⟨haudience, -, -⟩ := (announcementsHold_iff.1 ht).1.floors.audience f hf
        rw [haudience]
        exact List.countP_pos_iff.2 ⟨b, List.mem_finRange b, decide_eq_true hseat⟩

theorem reheard_takeBerths (micD micC : Block) (first : List BerthNo) {o : State} (h : AnnouncementsHold o) :
    ∀ e ∈ o.ann.entries, ∃ f ∈ (takeBerths micD micC first o).ann.entries,
      Reheard (seats o) (seats (takeBerths micD micC first o)) e f := by
  refine reheard_forEach micD micC (nodup_berthOrder first) h (fun _ _ => rfl) fun e he => ?_
  obtain ⟨-, hpeak, -⟩ := (announcementsHold_iff.1 h).1.floors.audience e he
  exact ⟨e, he, rfl, rfl, Nat.max_le.2 ⟨Nat.le_refl _, hpeak⟩, Nat.le_max_left .., fun _ => rfl,
    fun _ => (Nat.max_eq_left hpeak).symm⟩

theorem reheard_afterBlockStart (micD micC : Block) (first : List BerthNo) {s : State} (h : AnnouncementsHold (afterAdvances s)) :
    ∀ e ∈ (afterAdvances s).ann.entries, ∃ f ∈ (afterBlockStart micD micC first s).ann.entries,
      Reheard (seats (afterAdvances s)) (seats (afterBlockStart micD micC first s)) e f := by
  have hann : (afterBlockStart micD micC first s).ann = (takeBerths micD micC first (afterAdvances s)).ann := by
    unfold afterBlockStart afterMixes
    generalize takeBerths micD micC first (afterAdvances s) = t
    simp
  have hseats : seats (afterBlockStart micD micC first s) = seats (takeBerths micD micC first (afterAdvances s)) :=
    funext fun b => by rw [seats, seats, mixOf_afterBlockStart, mixOf_takeBerths]
  rw [hann, hseats]
  exact reheard_takeBerths micD micC first h

theorem leavingMix_floor (e : Entry) {m : MixState} (h : m.floor = some e.handle) :
    (leavingMix e m).floor = if phaseRead e = .tail then some e.handle else none := by
  rw [leavingMix, h]

theorem leavingMix_duck (e : Entry) (m : MixState) : (leavingMix e m).duck = m.duck := rfl

theorem leavingMix_gate (e : Entry) (m : MixState) :
    (leavingMix e m).gate = if phaseRead e = .tail then m.gate else 127 := rfl

/-- Settles O48: each berth takes its floor from the best candidate in its own turn, and audiences follow the floors. -/
theorem floorsAfterBlockStart : Obligations.FloorsAfterBlockStart := by
  intro s micD micC first hup hold
  refine ⟨_, exec_blockStart hup micD micC first, fun e he => ?_, fun b => ⟨fun habsent => ?_, fun hpresent => ?_⟩⟩
  · obtain ⟨f, hf, hsame, haudience, hlow, hhigh, hnoGain, hnoLoss⟩ := reheard_afterBlockStart micD micC first hold e he
    exact ⟨f, hf, hsame, haudience, hlow, hhigh, hnoGain, hnoLoss⟩
  · exact mixOf_afterBlockStart_of_absent micD micC first s b habsent
  · obtain ⟨hbest, hidle, hleaving⟩ := floor_of_evaluation hold (ramped_afterBlockStart micD micC first s b hpresent)
    refine ⟨hbest, fun hnone hfloor => ?_, fun hnone e he hfloor => ?_⟩
    · obtain ⟨hn, hduckTarget, hgateTarget, hduckStep, hgateStep, hduck, hgate⟩ := hidle hnone hfloor
      exact ⟨hn.trans hfloor, hduckTarget, hgateTarget, hduckStep, hgateStep, hduck, hgate⟩
    · obtain ⟨hn, hduckTarget, hgateTarget, hduckStep, hgateStep, hduck, hgate⟩ := hleaving hnone e he hfloor
      rw [leavingMix_duck] at hduck
      rw [leavingMix_gate] at hgate
      exact ⟨hn.trans (leavingMix_floor e hfloor), hduckTarget, hgateTarget, hduckStep, hgateStep, hduck, hgate⟩

end Sys2Proof.Machine
end

section
/-! PROOFS. The mix after a block start: its arithmetic, and what a berth's block is made from (R148 to R152, O49). -/

namespace Sys2Proof.Machine

/-! ## Terms and limits (R149 to R152) -/

theorem multiplier_eq_getD (f : Fin 8) :
    multiplier f = [32768, 30048, 27554, 25268, 23170, 21247, 19484, 17867].getD f.val 0 := by
  revert f
  decide

theorem term_mute (x : Int) : term x 127 = 0 := if_pos (Nat.le_refl 127)

/-- A term is the product divided by its power of two, rounded half up (R149). -/
theorem term_rounds (x : Int) {a : Nat} (ha : a ≤ 126) :
    let d : Int := 2 ^ (15 + a / 8)
    let product : Int := x * [32768, 30048, 27554, 25268, 23170, 21247, 19484, 17867].getD (a % 8) 0
    d * term x a ≤ product + 2 ^ (14 + a / 8) ∧ product + 2 ^ (14 + a / 8) < d * (term x a + 1) := by
  intro d product
  have hd : 0 < d := Int.pow_pos (by decide)
  have hmultiplier := multiplier_eq_getD ⟨a % 8, Nat.mod_lt _ (by decide)⟩
  have hterm : term x a = (product + 2 ^ (14 + a / 8)) / d := by
    have hsounds : ¬ mute ≤ a := Nat.not_le.2 (Nat.lt_succ_of_le ha)
    unfold term
    rw [if_neg hsounds]
    dsimp only
    rw [hmultiplier]
  rw [hterm]
  refine ⟨Int.mul_ediv_self_le (Int.ne_of_gt hd), ?_⟩
  rw [Int.mul_add, Int.mul_one]
  exact Int.lt_mul_ediv_self_add hd

theorem limited_eq (y : Int) : limited y = limitTo16 y := by
  unfold limited limitTo16
  split
  · omega
  · split <;> omega

theorem toInt_limited (y : Int) : (BitVec.ofInt 16 (limited y)).toInt = limitTo16 y := by
  have hlow : -32768 ≤ limited y := Int.le_max_left ..
  have hhigh : limited y ≤ 32767 := by unfold limited; omega
  rw [← limited_eq, BitVec.toInt_ofInt]
  refine Int.bmod_eq_of_le ?_ ?_ <;> simp <;> omega

/-! ## What a berth's block is made from -/

section
variable (micD micC : Block)

theorem mixInputs_writeMix (s : State) (x : MixInputs) (m : MixState) (b : BerthNo) :
    mixInputs micD micC (withMix s (writeMix x m)) b = mixInputs micD micC (withMix s m) b := by
  unfold mixInputs State.floorEntry?
  simp only [mixOf_withMix]
  rfl

/-- A PRESENT berth's record after a block start is the mix that is made from the state as it then stands. -/
theorem mixOf_afterBlockStart_of_present (first : List BerthNo) (s : State) (b : BerthNo)
    (h : (afterAdvances s).presence b = .present) : (afterBlockStart micD micC first s).mixOf b =
      writeMix (mixInputs micD micC (afterBlockStart micD micC first s) b) (rampedMix (afterAdvances s) b) := by
  have hturn := mixOf_mixBerth_of_present micD micC h
  have hframes : mixInputs micD micC (afterBlockStart micD micC first s) b =
      mixInputs micD micC (afterMixes micD micC first s) b := by
    obtain ⟨lines, hlines, -⟩ := takeFrames_eq (afterMixes micD micC first s)
    unfold afterBlockStart
    rw [hlines]
    rfl
  have hinputs : mixInputs micD micC (afterMixes micD micC first s) b =
      mixInputs micD micC (withMix (berthView b (afterAdvances s)) (rampedMix (afterAdvances s) b)) b := by
    rw [← mixInputs_berthView, afterMixes, berthView_takeBerths, berthView_mixBerth, hturn, mixInputs_writeMix]
  rw [mixOf_afterBlockStart, hframes, hinputs, hturn]

theorem mixInputs_programme (s : State) (b : BerthNo) : (mixInputs micD micC s b).programme = programmeBlock s b := by
  unfold mixInputs
  split <;> rfl

theorem mixInputs_ap (s : State) (b : BerthNo) : (mixInputs micD micC s b).ap =
    programmeAttenuation s.coach.latch (s.live b).programme.isSome (effectiveVolume s b) (berthTrim s b) (s.mixOf b).duck := by
  unfold mixInputs
  split <;> rfl

theorem mixInputs_of_no_floor {s : State} {b : BerthNo} (h : s.floorEntry? b = none) :
    (mixInputs micD micC s b).announcement = .silence ∧ (mixInputs micD micC s b).chime = .silence ∧
      (mixInputs micD micC s b).aa = 127 ∧ (mixInputs micD micC s b).ac = 127 := by
  unfold mixInputs
  rw [h]
  exact ⟨rfl, rfl, rfl, rfl⟩

theorem mixInputs_of_floor {s : State} {b : BerthNo} {e : Entry} (h : s.floorEntry? b = some e) :
    (mixInputs micD micC s b).announcement = announcementBlock micD micC e ∧
      (mixInputs micD micC s b).chime = (chimePassed s e).1 ∧
      (mixInputs micD micC s b).aa =
        announcementAttenuation e.params.cls e.params.level (effectiveVolume s b) (s.mixOf b).gate ∧
      (mixInputs micD micC s b).ac =
        chimeAttenuation e.params.cls e.params.level (effectiveVolume s b) (s.mixOf b).gate (chimePassed s e).2 := by
  unfold mixInputs
  rw [h]
  exact ⟨rfl, rfl, rfl, rfl⟩

end

theorem programmeAttenuation_eq (latch : Bool) (p : Option ProgrammeNo) (ve trim duck : Nat) :
    programmeAttenuation latch p.isSome ve trim duck = if latch = true ∨ p = none then 127 else min 127 (ve + trim + duck) := by
  unfold programmeAttenuation
  cases latch <;> cases p <;> simp [mute]

/-! ## The block that is delivered -/

section
variable (x : MixInputs) (m : MixState)

/-- The sum of the three terms of a sample (R151). -/
def mixSum (i : Fin 48) : Int := sumOfTerms (x.programme.get i) (x.announcement.get i) (x.chime.get i) x.ap x.aa x.ac

theorem delivered_writeMix : ∃ out, (writeMix x m).delivered = some out ∧ ∀ i, (out.get i).toInt = limitTo16 (mixSum x i) := by
  refine ⟨_, rfl, fun i => ?_⟩
  rw [outputBlock, Table.get_ofFn, toInt_limited]
  rfl

theorem clipFlag_writeMix : (writeMix x m).clipFlag = true ↔ ∃ i, mixSum x i ≠ limitTo16 (mixSum x i) := by
  show List.any _ _ = true ↔ _
  rw [List.any_eq_true]
  constructor
  · rintro ⟨y, hy, hlimited⟩
    obtain ⟨i, -, rfl⟩ := List.mem_map.1 hy
    rw [limited_eq, bne_iff_ne] at hlimited
    exact ⟨i, hlimited.symm⟩
  · rintro ⟨i, hi⟩
    refine ⟨mixSum x i, List.mem_map_of_mem (List.mem_finRange i), ?_⟩
    rw [limited_eq, bne_iff_ne]
    exact hi.symm

theorem clipCount_writeMix : (writeMix x m).clipCount =
    if (writeMix x m).clipFlag then min 65535 (m.clipCount + 1) else m.clipCount := rfl

end

theorem clipCount_rampedMix (s : State) (b : BerthNo) : (rampedMix s b).clipCount = (s.mixOf b).clipCount := by
  rw [rampedMix, mixOf_evaluateFloor]
  show (evaluatedMix _ _ _).clipCount = _
  unfold evaluatedMix
  split <;> rfl

/-! ## CLIP (R152) -/

section
variable (micD micC : Block)

theorem clip_mixBerth (s : State) (b : BerthNo) : (mixBerth micD micC s b).flag .clip =
    (s.flag .clip || (decide (s.presence b = .present) && ((mixBerth micD micC s b).mixOf b).clipFlag)) := by
  by_cases h : s.presence b = .present
  · have hevents : (evaluateFloor b s).events = s.events := by
      obtain ⟨es, mix, heq⟩ := evaluateFloor_eq b s
      rw [heq]
    have hflag : ((evaluateFloor b s).modMix b rampMix).flag .clip = s.flag .clip := congrArg (fun v : Events => v.flags.getLsbD 9) hevents
    rw [mixBerth_of_present micD micC h, decide_eq_true h, Bool.true_and]
    generalize (evaluateFloor b s).modMix b rampMix = u at hflag
    dsimp only
    split
    next hclips =>
      have hmix : ((raise .clip (u.modMix b (writeMix (mixInputs micD micC u b)))).mixOf b).clipFlag = true := by
        show (State.mixOf (u.modMix b _) b).clipFlag = _
        rw [State.mixOf_modMix_same]
        exact hclips
      rw [hmix, flag_raise]
      simp
    next hclips =>
      rw [State.mixOf_modMix_same]
      have hclips : (writeMix (mixInputs micD micC u b) (u.mixOf b)).clipFlag = false := Bool.not_eq_true _ ▸ hclips
      rw [hclips, Bool.or_false]
      exact hflag
  · rw [mixBerth_of_absent micD micC h, decide_eq_false h, Bool.false_and, Bool.or_false]

theorem presence_mixBerth (s : State) (b c : BerthNo) : (mixBerth micD micC s b).presence c = s.presence c := by
  obtain ⟨es, mix, flags, heq⟩ := mixBerth_eq micD micC b s
  rw [heq]
  rfl

/-- CLIP after berths' turns: standing before, or raised by a berth of them whose block was limited. -/
theorem clip_forEach {bs : List BerthNo} (hnodup : bs.Nodup) (s : State) :
    (forEach bs (mixBerth micD micC) s).flag .clip = (s.flag .clip || bs.any fun b =>
      decide (s.presence b = .present) && ((forEach bs (mixBerth micD micC) s).mixOf b).clipFlag) := by
  induction bs generalizing s with
  | nil => exact (Bool.or_false _).symm
  | cons b bs ih =>
    obtain ⟨hb, hnodup⟩ := List.nodup_cons.1 hnodup
    have hkept : (forEach bs (mixBerth micD micC) (mixBerth micD micC s b)).mixOf b = (mixBerth micD micC s b).mixOf b := by
      refine forEach_invariant (fun t => t.mixOf b = (mixBerth micD micC s b).mixOf b) bs (fun t c hc ht => ?_) rfl
      have hne : c ≠ b := fun heq => hb (heq ▸ hc)
      rw [mixOf_mixBerth_of_ne micD micC hne, ht]
    have ih := ih hnodup (mixBerth micD micC s b)
    rw [clip_mixBerth] at ih
    simp only [presence_mixBerth] at ih
    rw [List.any_cons, ← Bool.or_assoc]
    show (forEach bs (mixBerth micD micC) (mixBerth micD micC s b)).flag .clip = _
    rw [ih]
    show _ = ((_ || (_ && ((forEach bs (mixBerth micD micC) (mixBerth micD micC s b)).mixOf b).clipFlag)) || _)
    rw [hkept]
    rfl

theorem any_berthOrder (first : List BerthNo) (p : BerthNo → Bool) : (berthOrder first).any p = allBerths.any p := by
  rw [Bool.eq_iff_iff, List.any_eq_true, List.any_eq_true]
  exact ⟨fun ⟨b, _, hb⟩ => ⟨b, List.mem_finRange b, hb⟩, fun ⟨b, _, hb⟩ => ⟨b, mem_berthOrder first b, hb⟩⟩

theorem clip_takeBerths (first : List BerthNo) (s : State) : (takeBerths micD micC first s).flag .clip =
    (s.flag .clip || allBerths.any fun b =>
      decide (s.presence b = .present) && ((takeBerths micD micC first s).mixOf b).clipFlag) := by
  rw [takeBerths, clip_forEach micD micC (nodup_berthOrder first), any_berthOrder]

theorem clip_afterAdvances (s : State) : (afterAdvances s).flag .clip = s.flag .clip := by
  unfold afterAdvances
  rw [(raises_takeEntries _).others .clip (by simp [tableEvents]), (raises_takeVoices _).others .clip (by simp [tableEvents]),
    (raises_takeTracks _).others .clip (by simp), (raises_takeAge _).others .clip (by simp),
    (raises_takeCommit _).others .clip (by simp), (raises_openBoundary s).others .clip (by simp [slotEvents])]

/-- CLIP after a block start: standing before, or raised by a PRESENT berth whose block was limited (R152). -/
theorem clip_afterBlockStart (first : List BerthNo) (s : State) : (afterBlockStart micD micC first s).flag .clip =
    (s.flag .clip || allBerths.any fun b =>
      decide ((afterAdvances s).presence b = .present) && ((afterBlockStart micD micC first s).mixOf b).clipFlag) := by
  have hflag : (afterBlockStart micD micC first s).flag .clip = (takeBerths micD micC first (afterAdvances s)).flag .clip :=
    congrArg (fun v : Events => v.flags.getLsbD 9) (events_afterBlockStart micD micC first s)
  have hmix : ∀ b, (afterBlockStart micD micC first s).mixOf b =
      (takeBerths micD micC first (afterAdvances s)).mixOf b := fun b => by
    rw [mixOf_afterBlockStart, mixOf_takeBerths]
  simp only [hmix]
  rw [hflag, clip_takeBerths, clip_afterAdvances]

end

end Sys2Proof.Machine
end

section
/-! PROOFS. What O49 says of a block start, read off the mix that is written (R148 to R152). -/

namespace Sys2Proof.Machine

/-- Only in LIVE and TAIL is the source heard (R148). -/
theorem announcementBlock_of_silent (micD micC : Block) {e : Entry} (h : ¬ (phaseRead e = .live ∨ phaseRead e = .tail)) :
    announcementBlock micD micC e = .silence := by
  unfold announcementBlock
  cases hphase : phaseRead e with
  | live => exact absurd (.inl hphase) h
  | tail => exact absurd (.inr hphase) h
  | queued | lead | chime => rfl

theorem chimePassed_of_chime (s : State) {e : Entry} (h : phaseRead e = .chime) :
    chimePassed s e = (s.voice e.source).output.getD (.silence, 127) := by
  unfold chimePassed
  rw [h]
  cases (s.voice e.source).output <;> rfl

theorem chimePassed_of_silent (s : State) {e : Entry} (h : phaseRead e ≠ .chime) : chimePassed s e = (.silence, 127) := by
  unfold chimePassed
  cases hphase : phaseRead e with
  | chime => exact absurd hphase h
  | queued | lead | live | tail => rfl

/-- Settles O49: the mix is made from the values that stand for the block, and CLIP raised where one was limited. -/
theorem mixAfterBlockStart : Obligations.MixAfterBlockStart := by
  refine ⟨fun x a => ⟨fun ha => ?_, term_rounds x.toInt⟩, fun s micD micC first hup =>
    ⟨afterBlockStart micD micC first s, exec_blockStart hup micD micC first, clip_afterBlockStart micD micC first s,
      fun b hpresent => ?_⟩⟩
  · rw [ha, term_mute]
  have hmix := mixOf_afterBlockStart_of_present micD micC first s b hpresent
  have hcount := clipCount_rampedMix (afterAdvances s) b
  generalize afterBlockStart micD micC first s = t at hmix ⊢
  generalize rampedMix (afterAdvances s) b = m at hmix hcount
  generalize afterAdvances s = o at hcount ⊢
  intro n r ve trim programme announcement chime sum
  have hprogramme : (mixInputs micD micC t b).programme = programme := by
    rw [mixInputs_programme]
    rfl
  have hannouncement : (mixInputs micD micC t b).announcement = announcement := by
    cases hfloor : t.floorEntry? b with
    | none =>
      obtain ⟨hsilent, -, -, -⟩ := mixInputs_of_no_floor micD micC hfloor
      rw [hsilent]
      simp only [announcement, hfloor]
    | some e =>
      obtain ⟨hblock, -, -, -⟩ := mixInputs_of_floor micD micC hfloor
      rw [hblock]
      simp only [announcement, hfloor]
      split
      next hheard =>
        unfold announcementBlock
        rcases hheard with hphase | hphase <;> rw [hphase] <;> cases e.source <;> rfl
      next hsilent => exact announcementBlock_of_silent micD micC hsilent
  have hchime : ∀ e, t.floorEntry? b = some e → chimePassed t e = chime := fun e hfloor => by
    simp only [chime, hfloor]
    split
    next hphase => exact chimePassed_of_chime t hphase
    next hphase => exact chimePassed_of_silent t hphase
  have hsounded : (mixInputs micD micC t b).chime = chime.1 := by
    cases hfloor : t.floorEntry? b with
    | none =>
      obtain ⟨-, hsilent, -, -⟩ := mixInputs_of_no_floor micD micC hfloor
      rw [hsilent]
      simp only [chime, hfloor]
    | some e =>
      obtain ⟨-, hpassed, -, -⟩ := mixInputs_of_floor micD micC hfloor
      rw [hpassed, hchime e hfloor]
  have hap : n.lastAp = (mixInputs micD micC t b).ap := congrArg MixState.lastAp hmix
  have haa : n.lastAa = (mixInputs micD micC t b).aa := congrArg MixState.lastAa hmix
  have hac : n.lastAc = (mixInputs micD micC t b).ac := congrArg MixState.lastAc hmix
  have hsum : ∀ i, mixSum (mixInputs micD micC t b) i = sum i := fun i => by
    unfold mixSum
    rw [hprogramme, hannouncement, hsounded, ← hap, ← haa, ← hac]
    rfl
  refine ⟨?_, fun hfloor => ?_, fun e hfloor => ?_, ?_, ?_, ?_⟩
  · rw [hap, mixInputs_ap, programmeAttenuation_eq]
    rfl
  · obtain ⟨-, -, haa0, hac0⟩ := mixInputs_of_no_floor micD micC hfloor
    exact ⟨haa.trans haa0, hac.trans hac0⟩
  · obtain ⟨-, -, haa1, hac1⟩ := mixInputs_of_floor micD micC hfloor
    rw [hchime e hfloor] at hac1
    exact ⟨haa.trans haa1, hac.trans hac1⟩
  · obtain ⟨out, hout, hsamples⟩ := delivered_writeMix (mixInputs micD micC t b) m
    refine ⟨out, (congrArg MixState.delivered hmix).trans hout, fun i => ?_⟩
    rw [hsamples, hsum]
  · have hflag : n.clipFlag = true ↔ _ := (congrArg MixState.clipFlag hmix) ▸ clipFlag_writeMix (mixInputs micD micC t b) m
    simpa only [hsum] using hflag
  · have hwritten := clipCount_writeMix (mixInputs micD micC t b) m
    rw [← hmix, hcount] at hwritten
    exact hwritten

end Sys2Proof.Machine
end
